-- ==== Sys2Proof/Word.lean ====
section
/-! DEFINITION. The bit-vector words the manual treats as bits: bytes of frames and of the store, the
16-bit check, and the 640 dots of one row of the slice. Every other quantity is a natural number or an
integer with the range its rule gives. -/

namespace Sys2Proof

/-- A byte of a frame or of the form store. -/
abbrev Byte := BitVec 8

/-- The 16-bit check of R137. -/
abbrev Check := BitVec 16

/-- One row of the slice: bit `c` is the dot at local column `c`, 0..639 (R56). -/
abbrev Dots := BitVec 640

/-- A set of the seven conditions, bit numbers as in table 12-4. -/
abbrev CondSet := BitVec 7

end Sys2Proof
end

