-- ==== Sys2Proof/Config.lean ====
section
/-! DEFINITION. The constants of the part, and the one free value of the model. -/

namespace Sys2Proof.Config

/-- What a byte of the form store holds after an erase or a program that a cold start or a failure
interrupted (R163: "holds whatever it held at that moment"): the byte at an address, for the n-th such
interruption. It has no body: nothing can be proved of its value (log 7). -/
opaque freeByte : Nat → Nat → Byte

/-- Bytes of the form store (R151). -/
def storeBytes : Nat := 1048576
/-- Sectors of the form store (R151). -/
def sectorCount : Nat := 64
/-- Bytes of one sector (R151). -/
def sectorBytes : Nat := 16384
/-- Bytes of one program line (R151). -/
def lineBytes : Nat := 256
/-- Bytes of an object header (R151). -/
def headerBytes : Nat := 64
/-- Dots of one slice (R167). -/
def sliceWidth : Nat := 640
/-- Depth of the job, VOID, command and store queues (R1, R139, R149). -/
def queueDepth : Nat := 4
/-- Depth of the report queue, of the demand backlog and of a peer table (R175, R103, R108). -/
def listDepth : Nat := 8
/-- Lead slots of the row ring (R58). -/
def leadDepth : Nat := 5
/-- The highest row of a label (R19). -/
def lastRow : Nat := 4799
/-- Collisions after which a frame is given up (R143). -/
def attemptLimit : Nat := 12
/-- Link address of the control station (R138). -/
def controlAddress : Nat := 14
/-- Broadcast link address (R138). -/
def broadcastAddress : Nat := 15

end Sys2Proof.Config
end

