-- ==== Sys2Proof/Syntax.lean ====
section
/-! DEFINITION. The commands of the part: one constructor of `Instr` for each row of
spec/opcode_table.json. A row whose subject waits in the command queue or the store queue (SETUP, JOB,
STORE_BEGIN, ...) has no operand: it is the taking of that queue's head (R149). -/

namespace Sys2Proof

/-- A frame as the receiver has it at its last check bit: address, kind, payload and check bytes
(R137). The length field is the payload's length. -/
structure RxFrame where
  address : Byte
  kind    : Byte
  payload : List Byte
  check   : Check
  deriving DecidableEq, Repr

/-- The ways a reception ends before the last check bit, other than a quiet line (R146). `sinceEdge` is the
number of bit times since the line's last edge: at the delimiter's fourth sample, and at the length's last
bit (R136). -/
inductive RxError where
  | badDelimiter (sinceEdge : BitVec 2)
  | stuffDominant
  | stuffRecessive
  | lengthAbove480 (sinceEdge : BitVec 3)
  deriving DecidableEq, Repr

/-- The two readers of the form store (R164). -/
inductive Reader where
  | loader
  | rasterizer
  deriving DecidableEq, Repr

/-- What a reader asks of the store: a read of the memory, or the loader's next catalog lookup
(R164, R165). -/
inductive ReadKind where
  | read
  | lookup
  deriving DecidableEq, Repr

/-- The commands, in the table's order. -/
inductive Instr where
  /-- COLD_START (R168): the straps SID1 and SID0 as read when the cold start ends. -/
  | coldStart (sid1 sid0 : Bool)
  /-- SCAN_COMPLETE (R154). -/
  | scanComplete
  /-- ROW_PULSE (R30): `dt` pulse units have passed since the row timer's count last advanced (R118). -/
  | rowPulse (dt : Nat)
  /-- SLW_HOLD_EXPIRY (R133). -/
  | slwHoldExpiry
  /-- TOP_OF_FORM (R26). -/
  | topOfForm
  /-- FRAME_ACCEPTED (R147): a complete frame, at its last check bit. -/
  | frameAccepted (f : RxFrame)
  /-- FRAME_RECEIVE_ERROR (R146). -/
  | frameReceiveError (e : RxError)
  /-- LINE_QUIET (R136). -/
  | lineQuiet
  /-- DEMAND (R109): a DEMAND frame that passed its check, with its address nibbles. -/
  | demand (dest src : BitVec 4) (seq firstRow : BitVec 16) (demands : List (BitVec 16))
  /-- VOID (R13): a VOID frame that passed its check, with its address nibbles. -/
  | void (dest src : BitVec 4) (seq : BitVec 16) (reason : Byte)
  /-- SETUP (R169). -/
  | setup
  /-- QUERY (R171). -/
  | query
  /-- CLEAR (R172). -/
  | clear
  /-- JOB (R5). -/
  | job
  /-- CANCEL with a nonzero seq (R15). -/
  | cancel
  /-- CANCEL with seq 0 (R16). -/
  | cancelAll
  /-- STORE_BEGIN (R158). -/
  | storeBegin
  /-- STORE_DATA (R159). -/
  | storeData
  /-- STORE_END (R160). -/
  | storeEnd
  /-- STORE_DELETE (R161). -/
  | storeDelete
  /-- SECTOR_ERASE_COMPLETE (R158). -/
  | sectorEraseComplete
  /-- LINE_PROGRAM_COMPLETE (R159). -/
  | lineProgramComplete
  /-- MARK_PROGRAM_COMPLETE (R160). -/
  | markProgramComplete
  /-- OPERATION_FAILED (R162). -/
  | operationFailed
  /-- MINIMUM_RUN_COMPLETE (R163). -/
  | minimumRunComplete
  /-- SUSPEND_COMPLETE (R164). -/
  | suspendComplete
  /-- LOAD_COMPLETE (R51). -/
  | loadComplete
  /-- RENDER_COMPLETE (R63). -/
  | renderComplete
  /-- DATA_LOAD_COMPLETE (R125). -/
  | dataLoadComplete
  /-- LATCH_COMPLETE (R125). -/
  | latchComplete
  /-- MAIN_PULSE_COMPLETE (R126). -/
  | mainPulseComplete
  /-- BOOST_PULSE_COMPLETE (R126). -/
  | boostPulseComplete
  /-- CONVERSION_COMPLETE (R129): the converted temperature in °C, before its limits. -/
  | conversionComplete (reading : Int)
  /-- TRANSMIT_OPPORTUNITY (R140). -/
  | transmitOpportunity
  /-- COLLISION (R141): the whole bit times since the line's last edge at the sample that differs, which is
  dominant (R136); 0, if not given: that sample ends a recessive level, and is itself the edge. -/
  | collision (sinceEdge : BitVec 4 := 0)
  /-- JAM_END (R142): another station's drive holds the line dominant past this station's jam, so that its release is
  no edge (R136); if not given, its release is the rising edge. -/
  | jamEnd (held : Bool := false)
  /-- BACKOFF_END (R142). -/
  | backoffEnd
  /-- FRAME_SENT (R144). -/
  | frameSent
  /-- FRAME_BEGINS (R146). -/
  | frameBegins
  /-- STORE_READ_REQUEST (R164). -/
  | storeReadRequest (reader : Reader) (what : ReadKind)
  deriving DecidableEq, Repr

end Sys2Proof
end

