-- ==== Sys2Proof/Machine/State.lean ====
section
/-! DEFINITION. The state of one L2480 as plain data, one structure for each block of 00_scope.md 1.3,
and the state after reset. INVENTORY.md lists every field with the rule that names it. -/

namespace Sys2Proof.Machine

/-! ## Names -/

/-- The station states of R168. -/
inductive StationState where
  | starting | unset | active | outside
  deriving DecidableEq, Repr

/-- The reasons of table 12-5: the void reasons of R11, and the two refusal reasons of R9. -/
inductive Reason where
  | missed | missingObject | badForm | badBars | notArmed | noJob | lateRow | firedShort | hot | peerVoid
  | queueFull | notSetUp
  deriving DecidableEq, Repr

/-- The outcomes of table 12-5 (R35). -/
inductive LabelOutcome where
  | printed | light | truncated | voided | missed | cancelled | refused
  deriving DecidableEq, Repr

/-- The store results of table 12-6 (R156). -/
inductive StoreResult where
  | done | badRequest | inUse | noSpace | noWrite | busy | notFound | orderError | checkMismatch
  | abandoned | failed
  deriving DecidableEq, Repr

/-- The kinds of a stored object, table 12-7. -/
inductive ObjKind where
  | form | glyphSet | graphic
  deriving DecidableEq, Repr

/-- The seven conditions of section 11.4. -/
inductive Cond where
  | warm | hot | slow | storeFault | framesDropped | reportsDropped | unexpectedTof
  deriving DecidableEq, Repr

/-- The four store commands (R156). -/
inductive StoreCmd where
  | begin | data | stop | delete
  deriving DecidableEq, Repr

/-! ## Setup (R169) -/

/-- The values SETUP gives, all 0 before it (R169). -/
structure Setup where
  n     : Nat
  p     : Nat
  bm    : Nat
  ka    : Nat
  kb    : Nat
  kc    : Nat
  tSlow : Int
  tStop : Int
  mask  : CondSet
  deriving DecidableEq, Repr

/-! ## The sequence unit (R1, R2) -/

inductive LabelKind where
  | job | placeholder
  deriving DecidableEq, Repr

/-- One field of a job: its number 1..16 and its value of 0..240 bytes (R2). -/
structure Field where
  number : Nat
  value  : List Byte
  deriving DecidableEq, Repr

/-- An entry of the job queue (R2). -/
structure JobEntry where
  seq       : Nat
  kind      : LabelKind
  form      : Option Nat
  darkness  : Option Nat
  fields    : List Field
  voided    : Option Reason
  cancelled : Bool
  deriving DecidableEq, Repr

/-- The sequence unit (R1). -/
structure SeqUnit where
  lc      : Nat
  queue   : List JobEntry
  preVoid : Nat
  deriving DecidableEq, Repr

/-! ## Element tables (R50, R83) -/

inductive Rotation where
  | r0 | r90 | r180 | r270
  deriving DecidableEq, Repr

inductive Orientation where
  | picket | ladder
  deriving DecidableEq, Repr

inductive DrawMode where
  | black | reverse
  deriving DecidableEq, Repr

/-- A glyph set or graphic reference: the catalog object by number and generation (R50). -/
structure ObjRef where
  number     : Nat
  generation : Nat
  deriving DecidableEq, Repr

/-- One character of bound text: its code, its advance, and whether it is a substituted blank (R45). -/
structure TextChar where
  code        : Nat
  advance     : Nat
  substituted : Bool
  deriving DecidableEq, Repr

/-- The kind-specific part of a table entry (R50; Bars: R83). -/
inductive Part where
  | box (width height thickness : Nat)
  | text (rotation : Rotation) (mx my : Nat) (ref : ObjRef) (glyphHeight width height : Nat) (chars : List TextChar)
  | bars (orientation : Orientation) (m h r re : Nat) (runs : List Nat) (extent barCount : Nat)
      (sliceBars : Option (Nat × Nat))
  | graphic (ref : ObjRef) (width height : Nat)
  deriving DecidableEq, Repr

/-- An entry of an element table (R50): its clipped box is columns `c0..c1`, rows `r0..r1`. -/
structure TableEntry where
  index : Nat
  mode  : DrawMode
  x     : Nat
  y     : Nat
  c0    : Nat
  c1    : Nat
  r0    : Nat
  r1    : Nat
  part  : Part
  deriving DecidableEq, Repr

/-! ## Label contexts (R19) -/

inductive CtxState where
  | free | loading | armed | running | ending
  deriving DecidableEq, Repr

/-- The two context records. -/
inductive CtxId where
  | a | b
  deriving DecidableEq, Repr

/-- A context record (R19). -/
structure Context where
  state        : CtxState
  seq          : Nat
  kind         : LabelKind
  form         : Option Nat
  h            : Option Nat
  darkness     : Option Nat
  fields       : List Field
  table        : List TableEntry
  rendered     : Nat
  taken        : Nat
  completed    : Nat
  trimmed      : Nat
  miss         : Nat
  light        : Bool
  fieldClipped : Bool
  substituted  : Bool
  truncated    : Bool
  voided       : Option Reason
  cancelled    : Bool
  deriving DecidableEq, Repr

/-- A Free record keeps nothing of any label (R19). -/
def Context.free : Context :=
  { state := .free, seq := 0, kind := .job, form := none, h := none, darkness := none, fields := [],
    table := [], rendered := 0, taken := 0, completed := 0, trimmed := 0, miss := 0, light := false,
    fieldClipped := false, substituted := false, truncated := false, voided := none, cancelled := false }

/-! ## The form store (R151 to R165) -/

/-- The store memory: the bytes that are not 255, by rising address (R151: an erased byte reads 255). -/
abbrev Memory := List Host.Cell

/-- A catalog entry (R153). -/
structure CatEntry where
  number     : Nat
  kind       : ObjKind
  first      : Nat
  count      : Nat
  length     : Nat
  generation : Nat
  deriving DecidableEq, Repr

inductive SectorState where
  | free | dirty | used
  deriving DecidableEq, Repr

/-- An open write (R157). -/
structure WriteCtx where
  number     : Nat
  kind       : ObjKind
  length     : Nat
  generation : Nat
  first      : Nat
  count      : Nat
  received   : Nat
  check      : Check
  deriving DecidableEq, Repr

/-- An operation of the store controller (R163): a sector erase; a line program, of a header or of body
bytes; a mark program, Valid or Deleted. A program writes its bytes from its address on, and changes no
bit where the byte given has a 1 (R151). -/
inductive StoreOp where
  | erase (sector : Nat)
  | line (address : Nat) (bytes : List Byte)
  | mark (address : Nat) (bytes : List Byte)
  deriving DecidableEq, Repr

/-- The command being served, with what its end needs (R156): a STORE-BEGIN its write to be opened and
the Dirty sectors not yet erased; a STORE-DATA its bytes; a STORE-END nothing more than the open write,
and whether its Valid mark is programmed; a STORE-DELETE its number. -/
inductive Serving where
  | begin (write : WriteCtx) (dirty : List Nat)
  | data (bytes : List Byte)
  | stop (validDone : Bool)
  | delete (number : Nat)
  deriving DecidableEq, Repr

/-- The memory's states (R163): Running says whether the minimum run is complete. -/
inductive MemPhase where
  | idle
  | running (minimumRun : Bool)
  | suspending
  | suspended
  deriving DecidableEq, Repr

/-- The form store controller. `current` is the operation begun, `due` those of the served command not
yet begun; `hold` and `wait` are the read hold and the waiting read of each reader (R164). -/
structure Store where
  memory     : Memory
  catalog    : List CatEntry
  sectors    : List SectorState
  write      : Option WriteCtx
  serving    : Option Serving
  due        : List StoreOp
  current    : Option StoreOp
  phase      : MemPhase
  holdLoader : Bool
  holdRaster : Bool
  waitLoader : Bool
  waitRaster : Bool
  deriving DecidableEq, Repr

/-! ## The form loader (R43, R52) -/

/-! ### Element records as read (R38 to R40, R75, 12.5) -/

/-- Where a Text element's text comes from (R40). -/
inductive TextSource where
  | literal (bytes : List Byte)
  | field (number : Nat)
  deriving DecidableEq, Repr

/-- The kind-specific fields, as clamped (R40, R75). -/
inductive ElementBody where
  | box (width height thickness : Nat)
  | text (glyphSet : Nat) (source : TextSource) (mx my maxChars : Nat)
  | bars (field m h r : Nat) (orientation : Orientation)
  | graphic (number : Nat)
  deriving DecidableEq, Repr

/-- An element record as read and clamped (R39). -/
structure Element where
  mode     : DrawMode
  x        : Nat
  y        : Nat
  rotation : Rotation
  body     : ElementBody
  deriving DecidableEq, Repr

/-- A form as steps 1 and 2 of a load read it: its clamped height and its element records (R38, R43). -/
structure FormBody where
  height   : Nat
  elements : List Element
  deriving DecidableEq, Repr

/-- What a read of the load has brought of an object: a form, `none` for a Bad form (R43); or the leading
body bytes of a glyph set (height, defined codes and advances) or of a graphic (width and height) (R41,
R42). -/
inductive Content where
  | form (body : Option FormBody)
  | lead (bytes : List Byte)
  deriving DecidableEq, Repr

/-- What a catalog lookup of the load found (R52): the entry, if any, and, once its read has been served,
what the load has read of the object. -/
structure Found where
  number  : Nat
  entry   : Option CatEntry
  content : Option Content
  deriving DecidableEq, Repr

/-- Where a load stands: it needs a lookup or a read of a number next, it has failed, or every element has
been examined (R43, R51, R52). -/
inductive LoadStatus where
  | lookup (number : Nat)
  | read (number : Nat)
  | failed (reason : Reason)
  | done
  deriving DecidableEq, Repr

/-- A load in progress (R43): its context, where it stands, what its lookups and reads found, how many of the
form's elements it has examined, the table and the flags found so far, and whether its lookup waits for a
store command (R165). -/
structure Load where
  ctx          : CtxId
  status       : LoadStatus
  found        : List Found
  examined     : Nat
  table        : List TableEntry
  fieldClipped : Bool
  substituted  : Bool
  lookupWaits  : Bool
  deriving DecidableEq, Repr

/-! ## The rasterizer and the row ring (R56 to R67) -/

/-- The row being rendered: whether it is drawn from elements or blank (R66), whether it reads glyph or
graphic rows from the store (R73), and whether its reads were cut off by a TOF that discarded its label's table
before they were served (R64). -/
structure Render where
  ctx   : CtxId
  seq   : Nat
  row   : Nat
  drawn : Bool
  reads : Bool
  cut   : Bool
  deriving DecidableEq, Repr

/-- The render position (R60). -/
structure Position where
  ctx : CtxId
  row : Nat
  deriving DecidableEq, Repr

/-- An active-list entry with its bar cursor (R67, R85); the cursor serves Ladder entries only. -/
structure ActiveEntry where
  entry  : TableEntry
  cursor : Nat
  deriving DecidableEq, Repr

structure Raster where
  rendering : Option Render
  position  : Option Position
  pending   : List TableEntry
  active    : List ActiveEntry
  deriving DecidableEq, Repr

inductive SlotState where
  | rendering | rendered | firing | history
  deriving DecidableEq, Repr

/-- An occupied slot of the row ring (R56). -/
structure Slot where
  state  : SlotState
  seq    : Nat
  row    : Option Nat
  image  : Dots
  demand : Nat
  fired  : Dots
  deriving DecidableEq, Repr

/-- The occupied slots in the firing order of R58: History (oldest first), Firing, lead. The other slots
of the eight are Free. -/
structure Ring where
  history : List Slot
  firing  : Option Slot
  lead    : List Slot
  deriving DecidableEq, Repr

/-! ## Firing (R118, R119) -/

/-- The row timer (R118). -/
structure RowTimer where
  tPred   : Nat
  elapsed : Nat
  seen    : Bool
  deriving DecidableEq, Repr

inductive Boost where
  | a | b | c
  deriving DecidableEq, Repr

/-- An included boost of a phase: its width and its boost data (R115). -/
structure BoostData where
  boost : Boost
  width : Nat
  data  : Dots
  deriving DecidableEq, Repr

/-- One phase of a phase list (R116). -/
structure Phase where
  main   : Dots
  boosts : List BoostData
  deriving DecidableEq, Repr

inductive Stage where
  | load | latch | strobe
  deriving DecidableEq, Repr

/-- The step in progress (R119): the phase (numbered from 0 here), the pulse it belongs to (`none` the
main pulse, `some k` the k-th included boost of the phase, from 0), and its kind. -/
structure FiringStep where
  phase : Nat
  boost : Option Nat
  stage : Stage
  deriving DecidableEq, Repr

/-- The plan in flight (R119); `stopping` says that its remaining steps are abandoned and only the pulse
in progress runs out (R128). -/
structure Plan where
  seq      : Nat
  row      : Nat
  phases   : List Phase
  w0       : Nat
  trim     : Nat
  miss     : Bool
  step     : FiringStep
  fired    : Dots
  stopping : Bool
  deriving DecidableEq, Repr

/-- The head lines: the set being shifted on HD0..HD3 with HCK (`none`: HCK idle), HLT, HSB (R119, R125).
With no set being shifted HD0..HD3 are low: at a cold start by R119, and at every other moment outside a load
by the model's choice (DESIGN CHOICE, log 31). -/
structure HeadLines where
  shifting : Option Dots
  hlt      : Bool
  hsb      : Bool
  deriving DecidableEq, Repr

/-- The temperature monitor and the SLW hold count (R129 to R133). -/
structure Thermal where
  t    : Int
  warm : Bool
  hot  : Bool
  hold : Nat
  deriving DecidableEq, Repr

/-- The two shared lines this station drives: RDY released, SLW asserted (R25, R133). -/
structure Lines where
  rdyReleased : Bool
  slwAsserted : Bool
  deriving DecidableEq, Repr

/-! ## Records (R36, R156, R171) -/

structure LabelRecord where
  seq          : Nat
  outcome      : LabelOutcome
  reason       : Option Reason
  completed    : Nat
  trimmed      : Nat
  miss         : Nat
  light        : Bool
  fieldClipped : Bool
  substituted  : Bool
  truncated    : Bool
  deriving DecidableEq, Repr

structure StoreRecord where
  cmd        : StoreCmd
  number     : Nat
  result     : StoreResult
  generation : Nat
  received   : Nat
  deriving DecidableEq, Repr

/-- The five link counts of R150. -/
structure Counts where
  badFrames  : Nat
  collisions : Nat
  excessive  : Nat
  dropped    : Nat
  stale      : Nat
  deriving DecidableEq, Repr

structure IdentRecord where
  number      : Nat
  state       : StationState
  n           : Nat
  sectorsFree : Nat
  objects     : Nat
  t           : Int
  lc          : Nat
  queueDepth  : Nat
  counts      : Counts
  deriving DecidableEq, Repr

inductive Record where
  | label (r : LabelRecord)
  | store (r : StoreRecord)
  | ident (r : IdentRecord)
  deriving DecidableEq, Repr

/-! ## The link interface (R136 to R150) -/

/-- The frames of the command queue (R148), as their payloads read (table 12.1). -/
inductive CommandFrame where
  | setup (n p bm ka kb kc tSlow tStop mask : Nat)
  | query
  | clear
  | job (seq form darkness : Nat) (entries : List Field)
  | cancel (seq : Nat)
  deriving DecidableEq, Repr

/-- The frames of the store queue (R148). -/
inductive StoreFrame where
  | begin (number kind length : Nat)
  | data (offset : Nat) (bytes : List Byte)
  | stop (check : Check)
  | delete (number : Nat)
  deriving DecidableEq, Repr

/-- A frame of the VOID queue (R139). -/
structure VoidFrame where
  seq    : Nat
  reason : Reason
  deriving DecidableEq, Repr

/-- The pending DEMAND frame (R103). -/
structure DemandFrame where
  seq     : Nat
  first   : Nat
  demands : List Nat
  frozen  : Bool
  deriving DecidableEq, Repr

/-- A demand entry: of the backlog (R103) or of a peer demand table (R108). -/
structure DemandEntry where
  seq    : Nat
  row    : Nat
  demand : Nat
  deriving DecidableEq, Repr

/-- The receiver (R146): between frames, reading a frame, or ignoring the line until it is quiet. -/
inductive Receiver where
  | ready | receiving | ignoring
  deriving DecidableEq, Repr

inductive TxState where
  | idle | deferring | sending | jamming
  | backingOff (slots : Nat)
  deriving DecidableEq, Repr

/-- The frame in hand (R140), by its source. A VOID and a report record are the heads of their queues, a
DEMAND is the pending frame. A condition record holds what was read at the start of the attempt, and the
conditions changed since then (R141, R174). -/
inductive InHand where
  | void (f : VoidFrame)
  | demand
  | condition (values changed since : CondSet)
  | report (r : Record)
  deriving DecidableEq, Repr

/-- The transmitter (R140): its state, the frame in hand and that frame's attempt count. -/
structure Tx where
  state    : TxState
  inHand   : Option InHand
  attempts : Nat
  deriving DecidableEq, Repr

/-- The link interface. `quiet` is the quiet count, and `held` says that another station is known to hold the
line dominant: its jam outlasts this station's, or a collision's fragment has run into a jam (R136, R141,
R146). -/
structure Link where
  receiver     : Receiver
  quiet        : Nat
  held         : Bool
  commandQueue : List CommandFrame
  storeQueue   : List StoreFrame
  voidQueue    : List VoidFrame
  demand       : Option DemandFrame
  backlog      : List DemandEntry
  tx           : Tx
  rng          : Nat
  counts       : Counts
  deriving DecidableEq, Repr

/-- The peer demand table of one configured peer (R108). -/
structure PeerTable where
  peer    : Nat
  entries : List DemandEntry
  deriving DecidableEq, Repr

/-- The report unit (R173, R175). -/
structure ReportUnit where
  values  : CondSet
  latches : CondSet
  pending : Bool
  queue   : List Record
  deriving DecidableEq, Repr

/-! ## The machine -/

/-- The whole state of one station. `freeCount` and `pending` are the model's own: the number of free
bytes' uses so far, and the commands waiting to be taken. -/
structure State where
  station   : StationState
  number    : Nat
  setup     : Setup
  seq       : SeqUnit
  ctxA      : Context
  ctxB      : Context
  loader    : Option Load
  raster    : Raster
  ring      : Ring
  timer     : RowTimer
  plan      : Option Plan
  head      : HeadLines
  thermal   : Thermal
  lines     : Lines
  link      : Link
  peers     : List PeerTable
  store     : Store
  report    : ReportUnit
  freeCount : Nat
  pending   : List Instr
  deriving DecidableEq, Repr

/-- The faults of the machine. -/
inductive Fault where
  /-- Raised by the completion of a store operation whose bytes run past the store's last address,
  1,048,575 (R151); the address given is the first that does not exist. Safe: the model stops, and no
  command makes such an operation. -/
  | noSuchStoreAddress (address : Nat)
  deriving DecidableEq, Repr

/-- The refusals of the machine. -/
inductive Refusal where
  /-- Raised by `exec` for a command that has no meaning yet. Safe: the model stops. No arm raises it. -/
  | notModelled (mnemonic : String)
  deriving DecidableEq, Repr

/-! ## Reset -/

def Setup.cleared : Setup :=
  { n := 0, p := 0, bm := 0, ka := 0, kb := 0, kc := 0, tSlow := 0, tStop := 0, mask := 0 }

def Counts.zero : Counts := { badFrames := 0, collisions := 0, excessive := 0, dropped := 0, stale := 0 }

def Raster.reset : Raster := { rendering := none, position := none, pending := [], active := [] }

def Ring.empty : Ring := { history := [], firing := none, lead := [] }

def HeadLines.idle : HeadLines := { shifting := none, hlt := false, hsb := false }

/-- The link interface after a cold start of the station of this number (R136, R140, R142, R145, R149,
R150). -/
def Link.reset (number : Nat) : Link :=
  { receiver := .ready, quiet := 0, held := false, commandQueue := [], storeQueue := [], voidQueue := [],
    demand := none, backlog := [],
    tx := { state := .idle, inHand := none, attempts := 0 }, rng := number, counts := Counts.zero }

/-- The form store controller during the scan (R154), over a memory and a sector map. -/
def Store.reset (memory : Memory) (sectors : List SectorState) : Store :=
  { memory := memory, catalog := [], sectors := sectors, write := none, serving := none, due := [],
    current := none, phase := .idle, holdLoader := false, holdRaster := false, waitLoader := false,
    waitRaster := false }

/-- The state a cold start leaves (R168 and each block's own rule), for a station number and what a cold
start keeps: the store's memory, and the model's own fields. -/
def State.afterColdStart (number : Nat) (memory : Memory) (sectors : List SectorState) (freeCount : Nat)
    (pending : List Instr) : State :=
  { station := .starting, number := number, setup := Setup.cleared,
    seq := { lc := 0, queue := [], preVoid := 0 }, ctxA := Context.free, ctxB := Context.free,
    loader := none, raster := Raster.reset, ring := Ring.empty,
    timer := { tPred := 65535, elapsed := 0, seen := false }, plan := none, head := HeadLines.idle,
    thermal := { t := 25, warm := false, hot := false, hold := 0 },
    lines := { rdyReleased := false, slwAsserted := false }, link := Link.reset number, peers := [],
    store := Store.reset memory sectors,
    report := { values := 0, latches := 0, pending := false, queue := [] }, freeCount := freeCount,
    pending := pending }

/-- The machine right after its first power-on: straps 0 (log 4), the store erased (log 5), its sector
map Free until the scan (log 6), no command waiting. -/
def State.reset : State :=
  State.afterColdStart 0 [] (List.replicate Config.sectorCount .free) 0 []

end Sys2Proof.Machine
end

