-- ==== Sys2Proof/Machine/Ops.lean ====
section
/-! DEFINITION. The named operations over the state: one setter per block, the arithmetic of sequence
numbers, the store memory, dot maps and the two contexts. -/

namespace Sys2Proof.Machine

/-! ## Setters -/

def State.setStation (s : State) (v : StationState) : State := { s with station := v }
def State.setSetup (s : State) (v : Setup) : State := { s with setup := v }
def State.setSeq (s : State) (v : SeqUnit) : State := { s with seq := v }
def State.setCtxA (s : State) (v : Context) : State := { s with ctxA := v }
def State.setCtxB (s : State) (v : Context) : State := { s with ctxB := v }
def State.setLoader (s : State) (v : Option Load) : State := { s with loader := v }
def State.setRaster (s : State) (v : Raster) : State := { s with raster := v }
def State.setRing (s : State) (v : Ring) : State := { s with ring := v }
def State.setTimer (s : State) (v : RowTimer) : State := { s with timer := v }
def State.setPlan (s : State) (v : Option Plan) : State := { s with plan := v }
def State.setHead (s : State) (v : HeadLines) : State := { s with head := v }
def State.setThermal (s : State) (v : Thermal) : State := { s with thermal := v }
def State.setLines (s : State) (v : Lines) : State := { s with lines := v }
def State.setLink (s : State) (v : Link) : State := { s with link := v }
def State.setPeers (s : State) (v : List PeerTable) : State := { s with peers := v }
def State.setStore (s : State) (v : Store) : State := { s with store := v }
def State.setReport (s : State) (v : ReportUnit) : State := { s with report := v }
def State.setFreeCount (s : State) (v : Nat) : State := { s with freeCount := v }
def State.setPending (s : State) (v : List Instr) : State := { s with pending := v }

/-! ## Sequence numbers (00_scope.md 4.3) -/

/-- next(s): the successor on the circle 1..65535. -/
def nextSeq (s : Nat) : Nat := if s = 65535 then 1 else s + 1

/-- Equation (1-2): the distance of `s` ahead of `e`, 0..65534. -/
def seqDistance (s e : Nat) : Nat := (((s : Int) - (e : Int)) % 65535).toNat

/-- `s` lies at or behind `lc` on the circle: the distance from `lc` is 0 or above 32767 (R5, R10). -/
def atOrBehind (s lc : Nat) : Bool :=
  decide (seqDistance s lc = 0) || decide (32768 ≤ seqDistance s lc)

/-- A count that holds at 65535 (R7, R150). -/
def bump (n : Nat) : Nat := min (n + 1) 65535

/-- Clamping to a range (00_scope.md 4.4). -/
def clamp (lo hi x : Nat) : Nat := max lo (min hi x)

def clampInt (lo hi x : Int) : Int := max lo (min hi x)

/-- The station is unsynchronised (R1). -/
def SeqUnit.unsynchronised (q : SeqUnit) : Bool := decide (q.lc = 0) && q.queue.isEmpty

/-- The running seq of R20: Lc, which is 0 while the station is unsynchronised. -/
def SeqUnit.runningSeq (q : SeqUnit) : Nat := q.lc

/-- The next seq of R20. -/
def SeqUnit.followingSeq (q : SeqUnit) : Nat :=
  match q.queue with
  | e :: _ => e.seq
  | [] => if q.lc = 0 then 0 else nextSeq q.lc

/-! ## Dot maps -/

/-- The set columns in ascending order. -/
def Dots.columns (d : Dots) : List Nat := (List.range 640).filter fun c => d.getLsbD c

/-- The number of set dots: a row's demand (R56). -/
def Dots.count (d : Dots) : Nat := (Dots.columns d).length

/-- The dots whose column satisfies `p`. -/
def Dots.ofPred (p : Nat → Bool) : Dots := BitVec.ofFnLE fun i => p i.val

/-- The dots at the listed columns. -/
def Dots.ofColumns (cs : List Nat) : Dots := Dots.ofPred fun c => cs.contains c

/-! ## The store memory (R151) -/

/-- The byte at an address: 255, an erased byte, where none is listed. -/
def Memory.read : Memory → Nat → Byte
  | [], _ => 255
  | (a, b) :: m, x => if x < a then 255 else if x = a then b else Memory.read m x

/-- One byte written, the list kept in its canonical form. -/
def Memory.write : Memory → Nat → Byte → Memory
  | [], x, v => if v = 255 then [] else [(x, v)]
  | (a, b) :: m, x, v =>
    if x < a then if v = 255 then (a, b) :: m else (x, v) :: (a, b) :: m
    else if x = a then if v = 255 then m else (x, v) :: m
    else (a, b) :: Memory.write m x v

/-- The canonical form: addresses strictly rising, all of them store addresses, no erased byte listed. -/
abbrev Memory.WF (m : Memory) : Prop :=
  m.Pairwise (fun c d => c.1 < d.1) ∧ ∀ c ∈ m, c.1 < Config.storeBytes ∧ c.2 ≠ 255

/-- `n` bytes from an address on. -/
def Memory.readRange (m : Memory) (a n : Nat) : List Byte := (List.range n).map fun i => m.read (a + i)

/-- Programming can only change bits from 1 to 0 (R151). -/
def Memory.program : Memory → Nat → List Byte → Memory
  | m, _, [] => m
  | m, a, b :: bs => Memory.program (m.write a (m.read a &&& b)) (a + 1) bs

/-- The address of the first byte of a sector (R151). -/
def sectorAddress (i : Nat) : Nat := Config.sectorBytes * i

def inSector (i a : Nat) : Bool := decide (sectorAddress i ≤ a) && decide (a < sectorAddress (i + 1))

/-- An erase sets every bit of its sector to 1 (R151). -/
def Memory.eraseSector (m : Memory) (i : Nat) : Memory := m.filter fun c => !inSector i c.1

/-- Every byte of the sector reads 255 (R154). -/
def Memory.sectorErased (m : Memory) (i : Nat) : Bool := m.all fun c => !inSector i c.1

/-- The bytes of an interrupted program: each bit to be cleared may or may not be cleared (R151, R163,
log 7). -/
def Memory.partProgram (k : Nat) : Memory → Nat → List Byte → Memory
  | m, _, [] => m
  | m, a, b :: bs => Memory.partProgram k (m.write a (m.read a &&& (b ||| Config.freeByte k a))) (a + 1) bs

/-- The bytes of an interrupted erase: every byte of the sector is free (R163, log 7). -/
def Memory.partErase (k : Nat) (m : Memory) (i : Nat) : Memory :=
  (List.range Config.sectorBytes).foldl
    (fun m j => m.write (sectorAddress i + j) (Config.freeByte k (sectorAddress i + j))) m

/-! ## Store operations on the memory (R151, R163) -/

/-- The first address past the operation's bytes. -/
def StoreOp.endAddress : StoreOp → Nat
  | .erase i => sectorAddress (i + 1)
  | .line a bs | .mark a bs => a + bs.length

/-- The effect of a completed operation. -/
def StoreOp.apply (m : Memory) : StoreOp → Memory
  | .erase i => m.eraseSector i
  | .line a bs | .mark a bs => m.program a bs

/-- The effect of the `k`-th interrupted operation. One that names addresses outside the store touches
nothing. -/
def StoreOp.interrupt (m : Memory) (k : Nat) (op : StoreOp) : Memory :=
  if op.endAddress ≤ Config.storeBytes then
    match op with
    | .erase i => m.partErase k i
    | .line a bs | .mark a bs => m.partProgram k a bs
  else m

/-! ## Contexts (R20) -/

def State.ctx (s : State) : CtxId → Context
  | .a => s.ctxA
  | .b => s.ctxB

def State.setCtx (s : State) (i : CtxId) (c : Context) : State :=
  match i with
  | .a => s.setCtxA c
  | .b => s.setCtxB c

/-- The first context record that satisfies `p`. -/
def State.findCtx (s : State) (p : Context → Bool) : Option CtxId :=
  if p s.ctxA then some .a else if p s.ctxB then some .b else none

/-- The next context: in Loading or Armed (R20). -/
def Context.isNext (c : Context) : Bool := decide (c.state = .loading) || decide (c.state = .armed)

/-- A context that holds a running label: in Running or Ending (R20). -/
def Context.isRunningLabel (c : Context) : Bool :=
  decide (c.state = .running) || decide (c.state = .ending)

def Context.isRunning (c : Context) : Bool := decide (c.state = .running)

def Context.isFree (c : Context) : Bool := decide (c.state = .free)

def State.nextCtx (s : State) : Option CtxId := s.findCtx Context.isNext

def State.runningCtx (s : State) : Option CtxId := s.findCtx Context.isRunning

/-- The context of the running label of this seq. -/
def State.runningLabelCtx (s : State) (seq : Nat) : Option CtxId :=
  s.findCtx fun c => c.isRunningLabel && decide (c.seq = seq)

/-- The label carries Voided or Cancelled. -/
def Context.marked (c : Context) : Bool := c.voided.isSome || c.cancelled

/-- The last row to render (R61). -/
def Context.lastToRender (c : Context) : Nat :=
  match c.h with
  | some h => h - 1
  | none => 4

end Sys2Proof.Machine
end

