-- ==== Sys2Proof/Machine/Operands.lean ====
section
/-! DEFINITION. The byte layouts of 12_frame_and_object_formats.md that travel on the link: the check,
the payloads of received frames (test 4 of R147, R176), the payloads and frames this station sends (R137,
R177), and the stuffing of the line's bits (R135). -/

namespace Sys2Proof.Machine

/-! ## The check (R137) -/

/-- One data bit shifted into the remainder of x^16 + x^12 + x^5 + 1. -/
def checkBit (r : Check) (b : Bool) : Check :=
  if r.getLsbD 15 != b then (r <<< 1) ^^^ 0x1021#16 else r <<< 1

/-- The bits of a byte, most significant first. -/
def byteBits (b : Byte) : List Bool := (List.range 8).map fun i => b.getLsbD (7 - i)

def checkByte (r : Check) (b : Byte) : Check := (byteBits b).foldl checkBit r

/-- The remainder carried on over further bytes. -/
def checkFrom (r : Check) (bs : List Byte) : Check := bs.foldl checkByte r

/-- The check of a byte string: all ones at the start, no inversion. -/
def checkOf (bs : List Byte) : Check := checkFrom 0xFFFF#16 bs

/-! ## Numbers in bytes, most significant byte first -/

def byteOf (n : Nat) : Byte := BitVec.ofNat 8 n

def be16 (n : Nat) : List Byte := [byteOf (n / 256), byteOf n]

def be32 (n : Nat) : List Byte := be16 (n / 65536) ++ be16 n

/-- The number a byte string spells. -/
def natOf (bs : List Byte) : Nat := bs.foldl (fun acc b => acc * 256 + b.toNat) 0

/-! ## Code tables (12.3) -/

def Reason.code : Reason → Nat
  | .missed => 1 | .missingObject => 2 | .badForm => 3 | .badBars => 4 | .notArmed => 5 | .noJob => 6
  | .lateRow => 7 | .firedShort => 8 | .hot => 9 | .peerVoid => 10 | .queueFull => 11 | .notSetUp => 12

/-- An absent reason is sent as 0 (R177). -/
def reasonCode : Option Reason → Nat
  | some r => r.code
  | none => 0

def LabelOutcome.code : LabelOutcome → Nat
  | .printed => 1 | .light => 2 | .truncated => 3 | .voided => 4 | .missed => 5 | .cancelled => 6
  | .refused => 7

def StoreResult.code : StoreResult → Nat
  | .done => 1 | .badRequest => 2 | .inUse => 3 | .noSpace => 4 | .noWrite => 5 | .busy => 6
  | .notFound => 7 | .orderError => 8 | .checkMismatch => 9 | .abandoned => 10 | .failed => 11

def StoreCmd.code : StoreCmd → Nat
  | .begin => 0x30 | .data => 0x31 | .stop => 0x32 | .delete => 0x33

def ObjKind.code : ObjKind → Nat
  | .form => 1 | .glyphSet => 2 | .graphic => 3

/-- Table 12-7: a kind code that is none of the three has no kind. -/
def ObjKind.ofCode (n : Nat) : Option ObjKind :=
  if n = 1 then some .form else if n = 2 then some .glyphSet else if n = 3 then some .graphic else none

/-- IDENT's state byte; STARTING is never reported (R168). -/
def StationState.code : StationState → Nat
  | .starting => 0 | .unset => 1 | .active => 2 | .outside => 3

/-! ## Received payloads (12.1, 12.2, R148, R176) -/

/-- A one-byte field whose values use fewer than eight bits: its upper bit is not read (R176; which fields
those are is log 30). -/
def lowBits (b : Byte) : Nat := b.toNat % 128

/-- What an accepted frame carries, by the block its kind is routed to (R148). A VOID is acted on by its
seq alone (R176). -/
inductive Payload where
  | command (f : CommandFrame)
  | store (f : StoreFrame)
  | demand (seq first : Nat) (demands : List Nat)
  | void (seq : Nat)
  | ignored
  deriving DecidableEq, Repr

/-- The field entries of a JOB: exactly `count` of them, ending at the payload's last byte (R176). -/
def parseFields : Nat → List Byte → Option (List Field)
  | 0, [] => some []
  | n + 1, number :: len :: rest =>
    if len.toNat ≤ 240 ∧ len.toNat ≤ rest.length then
      (parseFields n (rest.drop len.toNat)).map
        fun fs => { number := lowBits number, value := rest.take len.toNat } :: fs
    else none
  | _, _ => none

def parseSetup : List Byte → Option Payload
  | [n, p1, p0, b1, b0, ka, kb, kc, ts, tp, mask] =>
    some (.command (.setup (lowBits n) (natOf [p1, p0]) (natOf [b1, b0]) (lowBits ka) (lowBits kb) (lowBits kc)
      (lowBits ts) (lowBits tp) (lowBits mask)))
  | _ => none

def parseJob : List Byte → Option Payload
  | s1 :: s0 :: form :: dark :: count :: rest =>
    if lowBits count ≤ 16 then
      (parseFields (lowBits count) rest).map
        fun fs => .command (.job (natOf [s1, s0]) form.toNat dark.toNat fs)
    else none
  | _ => none

def parseStoreBegin : List Byte → Option Payload
  | [number, kind, l3, l2, l1, l0] =>
    some (.store (.begin number.toNat (lowBits kind) (natOf [l3, l2, l1, l0])))
  | _ => none

def parseStoreData : List Byte → Option Payload
  | o3 :: o2 :: o1 :: o0 :: bytes =>
    if 1 ≤ bytes.length ∧ bytes.length ≤ 256 then some (.store (.data (natOf [o3, o2, o1, o0]) bytes))
    else none
  | _ => none

/-- The two-byte demands of a DEMAND payload. -/
def parseDemands : List Byte → Option (List Nat)
  | [] => some []
  | d1 :: d0 :: rest => (parseDemands rest).map fun ds => natOf [d1, d0] :: ds
  | _ => none

def parseDemand : List Byte → Option Payload
  | s1 :: s0 :: r1 :: r0 :: count :: rest =>
    if 1 ≤ lowBits count ∧ lowBits count ≤ 4 ∧ rest.length = 2 * lowBits count then
      (parseDemands rest).map fun ds => .demand (natOf [s1, s0]) (natOf [r1, r0]) ds
    else none
  | _ => none

/-- Tests 3 and 4 of R147: the kind is known and the payload fits its layout; `none` is a bad frame.
REPORT and IDENT are not tested further (R176). -/
def parsePayload (kind : Byte) (p : List Byte) : Option Payload :=
  if kind = 0x10#8 then parseSetup p
  else if kind = 0x11#8 then if p = [] then some (.command .query) else none
  else if kind = 0x12#8 then if p = [] then some (.command .clear) else none
  else if kind = 0x20#8 then parseJob p
  else if kind = 0x21#8 then if p.length = 2 then some (.command (.cancel (natOf p))) else none
  else if kind = 0x30#8 then parseStoreBegin p
  else if kind = 0x31#8 then parseStoreData p
  else if kind = 0x32#8 then
    if p.length = 2 then some (.store (.stop (BitVec.ofNat 16 (natOf p)))) else none
  else if kind = 0x33#8 then if p.length = 1 then some (.store (.delete (natOf p))) else none
  else if kind = 0x40#8 then parseDemand p
  else if kind = 0x41#8 then if p.length = 3 then some (.void (natOf (p.take 2))) else none
  else if kind = 0x50#8 then some .ignored
  else if kind = 0x51#8 then some .ignored
  else none

/-! ## Payloads the control station sends (12.1), as this station's parser reads them back -/

def encodeField (f : Field) : List Byte := byteOf f.number :: byteOf f.value.length :: f.value

def encodeCommand : CommandFrame → Byte × List Byte
  | .setup n p bm ka kb kc ts tp mask =>
    (0x10#8, byteOf n :: be16 p ++ be16 bm ++ [byteOf ka, byteOf kb, byteOf kc, byteOf ts, byteOf tp, byteOf mask])
  | .query => (0x11#8, [])
  | .clear => (0x12#8, [])
  | .job seq form dark fs =>
    (0x20#8, be16 seq ++ [byteOf form, byteOf dark, byteOf fs.length] ++ fs.flatMap encodeField)
  | .cancel seq => (0x21#8, be16 seq)

def encodeStore : StoreFrame → Byte × List Byte
  | .begin number kind len => (0x30#8, byteOf number :: byteOf kind :: be32 len)
  | .data offset bytes => (0x31#8, be32 offset ++ bytes)
  | .stop check => (0x32#8, be16 check.toNat)
  | .delete number => (0x33#8, [byteOf number])

/-! ## Payloads this station sends (12.2, R177) -/

/-- A frame to be sent: destination and source addresses, kind and payload (R137, R138). -/
structure SentFrame where
  dest    : Nat
  source  : Nat
  kind    : Byte
  payload : List Byte
  deriving DecidableEq, Repr

def encodeDemand (seq first : Nat) (demands : List Nat) : List Byte :=
  be16 seq ++ be16 first ++ [byteOf demands.length] ++ demands.flatMap be16

def encodeVoid (seq : Nat) (reason : Byte) : List Byte := be16 seq ++ [reason]

/-- One flag bit of the label record's flags byte. -/
def flagBit (b : Bool) (i : Nat) : Nat := if b then 2 ^ i else 0

def encodeLabelRecord (r : LabelRecord) : List Byte :=
  be16 r.seq ++ [byteOf r.outcome.code, byteOf (reasonCode r.reason)] ++ be16 r.completed
    ++ be16 r.trimmed ++ be16 r.miss
    ++ [byteOf (flagBit r.light 0 + flagBit r.fieldClipped 1 + flagBit r.substituted 2 + flagBit r.truncated 3)]

def encodeStoreRecord (r : StoreRecord) : List Byte :=
  [byteOf r.cmd.code, byteOf r.number, byteOf r.result.code] ++ be16 r.generation ++ be32 r.received

/-- The IDENT payload; T in two's complement (R177). -/
def encodeIdent (r : IdentRecord) : List Byte :=
  [byteOf r.number, byteOf r.state.code, byteOf r.n] ++ be16 Config.sliceWidth
    ++ [byteOf Config.sectorCount, byteOf r.sectorsFree, byteOf r.objects, BitVec.ofInt 8 r.t]
    ++ be16 r.lc ++ [byteOf r.queueDepth] ++ be16 r.counts.badFrames ++ be16 r.counts.collisions
    ++ be16 r.counts.excessive ++ be16 r.counts.dropped ++ be16 r.counts.stale

/-- A record as the frame that station `source` sends: REPORT 50h or IDENT 51h, to the control station
(R175). -/
def Record.frame (source : Nat) : Record → SentFrame
  | .label r =>
    { dest := Config.controlAddress, source := source, kind := 0x50#8, payload := 2#8 :: encodeLabelRecord r }
  | .store r =>
    { dest := Config.controlAddress, source := source, kind := 0x50#8, payload := 3#8 :: encodeStoreRecord r }
  | .ident r => { dest := Config.controlAddress, source := source, kind := 0x51#8, payload := encodeIdent r }

/-- The condition record's REPORT; bit 7 of both bytes is clear (R177). -/
def conditionFrame (source : Nat) (values changed : CondSet) : SentFrame :=
  { dest := Config.controlAddress, source := source, kind := 0x50#8,
    payload := [1#8, values.setWidth 8, changed.setWidth 8] }

def VoidFrame.frame (source : Nat) (f : VoidFrame) : SentFrame :=
  { dest := Config.broadcastAddress, source := source, kind := 0x41#8, payload := encodeVoid f.seq (byteOf f.reason.code) }

def DemandFrame.frame (source : Nat) (f : DemandFrame) : SentFrame :=
  { dest := Config.broadcastAddress, source := source, kind := 0x40#8, payload := encodeDemand f.seq f.first f.demands }

/-! ## Frames on the line (R135, R137) -/

/-- The bytes that the check covers: address, kind, length, payload. -/
def checkedBytes (address kind : Byte) (payload : List Byte) : List Byte :=
  address :: kind :: be16 payload.length ++ payload

/-- The address byte: destination in the upper four bits, source in the lower four. -/
def addressByte (dest src : Nat) : Byte := byteOf (16 * (dest % 16) + src % 16)

/-- A sent frame as a receiver has it. -/
def SentFrame.toRx (f : SentFrame) : RxFrame :=
  { address := addressByte f.dest f.source, kind := f.kind, payload := f.payload,
    check := checkOf (checkedBytes (addressByte f.dest f.source) f.kind f.payload) }

/-- The data bits of a frame before stuffing: start delimiter, then every byte most significant bit
first. A dominant bit is 0, `false`. -/
def frameBits (f : RxFrame) : List Bool :=
  [false, false, true, false]
    ++ (checkedBytes f.address f.kind f.payload ++ be16 f.check.toNat).flatMap byteBits

/-- The sender's stuffing: after 8 equal bits, the frame's last ones among them, one bit of the opposite
level, which starts a new run (R135). `last` and `run` are the level and the length of the run so far. -/
def stuffFrom : Bool → Nat → List Bool → List Bool
  | _, _, [] => []
  | last, run, b :: bs =>
    let run' := if b = last then run + 1 else 1
    if run' = 8 then b :: (!b) :: stuffFrom (!b) 1 bs else b :: stuffFrom b run' bs

/-- The bits of a frame as driven on the line. -/
def stuff (bits : List Bool) : List Bool := stuffFrom true 0 bits

/-- The receiver's removal of stuff bits (R146); `none` is a stuff violation. -/
def unstuffFrom : Bool → Nat → List Bool → Option (List Bool)
  | _, _, [] => some []
  | last, run, b :: bs =>
    if run = 8 then if b = last then none else unstuffFrom b 1 bs
    else (unstuffFrom b (if b = last then run + 1 else 1) bs).map fun r => b :: r

def unstuff (bits : List Bool) : Option (List Bool) := unstuffFrom true 0 bits

/-- The quiet count at a frame's end (R136): the line's last edge is the rising edge at the end of a last bit
0, or the one before the ones that end the frame; a stuff bit after the last check bit counts (DESIGN CHOICE,
log 24). -/
def frameEndQuiet (f : RxFrame) : Nat := min 24 ((stuff (frameBits f)).reverse.takeWhile id).length

end Sys2Proof.Machine
end

