-- ==== Sys2Proof/Machine/Flags.lean ====
section
/-! DEFINITION. The flags other blocks read: the seven conditions with their latches and the condition
slot (R173), the link counts (R150), the queues a block hands its frames and records to (R139, R175), and
the two shared lines RDY and SLW (R25, R133). -/

namespace Sys2Proof.Machine

/-! ## Waking the transmitter (R140) -/

/-- The transmitter drives the line: Sending or Jamming (R140). -/
def TxState.drives : TxState → Bool
  | .sending | .jamming => true
  | .idle | .deferring | .backingOff _ => false

/-- From Idle to Deferring: a source has something to send. -/
def Tx.wake (t : Tx) : Tx := if t.state = .idle then { t with state := .deferring } else t

/-! ## Conditions (table 12-4, R173) -/

def Cond.index : Cond → Nat
  | .warm => 0 | .hot => 1 | .slow => 2 | .storeFault => 3 | .framesDropped => 4 | .reportsDropped => 5
  | .unexpectedTof => 6

/-- The set of this one condition. -/
def Cond.bit (c : Cond) : CondSet := 1#7 <<< c.index

/-- The condition belongs to the set. -/
def Cond.isIn (c : Cond) (m : CondSet) : Bool := m.getLsbD c.index

/-- The conditions that stay set until CLEAR (11.4). -/
def stickyConds : CondSet :=
  Cond.bit .storeFault ||| Cond.bit .framesDropped ||| Cond.bit .reportsDropped ||| Cond.bit .unexpectedTof

/-- A set with one condition set or cleared. -/
def condPut (m : CondSet) (c : Cond) (v : Bool) : CondSet := if v then m ||| c.bit else m &&& ~~~c.bit

/-- A condition changed while its record is being attempted (R174): remembered with the record. -/
def Tx.noteChange (t : Tx) (c : Cond) : Tx :=
  match t.state, t.inHand with
  | .sending, some (.condition values changed since) =>
    { t with inHand := some (.condition values changed (since ||| c.bit)) }
  | _, _ => t

/-- The report unit after a change of a condition to `v` (R173). -/
def ReportUnit.change (r : ReportUnit) (mask : CondSet) (c : Cond) (v : Bool) : ReportUnit :=
  { r with values := condPut r.values c v, latches := r.latches ||| c.bit,
           pending := r.pending || c.isIn mask }

/-- A condition is given the value `v`: a change if it had the other (R173). -/
def setCond (s : State) (c : Cond) (v : Bool) : State :=
  if c.isIn s.report.values = v then s
  else
    let r := s.report.change s.setup.mask c v
    let t := s.link.tx.noteChange c
    (s.setReport r).setLink { s.link with tx := if r.pending then t.wake else t }

/-! ## Link counts (R150) -/

def countBad (s : State) : State :=
  s.setLink { s.link with counts := { s.link.counts with badFrames := bump s.link.counts.badFrames } }

def countStale (s : State) : State :=
  s.setLink { s.link with counts := { s.link.counts with stale := bump s.link.counts.stale } }

def countExcessive (s : State) : State :=
  s.setLink { s.link with counts := { s.link.counts with excessive := bump s.link.counts.excessive } }

/-- A frame dropped at a full VOID, command or store queue (R139, R149). -/
def countDropped (s : State) : State :=
  setCond (s.setLink { s.link with counts := { s.link.counts with dropped := bump s.link.counts.dropped } })
    .framesDropped true

/-! ## Queues of frames and records to be sent -/

/-- A VOID frame of the station's own placed in the VOID queue (R12, R139). -/
def pushVoid (s : State) (f : VoidFrame) : State :=
  if s.link.voidQueue.length < Config.queueDepth then
    s.setLink { s.link with voidQueue := s.link.voidQueue ++ [f], tx := s.link.tx.wake }
  else countDropped s

/-- A record handed to the report queue (R175). -/
def pushRecord (s : State) (r : Record) : State :=
  if s.report.queue.length < Config.listDepth then
    (s.setReport { s.report with queue := s.report.queue ++ [r] }).setLink
      { s.link with tx := s.link.tx.wake }
  else setCond s .reportsDropped true

/-! ## RDY and SLW -/

/-- The condition of RDY's release (R25). -/
def State.rdyCondition (s : State) : Bool :=
  (decide (s.station = .active) && !s.thermal.hot
    && (decide (s.ctxA.state = .armed) || decide (s.ctxB.state = .armed)))
  || decide (s.station = .outside)

def driveRdy (s : State) : State := s.setLines { s.lines with rdyReleased := s.rdyCondition }

/-- The condition of SLW's assertion (R133). -/
def Thermal.slwCondition (t : Thermal) : Bool := t.warm || t.hot || decide (0 < t.hold)

/-- SLW follows its condition, and the condition Slow follows SLW (R133, R134). -/
def driveSlw (s : State) : State :=
  setCond (s.setLines { s.lines with slwAsserted := s.thermal.slwCondition }) .slow s.thermal.slwCondition

end Sys2Proof.Machine
end

