-- ==== Sys2Proof/Machine/Planner.lean ====
section
/-! DEFINITION. The shared strobe budget (07_the_shared_strobe_budget.md): the pending DEMAND frame and
its backlog, the peer demand tables, the allowance and the phase count. -/

namespace Sys2Proof.Machine

/-! ## Stale entries (R104) -/

/-- The entry (seq, row) is stale: its row pulse has passed at this station (R104). -/
def State.isStale (s : State) (seq row : Nat) : Bool :=
  if seq = s.seq.runningSeq then
    match s.findCtx fun c => c.isRunning && decide (c.seq = seq) with
    | none => true
    | some i => decide (row < (s.ctx i).taken)
  else decide (seq ≠ s.seq.followingSeq)

def State.freshEntries (s : State) (es : List DemandEntry) : List DemandEntry :=
  es.filter fun e => !s.isStale e.seq e.row

/-! ## The pending DEMAND frame and the backlog (R103 to R107) -/

/-- Backlog entries that follow the frame's last row join it, up to 4 demands (R105, R107). The first
component is the frame's list, the second the entries left. -/
def gatherDemands (seq first : Nat) : List Nat → List DemandEntry → List Nat × List DemandEntry
  | ds, [] => (ds, [])
  | ds, e :: es =>
    if ds.length < 4 ∧ e.seq = seq ∧ e.row = first + ds.length then
      gatherDemands seq first (ds ++ [e.demand]) es
    else (ds, e :: es)

/-- A new pending frame formed from the backlog when there is none (R105). -/
def formDemand (s : State) : State :=
  match s.link.demand with
  | some _ => s
  | none =>
    match s.freshEntries s.link.backlog with
    | [] => s.setLink { s.link with backlog := [] }
    | e :: es =>
      let g := gatherDemands e.seq e.row [e.demand] es
      s.setLink { s.link with
        demand := some { seq := e.seq, first := e.row, demands := g.1, frozen := false },
        backlog := g.2, tx := s.link.tx.wake }

/-- The frame in hand is a DEMAND that is no longer there (R142): no frame is in hand. DESIGN CHOICE (log 12): while
the jam of its collision lasts the attempt count stays, for the draw at the jam's end; one discarded while Backing off
leaves the transmitter Backing off with no frame in hand, and the wait goes on to its end. -/
def Tx.dropDemand (t : Tx) : Tx :=
  if t.inHand = some .demand then
    { t with inHand := none, attempts := if t.state = .jamming then t.attempts else 0 }
  else t

/-- The pending frame is discarded, and the next is formed (R104, R105). -/
def discardDemand (s : State) : State :=
  formDemand (s.setLink { s.link with demand := none, tx := s.link.tx.dropDemand })

/-- The stale rows at the front of a frame's list, removed (R104): the new first row and the list left. -/
def dropStaleRows (stale : Nat → Bool) : Nat → List Nat → Nat × List Nat
  | r, [] => (r, [])
  | r, d :: ds => if stale r then dropStaleRows stale (r + 1) ds else (r, d :: ds)

/-- The pending frame without its stale entries; discarded when none is left (R104). -/
def trimDemand (s : State) : State :=
  match s.link.demand with
  | none => s
  | some f =>
    let g := dropStaleRows (s.isStale f.seq) f.first f.demands
    if g.2 = [] then discardDemand s
    else s.setLink { s.link with demand := some { f with first := g.1, demands := g.2 } }

/-- The removal of stale entries at a row pulse or a TOF (R104). -/
def removeStaleDemands (s : State) : State :=
  let s := s.setLink { s.link with backlog := s.freshEntries s.link.backlog }
  match s.link.demand with
  | some f => if f.frozen then s else trimDemand s
  | none => s

/-- A demand joins the backlog, or is dropped when it holds 8 (R103). -/
def appendBacklog (s : State) (e : DemandEntry) : State :=
  if s.link.backlog.length < Config.listDepth then s.setLink { s.link with backlog := s.link.backlog ++ [e] }
  else s

/-- The hand-over of a rendered row's demand (R103). -/
def handDemand (s : State) (e : DemandEntry) : State :=
  match s.link.demand with
  | none =>
    if s.link.backlog = [] then
      s.setLink { s.link with
        demand := some { seq := e.seq, first := e.row, demands := [e.demand], frozen := false },
        tx := s.link.tx.wake }
    else formDemand (appendBacklog s e)
  | some f =>
    if f.frozen = false ∧ f.demands.length < 4 ∧ f.seq = e.seq ∧ e.row = f.first + f.demands.length
        ∧ s.link.backlog = [] then
      s.setLink { s.link with demand := some { f with demands := f.demands ++ [e.demand] } }
    else appendBacklog s e

/-! ## Peer demand tables (R108 to R111) -/

/-- One DEMAND entry applied to a table (R109). -/
def enterDemand (stale : Bool) (es : List DemandEntry) (e : DemandEntry) : List DemandEntry :=
  if e.seq = 0 ∨ Config.lastRow < e.row ∨ stale = true then es
  else if es.any fun x => x.seq = e.seq ∧ x.row = e.row then
    es.map fun x => if x.seq = e.seq ∧ x.row = e.row then { x with demand := min e.demand 640 } else x
  else if es.length < Config.listDepth then es ++ [{ e with demand := min e.demand 640 }]
  else es

/-- The entries of a DEMAND applied in row order, the first of them for row `first` (R109). -/
def enterDemands (stale : Nat → Bool) (seq : Nat) : Nat → List Nat → List DemandEntry → List DemandEntry
  | _, [], es => es
  | r, d :: ds, es =>
    enterDemands stale seq (r + 1) ds (enterDemand (stale r) es { seq := seq, row := r, demand := d })

/-- A received DEMAND (R109): acts in ACTIVE, on the table of a configured peer. -/
def takeDemand (s : State) (src seq first : Nat) (ds : List Nat) : State :=
  if s.station = .active then
    s.setPeers (s.peers.map fun t =>
      if t.peer = src then { t with entries := enterDemands (s.isStale seq) seq first ds t.entries } else t)
  else s

/-- The N − 1 empty tables of the configured peers (R108). -/
def emptyPeers (n number : Nat) : List PeerTable :=
  ((List.range n).filter fun j => decide (j ≠ number)).map fun j => { peer := j, entries := [] }

/-- The purge of the peer tables (R111). -/
def purgePeers (s : State) : State :=
  s.setPeers (s.peers.map fun t => { t with entries := s.freshEntries t.entries })

/-! ## The allowance (R110 to R114) -/

/-- The demand a table holds for the key (seq, row). -/
def PeerTable.find (t : PeerTable) (seq row : Nat) : Option Nat :=
  (t.entries.find? fun e => e.seq = seq ∧ e.row = row).map fun e => e.demand

/-- The view of a peer: what was heard, or 640 (R110). -/
def PeerTable.view (t : PeerTable) (seq row : Nat) : Nat := (t.find seq row).getD 640

/-- Whether the row counts a demand miss (R110). -/
def State.rowMiss (s : State) (seq row : Nat) : Bool := s.peers.any fun t => (t.find seq row).isNone

/-- Equation (7-1). -/
def reserve (p n : Nat) : Nat := p / (2 * n)

/-- Equation (7-2), over all views, the station's own included. -/
def pool (p n : Nat) (views : List Nat) : Nat := p - (views.map fun v => min v (reserve p n)).sum

/-- Equation (7-3): the total excess. -/
def totalExcess (p n : Nat) (views : List Nat) : Nat := (views.map fun v => v - reserve p n).sum

/-- Equation (7-4): the allowance of a station of demand `d` with these views of its peers. -/
def allowance (p n d : Nat) (peerViews : List Nat) : Nat :=
  if totalExcess p n (d :: peerViews) = 0 then d
  else min d (reserve p n)
    + pool p n (d :: peerViews) * (d - reserve p n) / totalExcess p n (d :: peerViews)

/-- Equation (7-5). -/
def phaseCount (d a : Nat) : Nat := if d = 0 then 0 else (d + a - 1) / a

end Sys2Proof.Machine
end

