-- ==== Sys2Proof/Machine/Objects.lean ====
section
/-! DEFINITION. The form store's objects, catalog and sector map (10.1), the cold-start scan (10.2), the In
use test (R156), and the read holds with the resuming of operations (R163 to R165). -/

namespace Sys2Proof.Machine

/-! ## Sectors (R151, R153) -/

/-- Equation (10-1). -/
def sectorsFor (len : Nat) : Nat := (len + Config.headerBytes + (Config.sectorBytes - 1)) / Config.sectorBytes

/-- The sector map with the sectors that satisfy `p` in state `st`; `i` is the number of the first. -/
def markSectors (p : Nat → Bool) (st : SectorState) : Nat → List SectorState → List SectorState
  | _, [] => []
  | i, x :: xs => (if p i then st else x) :: markSectors p st (i + 1) xs

/-- The sectors `first .. first + count - 1` put in state `st`. -/
def setSectors (m : List SectorState) (first count : Nat) (st : SectorState) : List SectorState :=
  markSectors (fun i => decide (first ≤ i) && decide (i < first + count)) st 0 m

/-- The sectors of a list put in state `st`. -/
def setSectorList (m : List SectorState) (l : List Nat) (st : SectorState) : List SectorState :=
  markSectors (fun i => l.contains i) st 0 m

/-- A sector's state; a sector past the last is never available. -/
def sectorAt (m : List SectorState) (i : Nat) : SectorState := m.getD i .used

/-- `count` sectors from `i` on, all Free or Dirty (R158). -/
def runFits (m : List SectorState) (i count : Nat) : Bool :=
  (List.range count).all fun j => decide (sectorAt m (i + j) ≠ .used)

/-- The run that begins at the lowest sector number (R158). -/
def findRun (m : List SectorState) (count : Nat) : Option Nat :=
  if count ≤ Config.sectorCount then (List.range Config.sectorCount).find? fun i => runFits m i count
  else none

/-- The Dirty sectors of a run, ascending. -/
def dirtyOf (m : List SectorState) (first count : Nat) : List Nat :=
  ((List.range count).map fun j => first + j).filter fun i => decide (sectorAt m i = .dirty)

def freeSectors (m : List SectorState) : Nat := m.countP fun x => decide (x = .free)

/-! ## Objects -/

/-- The store address of body byte `b` of an object (R151). -/
def bodyAddress (first b : Nat) : Nat := sectorAddress first + Config.headerBytes + b

/-- Body byte `b` lies before the end of the object's last sector: a read of it is made (R178). -/
def CatEntry.reaches (e : CatEntry) (b : Nat) : Bool :=
  decide (bodyAddress e.first b < sectorAddress (e.first + e.count))

/-- A body byte as the loader and the rasterizer read it: 0 at or beyond the body's length and beyond the
object's last sector (R178). -/
def bodyByte (m : Memory) (e : CatEntry) (b : Nat) : Byte :=
  if b < e.length ∧ e.reaches b = true then m.read (bodyAddress e.first b) else 0

/-- A two-byte field of a body. -/
def bodyHalf (m : Memory) (e : CatEntry) (b : Nat) : Nat := natOf [bodyByte m e b, bodyByte m e (b + 1)]

/-- The catalog entry of a number (R153). -/
def catFind (cat : List CatEntry) (number : Nat) : Option CatEntry := cat.find? fun e => e.number = number

/-- The state marks of the header (12.5). -/
def markWriting : Byte := 252
def markValid : Byte := 240
def markDeleted : Byte := 0

/-! ## The scan (R154, R155) -/

/-- What the scan makes of a sector. -/
inductive ScanFinding where
  | object (e : CatEntry)
  | dirtyRun (count : Nat)
  | freeSector
  | dirtySector
  deriving DecidableEq, Repr

/-- The header of sector `i` as an entry, if it is well-formed (R154): judged from its number, kind,
length and mark alone (12.5). -/
def scanHeader (m : Memory) (i : Nat) : Option CatEntry :=
  let a := sectorAddress i
  let number := (m.read a).toNat
  let len := natOf (m.readRange (a + 2) 4)
  let mark := m.read (a + 10)
  match ObjKind.ofCode (m.read (a + 1)).toNat with
  | some kind =>
    if 1 ≤ number ∧ (mark = markWriting ∨ mark = markValid ∨ mark = markDeleted)
        ∧ i + sectorsFor len ≤ Config.sectorCount then
      some { number := number, kind := kind, first := i, count := sectorsFor len, length := len,
             generation := natOf (m.readRange (a + 6) 2) }
    else none
  | none => none

/-- The body's computed check equals the check field. -/
def bodyCheckGood (m : Memory) (e : CatEntry) : Bool :=
  decide ((checkOf (m.readRange (bodyAddress e.first 0) e.length)).toNat
    = natOf (m.readRange (sectorAddress e.first + 8) 2))

/-- The table of R154. -/
def scanSector (m : Memory) (i : Nat) : ScanFinding :=
  match scanHeader m i with
  | some e =>
    if m.read (sectorAddress i + 10) = markValid then
      if bodyCheckGood m e then .object e else .dirtyRun e.count
    else .dirtyRun e.count
  | none => if m.sectorErased i then .freeSector else .dirtySector

/-- A found Valid object enters the catalog, or the newer of two of one number stays (R155). -/
def scanObject (cat : List CatEntry) (map : List SectorState) (e : CatEntry) :
    List CatEntry × List SectorState :=
  match catFind cat e.number with
  | none => (cat ++ [e], setSectors map e.first e.count .used)
  | some c =>
    if 1 ≤ seqDistance e.generation c.generation ∧ seqDistance e.generation c.generation ≤ 32767 then
      (cat.map fun x => if x.number = e.number then e else x,
       setSectors (setSectors map c.first c.count .dirty) e.first e.count .used)
    else (cat, setSectors map e.first e.count .dirty)

/-- The walk of the scan from sector `i` (R154). -/
def scanFrom (m : Memory) : Nat → Nat → List CatEntry × List SectorState → List CatEntry × List SectorState
  | 0, _, acc => acc
  | fuel + 1, i, (cat, map) =>
    if i < Config.sectorCount then
      match scanSector m i with
      | .object e => scanFrom m fuel (i + e.count) (scanObject cat map e)
      | .dirtyRun n => scanFrom m fuel (i + n) (cat, setSectors map i n .dirty)
      | .freeSector => scanFrom m fuel (i + 1) (cat, setSectors map i 1 .free)
      | .dirtySector => scanFrom m fuel (i + 1) (cat, setSectors map i 1 .dirty)
    else (cat, map)

/-- The catalog and the sector map the scan rebuilds (R153, R154). -/
def scanStore (m : Memory) : List CatEntry × List SectorState :=
  scanFrom m Config.sectorCount 0 ([], List.replicate Config.sectorCount .free)

/-! ## In use (R156) -/

/-- The glyph set or graphic a table entry names. -/
def TableEntry.objectNumber (e : TableEntry) : Option Nat :=
  match e.part with
  | .text _ _ _ ref _ _ _ _ => some ref.number
  | .graphic ref _ _ => some ref.number
  | .box _ _ _ | .bars _ _ _ _ _ _ _ _ _ => none

def tableNames (table : List TableEntry) (number : Nat) : Bool :=
  table.any fun e => decide (e.objectNumber = some number)

/-- A context keeps the number in use: as its form, or through its element table. -/
def Context.uses (c : Context) (number : Nat) : Bool :=
  (!c.isFree && decide (c.form = some number)) || tableNames c.table number

/-- The In use test of R156; the table of a load in progress counts as the next context's. -/
def State.inUse (s : State) (number : Nat) : Bool :=
  s.ctxA.uses number || s.ctxB.uses number
  || s.seq.queue.any (fun e => decide (e.kind = .job) && decide (e.form = some number))
  || (match s.loader with
      | some l => tableNames l.table number
      | none => false)

/-! ## Operations and holds (R163 to R165) -/

/-- The next operation of the served command begins, unless a read hold stands (R163). -/
def Store.beginDue (st : Store) : Store :=
  if st.phase = .idle ∧ st.holdLoader = false ∧ st.holdRaster = false then
    match st.due with
    | op :: rest => { st with current := some op, due := rest, phase := .running false }
    | [] => st
  else st

/-- A hold has ended: with no other standing, a Suspended operation resumes, or with the memory Idle the
next operation due begins (R165). -/
def Store.resume (st : Store) : Store :=
  if st.holdLoader = false ∧ st.holdRaster = false then
    match st.phase with
    | .suspended => { st with phase := .running false }
    | .idle => st.beginDue
    | .running _ | .suspending => st
  else st

/-- The loader's hold ends, with any read it has waiting (R53, R165). -/
def Store.releaseLoader (st : Store) : Store :=
  if st.holdLoader then { st with holdLoader := false, waitLoader := false }.resume else st

/-- The rasterizer's hold ends (R73, R165). -/
def Store.releaseRaster (st : Store) : Store :=
  if st.holdRaster then { st with holdRaster := false, waitRaster := false }.resume else st

/-- The number that a STORE-END or STORE-DELETE being served concerns (R165). -/
def Store.servedNumber (st : Store) : Option Nat :=
  match st.serving with
  | some (.stop _) => st.write.map fun w => w.number
  | some (.delete number) => some number
  | some (.begin _ _) | some (.data _) | none => none

/-- An operation is executing (R163). -/
def Store.executing (st : Store) : Bool :=
  match st.phase with
  | .running _ | .suspending => true
  | .idle | .suspended => false

end Sys2Proof.Machine
end

