-- ==== Sys2Proof/Machine/Loader.lean ====
section
/-! DEFINITION. The form loader (03_forms_and_elements.md, 05_bar_symbols.md sections 5.1 to 5.3): the
reading of a form, the binding of text, extents, clipping, the slice test, the element table, and the
progress of a load through its catalog lookups and its reads of the store. -/

namespace Sys2Proof.Machine

/-! ## Element records (R38 to R40, R75, 12.5) -/

/-- The rotation byte: 1, 2, 3, any other value 0 degrees (12.5). -/
def rotationOf (n : Nat) : Rotation :=
  if n = 1 then .r90 else if n = 2 then .r180 else if n = 3 then .r270 else .r0

/-- The kind-specific part of the record at offset `o`, and the record's size; `none` for an unknown kind
(R38, 12.5). -/
def readBody (m : Memory) (e : CatEntry) (o : Nat) : Option (ElementBody × Nat) :=
  let b := fun i => (bodyByte m e (o + i)).toNat
  if b 0 = 1 then
    some (.box (clamp 1 2560 (bodyHalf m e (o + 7))) (clamp 1 4800 (bodyHalf m e (o + 9))) (b 11), 12)
  else if b 0 = 2 then
    let literal := (List.range (min (b 13) 64)).map fun i => bodyByte m e (o + 14 + i)
    some (.text (b 7) (if b 8 = 0 then .literal literal else .field (b 9)) (clamp 1 4 (b 10))
      (clamp 1 4 (b 11)) (clamp 1 240 (b 12)), 14 + b 13)
  else if b 0 = 3 then
    some (.bars (b 7) (clamp 1 10 (b 8)) (clamp 1 4800 (bodyHalf m e (o + 9))) (clamp 0 3 (b 11))
      (if b 12 = 1 then .ladder else .picket), 13)
  else if b 0 = 4 then some (.graphic (b 7), 8)
  else none

/-- The element record at offset `o` and its size; the rotation is taken as 0 for all kinds but Text
(R39). -/
def readElement (m : Memory) (e : CatEntry) (o : Nat) : Option (Element × Nat) :=
  (readBody m e o).map fun (body, size) =>
    ({ mode := if (bodyByte m e (o + 1)).toNat = 0 then .black else .reverse,
       x := clamp 0 2559 (bodyHalf m e (o + 2)), y := clamp 0 4799 (bodyHalf m e (o + 4)),
       rotation := match body with
         | .text _ _ _ _ _ => rotationOf (bodyByte m e (o + 6)).toNat
         | .box _ _ _ | .bars _ _ _ _ _ | .graphic _ => .r0,
       body := body }, size)

/-- The first `count` records, from offset `o` (R38); `none` when one has an unknown kind. -/
def readElements (m : Memory) (e : CatEntry) : Nat → Nat → Option (List Element)
  | 0, _ => some []
  | n + 1, o =>
    match readElement m e o with
    | some (el, size) => (readElements m e n (o + size)).map fun els => el :: els
    | none => none

/-- A form: its clamped height and its elements; `none` is Bad form (R38, R43 step 2). -/
def readForm (m : Memory) (e : CatEntry) : Option FormBody :=
  let count := (bodyByte m e 2).toNat
  if 1 ≤ count ∧ count ≤ 128 then
    (readElements m e count 3).map fun els => { height := clamp 1 4800 (bodyHalf m e 0), elements := els }
  else none

/-! ## Catalog lookups and reads of a load (R52) -/

/-- How many leading body bytes the load reads once of an object it looks up: a glyph set's height, code
map and advances; a graphic's dimensions (R41, R42). -/
def leadingBytes : ObjKind → Nat
  | .form => 0
  | .glyphSet => 289
  | .graphic => 4

/-- What a read brings of an object: a form's records, or the leading bytes of a glyph set or graphic. -/
def readContent (m : Memory) (e : CatEntry) : Content :=
  match e.kind with
  | .form => .form (readForm m e)
  | .glyphSet | .graphic => .lead ((List.range (leadingBytes e.kind)).map fun i => bodyByte m e i)

/-- A lookup in the catalog as it stands; it reads nothing of the object (R165). -/
def lookUp (cat : List CatEntry) (number : Nat) : Found :=
  { number := number, entry := catFind cat number, content := none }

/-- The finding with what a served read of the object brings. -/
def Found.read (f : Found) (m : Memory) : Found := { f with content := f.entry.map (readContent m) }

/-- The findings of a load with the read of one number's object. -/
def readFound (m : Memory) (found : List Found) (number : Nat) : List Found :=
  found.map fun f => if f.number = number then f.read m else f

/-- The findings of a load without those of one number. -/
def dropFound (found : List Found) (number : Nat) : List Found := found.filter fun f => !decide (f.number = number)

/-- The findings of a load with a lookup. One that finds the entry found before changes nothing: an object is
read once for a load (R54). -/
def noteLookup (found : List Found) (f : Found) : List Found :=
  if found.any fun x => decide (x.number = f.number) && decide (x.entry = f.entry) then found
  else dropFound found f.number ++ [f]

/-- The lookup of a number: still to be made (`none`), or made, with the object found if there is one. The
number 0 names no object (R40). What was found of the number of a STORE-END or STORE-DELETE being served
(`served`) does not serve: that lookup is made again, and waits for the command's end (R52, R165; DESIGN CHOICE,
log 22). -/
def foundFor (served : Option Nat) (found : List Found) (number : Nat) : Option (Option Found) :=
  if number = 0 then some none
  else if served = some number then none
  else
    match found.find? fun f => f.number = number with
    | none => none
    | some f => some (if f.entry.isSome then some f else none)

/-- The reference to a found object, if its kind is the wanted one (R45, R47). -/
def Found.refAs (f : Found) (kind : ObjKind) : Option ObjRef :=
  match f.entry with
  | some e => if e.kind = kind then some { number := e.number, generation := e.generation } else none
  | none => none

/-- The leading bytes that a read of the load has brought. -/
def Found.lead? (f : Found) : Option (List Byte) :=
  match f.content with
  | some (.lead bytes) => some bytes
  | some (.form _) | none => none

/-- The leading bytes of the object; the load uses them once they are read. -/
def Found.bytes (f : Found) : List Byte := f.lead?.getD []

/-! ## Glyph sets (R41, 12.5) -/

def leadByte (bs : List Byte) (i : Nat) : Nat := (bs.getD i 0).toNat

/-- The glyph height, 0 read as 1 (R178). -/
def glyphHeight (bs : List Byte) : Nat := max 1 (leadByte bs 0)

/-- The set defines the code. -/
def glyphDefined (bs : List Byte) (c : Nat) : Bool := (bs.getD (1 + c / 8) 0).getLsbD (7 - c % 8)

/-- A defined code's advance, 0 read as 1 (R178). -/
def glyphAdvance (bs : List Byte) (c : Nat) : Nat := max 1 (leadByte bs (33 + c))

/-- A character of bound text: its glyph's advance, or a substituted blank's (R45). -/
def bindChar (bs : List Byte) (b : Byte) : TextChar :=
  if glyphDefined bs b.toNat then { code := b.toNat, advance := glyphAdvance bs b.toNat, substituted := false }
  else { code := b.toNat, advance := glyphHeight bs / 2, substituted := true }

/-! ## Binding (R44, R76) -/

/-- The value of a field number, empty when the job does not supply it or it is outside 1..16. -/
def fieldValue (fields : List Field) (number : Nat) : List Byte :=
  if 1 ≤ number ∧ number ≤ 16 then
    match fields.find? fun f => f.number = number with
    | some f => f.value
    | none => []
  else []

def boundText (fields : List Field) : TextSource → List Byte
  | .literal bs => bs
  | .field number => fieldValue fields number

/-- The runs of a Bars value; `none` is a bad value (R76, R77). -/
def barRuns (value : List Byte) : Option (List Nat) :=
  if value.all fun b => decide (49 ≤ b.toNat) && decide (b.toNat ≤ 52) then
    some (value.map fun b => b.toNat - 48)
  else none

/-! ## Geometry (R46 to R48, R78 to R83) -/

/-- Equation (5-1). -/
def effectiveReduction (m r : Nat) : Nat := min r (m - 1)

/-- Equation (5-2). -/
def barExtent (m : Nat) (runs : List Nat) : Nat := m * runs.sum

/-- The bars of a run list: offset and width of each, Equations (5-3) and (5-4). -/
def barSpans (m re : Nat) : Nat → List Nat → List (Nat × Nat)
  | o, bar :: space :: rest => (o, m * bar - re) :: barSpans m re (o + m * bar + m * space) rest
  | o, [bar] => [(o, m * bar - re)]
  | _, [] => []

/-- The first dot of a station's slice (R167). -/
def sliceStart (number : Nat) : Nat := Config.sliceWidth * number

/-- Equation (3-3): the box of the given size at (x, y), clipped to the label; `none` when empty (R48). -/
def clipBox (x y width height labelWidth h : Nat) : Option (Nat × Nat × Nat × Nat) :=
  if width = 0 ∨ height = 0 ∨ labelWidth ≤ x ∨ h ≤ y then none
  else some (x, min (x + width - 1) (labelWidth - 1), y, min (y + height - 1) (h - 1))

/-- The columns meet the station's slice (R48). -/
def meetsSlice (number c0 c1 : Nat) : Bool :=
  decide (c0 ≤ sliceStart number + 639) && decide (sliceStart number ≤ c1)

/-- The lowest and highest bar whose columns, clipped to the label, meet the slice (R83); `k` is the
number of the first bar. -/
def sliceBarsFrom (number x labelWidth : Nat) : Nat → List (Nat × Nat) → Option (Nat × Nat)
  | _, [] => none
  | k, (o, w) :: rest =>
    let later := sliceBarsFrom number x labelWidth (k + 1) rest
    if x + o < labelWidth ∧ meetsSlice number (x + o) (min (x + o + w - 1) (labelWidth - 1)) = true then
      match later with
      | some (_, high) => some (k, high)
      | none => some (k, k)
    else later

/-! ## One element of step 3 (R43 to R49) -/

/-- What a load is made from besides the store: the job's fields, N and the station number. -/
structure LoadInput where
  fields : List Field
  n      : Nat
  number : Nat
  deriving DecidableEq, Repr

/-- The table and the flags found so far. -/
structure LoadAcc where
  table        : List TableEntry
  fieldClipped : Bool
  substituted  : Bool
  deriving DecidableEq, Repr

def LoadAcc.start : LoadAcc := { table := [], fieldClipped := false, substituted := false }

/-- A measured element: its box, and its table part or the failure that an entered element has (R49). -/
structure Measured where
  width  : Nat
  height : Nat
  part   : Except Reason Part

/-- The Text element's box and part when its glyph set is present (R44 to R46). -/
def measureText (rotation : Rotation) (mx my : Nat) (ref : ObjRef) (lead text : List Byte) : Measured :=
  let chars := text.map (bindChar lead)
  let w := mx * (chars.map fun c => c.advance).sum
  let h := my * glyphHeight lead
  let part := Part.text rotation mx my ref (glyphHeight lead) w h chars
  match rotation with
  | .r0 | .r180 => { width := w, height := h, part := .ok part }
  | .r90 | .r270 => { width := h, height := w, part := .ok part }

/-- An element whose object is absent reaches the right and bottom edges (R47). -/
def measureAbsent (x y : Nat) : Measured :=
  { width := 2560 - x, height := 4800 - y, part := .error .missingObject }

/-- The Bars element's box and part (R78 to R83). -/
def measureBars (inp : LoadInput) (x y m h r : Nat) (orientation : Orientation) (value : List Byte) :
    Measured :=
  match barRuns value, orientation with
  | none, .picket => { width := 2560 - x, height := h, part := .error .badBars }
  | none, .ladder => { width := h, height := 4800 - y, part := .error .badBars }
  | some runs, .picket =>
    let re := effectiveReduction m r
    { width := barExtent m runs, height := if runs = [] then 0 else h,
      part := .ok (.bars .picket m h r re runs (barExtent m runs) ((runs.length + 1) / 2)
        (sliceBarsFrom inp.number x (640 * inp.n) 1 (barSpans m re 0 runs))) }
  | some runs, .ladder =>
    let re := effectiveReduction m r
    { width := if runs = [] then 0 else h, height := barExtent m runs,
      part := .ok (.bars .ladder m h r re runs (barExtent m runs) ((runs.length + 1) / 2) none) }

/-- The Graphic element's box and part when its graphic is present (R42, R178). -/
def measureGraphic (ref : ObjRef) (lead : List Byte) : Measured :=
  let w := clamp 1 2560 (natOf [lead.getD 0 0, lead.getD 1 0])
  let h := clamp 1 4800 (natOf [lead.getD 2 0, lead.getD 3 0])
  { width := w, height := h, part := .ok (.graphic ref w h) }

/-- The object number whose lookup the element needs at the station of this number (R43, R45, R47). A Graphic
whose corner lies right of the slice meets it whatever its width, and is passed over without a lookup, as in
the example of section 3.4; every Text needs its set, for the flag Substituted (R49; DESIGN CHOICE, log 32). -/
def Element.objectNumber (number : Nat) (el : Element) : Option Nat :=
  match el.body with
  | .text glyphSet _ _ _ _ => some glyphSet
  | .graphic object => if sliceStart number + 639 < el.x then none else some object
  | .box _ _ _ | .bars _ _ _ _ _ => none

/-- The object kind the element needs (R45, R47). -/
def Element.objectKind (el : Element) : ObjKind :=
  match el.body with
  | .graphic _ => .graphic
  | .text _ _ _ _ _ | .box _ _ _ | .bars _ _ _ _ _ => .glyphSet

/-- The element's object is present and has not been read yet: its header is read before the element is
measured (R41, R42, R52). -/
def needsRead (el : Element) (obj : Option Found) : Bool :=
  match obj with
  | some f => (f.refAs el.objectKind).isSome && f.lead?.isNone
  | none => false

/-- The element measured with what its lookup and read found. -/
def measure (inp : LoadInput) (el : Element) (obj : Option Found) : Measured :=
  match el.body with
  | .box w h t => { width := w, height := h, part := .ok (.box w h t) }
  | .bars field m h r o => measureBars inp el.x el.y m h r o (fieldValue inp.fields field)
  | .text _ source mx my maxChars =>
    match obj.bind fun f => (f.refAs .glyphSet).map fun r => (f, r) with
    | some (f, ref) =>
      measureText el.rotation mx my ref f.bytes ((boundText inp.fields source).take maxChars)
    | none => measureAbsent el.x el.y
  | .graphic _ =>
    match obj.bind fun f => (f.refAs .graphic).map fun r => (f, r) with
    | some (f, ref) => measureGraphic ref f.bytes
    | none => measureAbsent el.x el.y

/-- The element's bound text is longer than its max characters (R44). -/
def clipsField (inp : LoadInput) (el : Element) : Bool :=
  match el.body with
  | .text _ source _ _ maxChars => decide (maxChars < (boundText inp.fields source).length)
  | .box _ _ _ | .bars _ _ _ _ _ | .graphic _ => false

/-- A character of the element's text becomes a substituted blank (R45). -/
def substitutes (inp : LoadInput) (el : Element) (obj : Option Found) : Bool :=
  match el.body with
  | .text _ source _ _ maxChars =>
    match obj.bind fun f => (f.refAs .glyphSet).map fun _ => f with
    | some f => ((boundText inp.fields source).take maxChars).any fun b => !glyphDefined f.bytes b.toNat
    | none => false
  | .box _ _ _ | .bars _ _ _ _ _ | .graphic _ => false

/-- An element examined (R48, R49): passed over, entered at the table's tail, or failing the load. -/
def examine (inp : LoadInput) (h index : Nat) (el : Element) (obj : Option Found) (acc : LoadAcc) :
    Except Reason LoadAcc :=
  let acc := { acc with fieldClipped := acc.fieldClipped || clipsField inp el,
                        substituted := acc.substituted || substitutes inp el obj }
  let ms := measure inp el obj
  match clipBox el.x el.y ms.width ms.height (640 * inp.n) h with
  | none => .ok acc
  | some (c0, c1, r0, r1) =>
    if meetsSlice inp.number c0 c1 then
      match ms.part with
      | .ok part =>
        .ok { acc with table := acc.table ++
          [{ index := index, mode := el.mode, x := el.x, y := el.y, c0 := c0, c1 := c1, r0 := r0, r1 := r1,
             part := part }] }
      | .error reason => .error reason
    else .ok acc

/-- Step 3 over the elements from `index` on, as far as the lookups and reads made allow: where the load then
stands, the table and flags, and how many elements are examined. -/
def examineFrom (served : Option Nat) (inp : LoadInput) (found : List Found) (h : Nat) :
    Nat → List Element → LoadAcc → LoadStatus × LoadAcc × Nat
  | index, [], acc => (.done, acc, index)
  | index, el :: els, acc =>
    let number := el.objectNumber inp.number
    match number.elim (some none) (foundFor served found) with
    | none => (.lookup (number.getD 0), acc, index)
    | some obj =>
      if needsRead el obj then (.read (number.getD 0), acc, index)
      else
        match examine inp h index el obj acc with
        | .ok acc' => examineFrom served inp found h (index + 1) els acc'
        | .error reason => (.failed reason, acc, index)

/-- Steps 1 and 2 (R43): the form's body once it is read, or where the load stands before that. The form is In
use from its JOB's queuing, and one lookup serves (R52). -/
def formOf (form : Nat) (found : List Found) : Except LoadStatus FormBody :=
  if form = 0 then .error (.failed .missingObject)
  else
    match found.find? fun f => f.number = form with
    | none => .error (.lookup form)
    | some f =>
      if (f.refAs .form).isSome then
        match f.content with
        | some (.form (some body)) => .ok body
        | some (.form none) => .error (.failed .badForm)
        | some (.lead _) | none => .error (.read form)
      else .error (.failed .missingObject)

/-- The table and the flags of a load so far. -/
def Load.acc (l : Load) : LoadAcc :=
  { table := l.table, fieldClipped := l.fieldClipped, substituted := l.substituted }

/-- The load gone on from where it stands, with these findings (R43, R52). It reads nothing of the memory. -/
def runLoad (served : Option Nat) (form : Nat) (inp : LoadInput) (found : List Found) (l : Load) : Load :=
  match formOf form found with
  | .error status => { l with status := status, found := found, lookupWaits := false }
  | .ok body =>
    let r := examineFrom served inp found body.height l.examined (body.elements.drop l.examined) l.acc
    { ctx := l.ctx, status := r.1, found := found, examined := r.2.2, table := r.2.1.table,
      fieldClipped := r.2.1.fieldClipped, substituted := r.2.1.substituted, lookupWaits := false }

/-- A load begins (R43): it needs the lookup of its form. -/
def Load.start (i : CtxId) (form : Nat) : Load :=
  { ctx := i, status := if form = 0 then .failed .missingObject else .lookup form, found := [], examined := 0,
    table := [], fieldClipped := false, substituted := false, lookupWaits := false }

/-! ## The loader in the state -/

/-- The form number and the input of the load of a context. -/
def State.loadForm (s : State) (l : Load) : Nat := (s.ctx l.ctx).form.getD 0

def State.loadInput (s : State) (l : Load) : LoadInput :=
  { fields := (s.ctx l.ctx).fields, n := s.setup.n, number := s.number }

/-- The load goes on with these findings: the table is built as far as they allow. -/
def advanceLoad (s : State) (l : Load) (found : List Found) : State :=
  s.setLoader (some (runLoad s.store.servedNumber (s.loadForm l) (s.loadInput l) found l))

/-- The next lookup of the load is served from the catalog (R165). -/
def serveLookup (s : State) : State :=
  match s.loader with
  | none => s
  | some l =>
    match l.status with
    | .lookup number => advanceLoad s l (noteLookup l.found (lookUp s.store.catalog number))
    | .read _ | .failed _ | .done => s.setLoader (some { l with lookupWaits := false })

/-- A read of the loader is served from the memory: it brings the object that the load needs next (R52). -/
def serveLoaderRead (s : State) : State :=
  match s.loader with
  | none => s
  | some l =>
    match l.status with
    | .read number => advanceLoad s l (readFound s.store.memory l.found number)
    | .lookup _ | .failed _ | .done => s

/-- The catalog entry of a number has changed during a load: what the load had found of it is looked up again
(R52; DESIGN CHOICE, log 22). The objects of the table so far are In use, and do not change. -/
def forgetFound (s : State) (number : Nat) : State :=
  match s.loader with
  | some l => s.setLoader (some { l with found := dropFound l.found number })
  | none => s

/-- A lookup that waited for a store command is served at the command's end (R165). -/
def serveWaitingLookup (s : State) : State :=
  match s.loader with
  | some l => if l.lookupWaits then serveLookup s else s
  | none => s

/-- The waiting reads of both readers are served (R164). What the rasterizer reads goes into its row when the
render completes, its hold standing until then (R73). -/
def serveReads (s : State) : State :=
  (if s.store.waitLoader then serveLoaderRead s else s).setStore
    { s.store with waitLoader := false, waitRaster := false }

/-- The load of a context is stopped or abandoned (R53): the loader is idle, and its hold ends. -/
def stopLoad (s : State) (i : CtxId) : State :=
  match s.loader with
  | some l => if l.ctx = i then (s.setLoader none).setStore s.store.releaseLoader else s
  | none => s

/-- The load of a context is in progress. -/
def State.loadingCtx (s : State) (i : CtxId) : Bool :=
  match s.loader with
  | some l => decide (l.ctx = i)
  | none => false

end Sys2Proof.Machine
end

