-- ==== Sys2Proof/Machine/Raster.lean ====
section
/-! DEFINITION. The rasterizer and the row ring (04_row_rendering.md, 05_bar_symbols.md section 5.4): the
foreground of each element kind, the element lists, the render position, the beginning of a render, and
the ring's history. -/

namespace Sys2Proof.Machine

/-! ## Foreground (R69 to R72, R84, R85) -/

/-- A stored object by its reference: number and generation (R50, R73). -/
def refFind (cat : List CatEntry) (ref : ObjRef) : Option CatEntry :=
  cat.find? fun e => e.number = ref.number ∧ e.generation = ref.generation

/-- Bytes of one image row of the given width (12.5). -/
def rowBytes (width : Nat) : Nat := (width + 7) / 8

/-- The dot at column `u` of the image row that starts at body offset `o`; a set bit is ink (12.5). -/
def imageDot (m : Memory) (e : CatEntry) (o u : Nat) : Bool :=
  (bodyByte m e (o + u / 8)).getLsbD (7 - u % 8)

/-- The body offset of a defined code's image (12.5). -/
def glyphOffset (lead : List Byte) (code : Nat) : Nat :=
  289 + (((List.range code).filter (glyphDefined lead)).map
    fun c => glyphHeight lead * rowBytes (glyphAdvance lead c)).sum

/-- The body offset of row `g` of a character's glyph image (12.5). -/
def glyphRowOffset (lead : List Byte) (c : TextChar) (g : Nat) : Nat :=
  glyphOffset lead c.code + g * rowBytes c.advance

/-- The body offset of row `g` of a graphic of the given width (12.5). -/
def graphicRowOffset (width g : Nat) : Nat := 4 + g * rowBytes width

/-- A glyph set's height, code map and advances (12.5). -/
def glyphLead (m : Memory) (e : CatEntry) : List Byte :=
  (List.range (leadingBytes .glyphSet)).map fun i => bodyByte m e i

/-- The character that covers column `u` of the unrotated frame, with the column of its glyph (R46, R71);
`s` is the column at which the list's first character begins. -/
def findChar (mx u : Nat) : Nat → List TextChar → Option (TextChar × Nat)
  | _, [] => none
  | s, c :: cs =>
    if s ≤ u ∧ u < s + mx * c.advance then some (c, (u - s) / mx) else findChar mx u (s + mx * c.advance) cs

/-- The place of a dot in the unrotated frame (R71). -/
def unrotate (rotation : Rotation) (w h cc rr : Nat) : Nat × Nat :=
  match rotation with
  | .r0 => (cc, rr)
  | .r90 => (rr, h - 1 - cc)
  | .r180 => (w - 1 - cc, h - 1 - rr)
  | .r270 => (w - 1 - rr, cc)

/-- The glyph ink at (u, v) of the unrotated frame (R71). -/
def glyphInk (m : Memory) (e : CatEntry) (lead : List Byte) (mx my : Nat) (chars : List TextChar)
    (u v : Nat) : Bool :=
  match findChar mx u 0 chars with
  | some (c, col) =>
    !c.substituted
      && imageDot m e (glyphRowOffset lead c (v / my)) col
  | none => false

/-- The border band of a box (R70). -/
def boxCovers (width height thickness cc rr : Nat) : Bool :=
  decide (thickness = 0) || decide (cc < thickness) || decide (width ≤ cc + thickness)
    || decide (rr < thickness) || decide (height ≤ rr + thickness)

/-- A Ladder entry's cursor moved past every bar wholly above the row; `k` is the number of the list's
first bar (R85). -/
def advanceCursor (rr : Nat) : Nat → List (Nat × Nat) → Nat
  | k, [] => k
  | k, (o, w) :: rest => if o + w ≤ rr then advanceCursor rr (k + 1) rest else k

/-- The cursor of an active entry for row `r` (R85). -/
def cursorFor (e : TableEntry) (cursor r : Nat) : Nat :=
  match e.part with
  | .bars .ladder m _ _ re runs _ _ _ =>
    advanceCursor (r - e.y) cursor ((barSpans m re 0 runs).drop (cursor - 1))
  | _ => cursor

/-- The bars numbered `low..high` cover offset `cc` (R84). -/
def picketCovers (spans : List (Nat × Nat)) (low high cc : Nat) : Bool :=
  ((spans.drop (low - 1)).take (high + 1 - low)).any fun b => decide (b.1 ≤ cc) && decide (cc < b.1 + b.2)

/-- The bar the cursor names begins at or above the row (R85). -/
def ladderCovers (spans : List (Nat × Nat)) (cursor rr : Nat) : Bool :=
  match spans[cursor - 1]? with
  | some (o, _) => decide (1 ≤ cursor) && decide (o ≤ rr)
  | none => false

/-- The element covers the dot at offsets (cc, rr) from its corner, within its clipped box. Every reference of a
render finds its object, which is In use (R73); a render whose reads were cut off has none to find, and what it
has not read covers no dot (R64). -/
def partCovers (m : Memory) (cat : List CatEntry) (part : Part) (cursor cc rr : Nat) : Bool :=
  match part with
  | .box w h t => boxCovers w h t cc rr
  | .text rotation mx my ref _ w h chars =>
    match refFind cat ref with
    | some e =>
      glyphInk m e (glyphLead m e) mx my chars (unrotate rotation w h cc rr).1 (unrotate rotation w h cc rr).2
    | none => false
  | .graphic ref w _ =>
    match refFind cat ref with
    | some e => imageDot m e (graphicRowOffset w rr) cc
    | none => false
  | .bars .picket mw _ _ re runs _ _ sliceBars =>
    match sliceBars with
    | some (low, high) => picketCovers (barSpans mw re 0 runs) low high cc
    | none => false
  | .bars .ladder mw _ _ re runs _ _ _ => ladderCovers (barSpans mw re 0 runs) cursor rr

/-- The foreground dots of an entry on row `r`, within the slice and the clipped box (R69). -/
def foreground (m : Memory) (cat : List CatEntry) (number : Nat) (a : ActiveEntry) (r : Nat) : Dots :=
  Dots.ofPred fun lc =>
    let c := sliceStart number + lc
    decide (a.entry.c0 ≤ c) && decide (c ≤ a.entry.c1)
      && partCovers m cat a.entry.part a.cursor (c - a.entry.x) (r - a.entry.y)

/-- One entry applied to the image: Black sets its foreground, Reverse inverts it (R69). -/
def applyEntry (m : Memory) (cat : List CatEntry) (number r : Nat) (image : Dots) (a : ActiveEntry) : Dots :=
  match a.entry.mode with
  | .black => image ||| foreground m cat number a r
  | .reverse => image ^^^ foreground m cat number a r

/-- A row drawn from the active list in form order (R69). -/
def drawRow (m : Memory) (cat : List CatEntry) (number r : Nat) (active : List ActiveEntry) : Dots :=
  active.foldl (applyEntry m cat number r) 0

/-! ## Element lists (R67, R68) -/

/-- An entry placed by its first row, after those of the same row. -/
def insertByRow (e : TableEntry) : List TableEntry → List TableEntry
  | [] => [e]
  | x :: xs => if e.r0 < x.r0 then e :: x :: xs else x :: insertByRow e xs

/-- The pending list of a table (R67). -/
def pendingList (table : List TableEntry) : List TableEntry :=
  table.foldl (fun l e => insertByRow e l) []

/-- An entry placed at its form-order position, its cursor at bar 1 (R68, R85). -/
def insertActive (e : TableEntry) : List ActiveEntry → List ActiveEntry
  | [] => [{ entry := e, cursor := 1 }]
  | x :: xs =>
    if e.index < x.entry.index then { entry := e, cursor := 1 } :: x :: xs else x :: insertActive e xs

/-- Step 2 of R68 for row `r`: the pending list left, and the active list. -/
def admitEntries (r : Nat) : List TableEntry → List ActiveEntry → List TableEntry × List ActiveEntry
  | [], active => ([], active)
  | e :: es, active =>
    if e.r0 ≤ r then admitEntries r es (if r ≤ e.r1 then insertActive e active else active)
    else (e :: es, active)

/-- The lists updated for row `r` (R68), the cursors moved (R85). -/
def updateLists (r : Nat) (pending : List TableEntry) (active : List ActiveEntry) :
    List TableEntry × List ActiveEntry :=
  let g := admitEntries r pending (active.filter fun a => decide (r ≤ a.entry.r1))
  (g.1, g.2.map fun a => { a with cursor := cursorFor a.entry a.cursor r })

/-- The first row of the unrotated frame that row `r` of an entry crosses in the slice (R71): at rotations 0 and 180
its one row, at 90 and 270 the lower of those at the two ends of its dots in the slice. -/
def TableEntry.firstCrossed (e : TableEntry) (number : Nat) (rotation : Rotation) (w h r : Nat) : Nat :=
  let v := fun c => (unrotate rotation w h (c - e.x) (r - e.y)).2
  min (v (max e.c0 (sliceStart number))) (v (min e.c1 (sliceStart number + 639)))

/-- A row of a Text reads the store: at rotations 0 and 180 the glyph row of a character that has a glyph, whether or
not it lies in the slice (DESIGN CHOICE, log 23), and at 90 and 270 the glyph rows of the one character that the row
crosses, if it has a glyph, whose dots fall in the slice (R71). A substituted blank has none (R41, R45). A read of a
glyph row that begins past the object's last sector is not made (R178). -/
def textReads (o : CatEntry) (lead : List Byte) (rotation : Rotation) (mx my u v : Nat) (chars : List TextChar) :
    Bool :=
  let made := fun c : TextChar => !c.substituted && o.reaches (glyphRowOffset lead c (v / my))
  match rotation with
  | .r0 | .r180 => chars.any made
  | .r90 | .r270 => (findChar mx u 0 chars).any fun x => made x.1

/-- The entry's row `r` is drawn with a glyph row or a graphic row read from the store (R71 to R73): a graphic's
image row unless it begins past the object's last sector, where no read is made (R178). -/
def TableEntry.readsAt (m : Memory) (cat : List CatEntry) (number : Nat) (e : TableEntry) (r : Nat) : Bool :=
  match e.part with
  | .graphic ref w _ => (refFind cat ref).any fun o => o.reaches (graphicRowOffset w (r - e.y))
  | .text rotation mx my ref _ w h chars =>
    (refFind cat ref).any fun o => textReads o (glyphLead m o) rotation mx my (unrotate rotation w h 0 (r - e.y)).1
      (e.firstCrossed number rotation w h r) chars
  | .box _ _ _ | .bars _ _ _ _ _ _ _ _ _ => false

/-- Row `r` is drawn with glyph or graphic rows read from the store (R73, R87). -/
def readsStore (m : Memory) (cat : List CatEntry) (number : Nat) (active : List ActiveEntry) (r : Nat) : Bool :=
  active.any fun a => a.entry.readsAt m cat number r

/-! ## The render position (R60 to R62, R65) -/

def CtxId.other : CtxId → CtxId
  | .a => .b
  | .b => .a

/-- The position set, with the lists of another label discarded (R67). -/
def setPosition (s : State) (p : Option Position) : State :=
  s.setRaster { s.raster with position := p, pending := [], active := [] }

/-- The position leaves the label of context `i`: to row 0 of a next context other than it, or nowhere
(R61). -/
def leaveLabel (s : State) (i : CtxId) : State :=
  setPosition s (if (s.ctx i.other).isNext then some { ctx := i.other, row := 0 } else none)

/-- The position moves to a row of context `i`, or beyond the label when the row is past its last row to
render (R61). -/
def movePosition (s : State) (i : CtxId) (row : Nat) : State :=
  if row ≤ (s.ctx i).lastToRender then
    s.setRaster { s.raster with position := some { ctx := i, row := row } }
  else leaveLabel s i

/-- With no position, the idle rasterizer takes row 0 of a next context none of whose rows is rendered
(R61, log 11). -/
def takePosition (s : State) : State :=
  match s.raster.position, s.nextCtx with
  | none, some i => if (s.ctx i).rendered = 0 then setPosition s (some { ctx := i, row := 0 }) else s
  | _, _ => s

/-- Rows of a running label that it has already taken are passed (R62). -/
def passRows (s : State) : State :=
  match s.raster.position with
  | some p =>
    if (s.ctx p.ctx).isRunningLabel && decide (p.row < (s.ctx p.ctx).taken) then
      movePosition s p.ctx (s.ctx p.ctx).taken
    else s
  | none => s

/-- The label's rows are drawn from elements; otherwise they are blank (R66). -/
def Context.drawn (c : Context) : Bool := decide (c.kind = .job) && c.h.isSome && !c.marked

/-- At row 0 of a label drawn from elements the lists are built from its table (R67). -/
def buildLists (s : State) : State :=
  match s.raster.position with
  | some p =>
    if p.row = 0 ∧ (s.ctx p.ctx).drawn = true then
      s.setRaster { s.raster with pending := pendingList (s.ctx p.ctx).table, active := [] }
    else s
  | none => s

/-- The conditions of R60 for the row at the position. -/
def State.mayBeginRender (s : State) (p : Position) : Bool :=
  decide (s.ring.lead.length < Config.leadDepth)
    && ((s.ctx p.ctx).isRunning || ((s.ctx p.ctx).isNext && !s.loadingCtx p.ctx))

/-- A slot in Rendering; its image is drawn by the render's completion (R63). -/
def renderingSlot (seq row : Nat) : Slot :=
  { state := .rendering, seq := seq, row := some row, image := 0, demand := 0, fired := 0 }

/-- The render of the row at the position begins (R60, R66, R68): a slot joins the lead's tail, and the lists
are updated, or discarded for a blank row. Nothing is read of the store yet (R73). -/
def beginRender (s : State) (p : Position) : State :=
  let c := s.ctx p.ctx
  if c.drawn then
    let g := updateLists p.row s.raster.pending s.raster.active
    (s.setRaster { s.raster with
        rendering := some { ctx := p.ctx, seq := c.seq, row := p.row, drawn := true,
                            reads := readsStore s.store.memory s.store.catalog s.number g.2 p.row, cut := false },
        pending := g.1, active := g.2 }).setRing
      { s.ring with lead := s.ring.lead ++ [renderingSlot c.seq p.row] }
  else
    (s.setRaster { s.raster with
        rendering := some { ctx := p.ctx, seq := c.seq, row := p.row, drawn := false, reads := false, cut := false },
        pending := [], active := [] }).setRing
      { s.ring with lead := s.ring.lead ++ [renderingSlot c.seq p.row] }

/-- The idle rasterizer begins its next render when R60 allows. -/
def tryRender (s : State) : State :=
  match s.raster.position with
  | some p => if s.mayBeginRender p then beginRender s p else s
  | none => s

/-- The idle rasterizer's work in an event: take a position, pass rows, build the lists, begin a render.
A rasterizer that is rendering does none of it. -/
def advanceRaster (s : State) : State :=
  if s.raster.rendering = none then tryRender (buildLists (passRows (takePosition s))) else s

/-! ## The ring (R57, R59) -/

/-- A record enters History; of three the oldest becomes Free (R59). -/
def Ring.pushHistory (r : Ring) (x : Slot) : Ring :=
  { r with history := (r.history ++ [x]).drop (r.history.length - 1) }

/-- The record of a pulse without a Rendered slot (R59). -/
def gapRecord : Slot :=
  { state := .history, seq := 0, row := none, image := 0, demand := 0, fired := 0 }

/-- A slot as a history record with its fired map. -/
def Slot.toHistory (x : Slot) (fired : Dots) : Slot := { x with state := .history, fired := fired }

/-- The Rendered slot of a row (R120). -/
def Slot.isRowOf (x : Slot) (seq row : Nat) : Bool :=
  decide (x.state = .rendered) && decide (x.seq = seq) && decide (x.row = some row)

def Ring.findRow (r : Ring) (seq row : Nat) : Option Slot := r.lead.find? fun x => x.isRowOf seq row

def Ring.dropRow (r : Ring) (seq row : Nat) : Ring :=
  { r with lead := r.lead.filter fun x => !x.isRowOf seq row }

/-- The Rendered slots of a label become Free; a slot in Rendering stays until its render completes
(R26). -/
def Ring.freeLabel (r : Ring) (seq : Nat) : Ring :=
  { r with lead := r.lead.filter fun x => !(decide (x.state = .rendered) && decide (x.seq = seq)) }

/-- The number of Free slots (R56). -/
def Ring.freeSlots (r : Ring) : Nat :=
  8 - (r.history.length + (if r.firing.isSome then 1 else 0) + r.lead.length)

end Sys2Proof.Machine
end

