-- ==== Sys2Proof/Machine/Energy.lean ====
section
/-! DEFINITION. The energy unit (06_pulse_energy.md): dot classes from history and neighbours, and the
pulse widths. It holds no state. -/

namespace Sys2Proof.Machine

/-! ## History and classes (R90, R92) -/

/-- The fired map of the pulse just before (R90). -/
def Ring.firstHistory (r : Ring) : Dots :=
  match r.history.reverse with
  | x :: _ => x.fired
  | [] => 0

/-- The fired map of the pulse before that (R90). -/
def Ring.secondHistory (r : Ring) : Dots :=
  match r.history.reverse with
  | _ :: x :: _ => x.fired
  | _ => 0

/-- A lateral neighbour of column `c` fires; one outside the slice does not (R92). -/
def neighbourFires (image : Dots) (c : Nat) : Bool :=
  (decide (1 ≤ c) && image.getLsbD (c - 1)) || image.getLsbD (c + 1)

/-- The class of the firing dot at column `c` (R92). -/
def dotClass (image h1 h2 : Dots) (c : Nat) : Nat :=
  if h1.getLsbD c then 0
  else if h2.getLsbD c then 1
  else if neighbourFires image c then 2
  else 3

/-! ## Widths (R94 to R98) -/

/-- Equation (6-1), the received darkness clamped to 0..15. -/
def darknessFactor (darkness : Nat) : Nat := 192 + 8 * min darkness 15

/-- Equation (6-2), T clamped to −10..80; the factor lies in 146..326. -/
def temperatureFactor (t : Int) : Nat := (256 - 2 * (clampInt (-10) 80 t - 25)).toNat

/-- Equation (6-3). -/
def mainWidth (bm darkness : Nat) (t : Int) : Nat :=
  clamp 10 2000 (bm * darknessFactor darkness * temperatureFactor t / 65536)

/-- Equation (6-4). -/
def boostWidth (w0 k : Nat) : Nat := w0 * k / 64

/-- The lowest class that takes the boost (R93). -/
def Boost.minClass : Boost → Nat
  | .a => 1
  | .b => 2
  | .c => 3

/-- The boosts with a width of at least 1, in the order A, B, C (R99). -/
def presentBoosts (setup : Setup) (w0 : Nat) : List (Boost × Nat) :=
  [(Boost.a, boostWidth w0 setup.ka), (Boost.b, boostWidth w0 setup.kb), (Boost.c, boostWidth w0 setup.kc)].filter
    fun b => decide (1 ≤ b.2)

/-! ## The energy set (R99) -/

/-- What the energy unit hands the strobe planner for a row: the class of each firing dot by its local
column, the number of firing dots of each class 0..3, W0, and the boosts that are present with their widths.
It belongs to the row's pulse: the plan is formed from it in the same event. -/
structure EnergySet where
  classMap    : Nat → Nat
  classCounts : List Nat
  w0          : Nat
  boosts      : List (Boost × Nat)

/-- The number of firing dots of class `k`. -/
def classCount (image h1 h2 : Dots) (k : Nat) : Nat :=
  (Dots.columns image).countP fun c => decide (dotClass image h1 h2 c = k)

/-- The energy set of a row's image, from the history and the main width of its pulse. -/
def energySet (image h1 h2 : Dots) (setup : Setup) (w0 : Nat) : EnergySet :=
  { classMap := dotClass image h1 h2, classCounts := (List.range 4).map (classCount image h1 h2), w0 := w0,
    boosts := presentBoosts setup w0 }

end Sys2Proof.Machine
end

