-- ==== Sys2Proof/Machine/Labels.lean ====
section
/-! DEFINITION. The sequence unit and the label controller (01_the_label_sequence.md,
02_label_life_cycle.md): the marks and their effects, the end of a row and of a label, arming, the taking of
JOB and CANCEL, a received VOID, and TOF. -/

namespace Sys2Proof.Machine

/-! ## Marks (R11 to R18) -/

/-- The mark Voided set on a context that does not carry it (R11). -/
def Context.voidWith (c : Context) (reason : Reason) : Context :=
  if c.voided = none then { c with voided := some reason } else c

def JobEntry.voidWith (e : JobEntry) (reason : Reason) : JobEntry :=
  if e.voided = none then { e with voided := some reason } else e

/-- The context holds the label of this seq. -/
def Context.holds (c : Context) (seq : Nat) : Bool := !c.isFree && decide (c.seq = seq)

/-- Every holder of the label of this seq takes the mark Voided, unless it carries it (R11, R13). -/
def markVoided (s : State) (seq : Nat) (reason : Reason) : State :=
  ((s.setCtxA (if s.ctxA.holds seq then s.ctxA.voidWith reason else s.ctxA)).setCtxB
    (if s.ctxB.holds seq then s.ctxB.voidWith reason else s.ctxB)).setSeq
    { s.seq with queue := s.seq.queue.map fun e => if e.seq = seq then e.voidWith reason else e }

/-- A holder of the label of this seq exists (R13, R15). -/
def State.labelHeld (s : State) (seq : Nat) : Bool :=
  s.ctxA.holds seq || s.ctxB.holds seq || s.seq.queue.any fun e => decide (e.seq = seq)

/-- The label of this seq carries Voided. -/
def State.labelVoided (s : State) (seq : Nat) : Bool :=
  (s.ctxA.holds seq && s.ctxA.voided.isSome) || (s.ctxB.holds seq && s.ctxB.voided.isSome)
  || s.seq.queue.any fun e => decide (e.seq = seq) && e.voided.isSome

/-- An own cause voids the label and sends VOID, unless the label carries Voided (R11, R12). -/
def ownVoid (s : State) (seq : Nat) (reason : Reason) : State :=
  if s.labelVoided seq then s else pushVoid (markVoided s seq reason) { seq := seq, reason := reason }

/-- Every holder of the label of this seq takes the mark Cancelled (R15). -/
def markCancelled (s : State) (seq : Nat) : State :=
  ((s.setCtxA (if s.ctxA.holds seq then { s.ctxA with cancelled := true } else s.ctxA)).setCtxB
    (if s.ctxB.holds seq then { s.ctxB with cancelled := true } else s.ctxB)).setSeq
    { s.seq with queue := s.seq.queue.map fun e => if e.seq = seq then { e with cancelled := true } else e }

/-- Every label held takes the mark Cancelled (R16). -/
def markAllCancelled (s : State) : State :=
  ((s.setCtxA (if s.ctxA.isFree then s.ctxA else { s.ctxA with cancelled := true })).setCtxB
    (if s.ctxB.isFree then s.ctxB else { s.ctxB with cancelled := true })).setSeq
    { s.seq with queue := s.seq.queue.map fun e => { e with cancelled := true } }

/-! ## Completion of a label (R34 to R37) -/

/-- The outcome of a label at completion (R35). -/
def Context.outcome (c : Context) : LabelOutcome :=
  if c.cancelled then .cancelled
  else if c.voided.isSome then
    match c.kind with
    | .placeholder => .missed
    | .job => .voided
  else if c.truncated then .truncated
  else if c.light then .light
  else .printed

/-- The label record of a completed label (R36). -/
def Context.record (c : Context) : LabelRecord :=
  { seq := c.seq, outcome := c.outcome,
    reason := if c.outcome = .voided ∨ c.outcome = .missed then c.voided else none,
    completed := c.completed, trimmed := c.trimmed, miss := c.miss, light := c.light,
    fieldClipped := c.fieldClipped, substituted := c.substituted, truncated := c.truncated }

/-- The position leaves the label of context `i` if it is on it (R61, R65). -/
def leaveIfOn (s : State) (i : CtxId) : State :=
  match s.raster.position with
  | some p => if p.ctx = i then leaveLabel s i else s
  | none => s

/-- The label of context `i` completes: its record is handed to the report unit, and the context becomes
Free (R34). -/
def completeLabel (s : State) (i : CtxId) : State :=
  leaveIfOn (pushRecord (s.setCtx i Context.free) (.label (s.ctx i).record)) i

/-! ## The end of a row (R32, R59, R126 to R128) -/

/-- The counts of a context at a row's end with its findings (R32). -/
def Context.rowEnded (c : Context) (trimmed miss : Bool) : Context :=
  { c with completed := c.completed + 1, trimmed := if trimmed then c.trimmed + 1 else c.trimmed,
           light := c.light || trimmed, miss := if miss then c.miss + 1 else c.miss }

/-- The end of this row is the end of the label: the label is in Ending, or it is a blank label of unknown
height that has taken row 4799 (R31, R34). -/
def Context.endsNow (c : Context) : Bool :=
  decide (c.state = .ending) || (c.isRunning && c.h.isNone && decide (Config.lastRow < c.taken))

def completeIfEnding (s : State) (i : CtxId) : State :=
  if (s.ctx i).endsNow then completeLabel s i else s

/-- A taken row of the label of this seq ends, with the firing unit's findings (R32). -/
def endRow (s : State) (seq : Nat) (trimmed miss short : Bool) : State :=
  match s.runningLabelCtx seq with
  | none => s
  | some i =>
    let s := s.setCtx i ((s.ctx i).rowEnded trimmed miss)
    let s := if short then ownVoid s seq .firedShort else s
    completeIfEnding s i

/-- The row in flight ends: its slot becomes History with the fired map, the plan is discarded, and the
end is reported (R126, R127). -/
def endFlight (s : State) (p : Plan) (trimmed short : Bool) : State :=
  let ring := match s.ring.firing with
    | some slot => { s.ring with firing := none }.pushHistory (slot.toHistory p.fired)
    | none => s.ring
  endRow (((s.setRing ring).setPlan none).setHead HeadLines.idle) p.seq trimmed p.miss short

/-- A mark on the label of the row in flight, or Hot, reaches the firing unit: a pulse in progress runs
out, and otherwise the row ends now (R128). -/
def stopRow (s : State) : State :=
  match s.plan with
  | none => s
  | some p =>
    if p.step.stage = .strobe then s.setPlan (some { p with stopping := true })
    else endFlight s p (decide (1 ≤ p.trim)) false

/-- The row in flight belongs to the label of this seq: it is stopped (R128). -/
def stopRowOf (s : State) (seq : Nat) : State :=
  match s.plan with
  | some p => if p.seq = seq then stopRow s else s
  | none => s

/-- A load in progress of the label of this seq is stopped (R24, R53). -/
def stopLoadOf (s : State) (seq : Nat) : State :=
  match s.loader with
  | some l => if (s.ctx l.ctx).seq = seq then stopLoad s l.ctx else s
  | none => s

/-- The effects of a mark that the label of this seq has just taken (R17, R24, R128). -/
def afterMark (s : State) (seq : Nat) : State := stopRowOf (stopLoadOf s seq) seq

/-! ## Arming (R21) -/

/-- The context record of a queue entry, as arming takes it (R21). -/
def JobEntry.toContext (e : JobEntry) : Context :=
  { Context.free with state := .loading, seq := e.seq, kind := e.kind, form := e.form,
                      darkness := e.darkness, fields := e.fields, voided := e.voided,
                      cancelled := e.cancelled }

/-- The entry's label is loaded: a Job that carries no mark (R21). -/
def JobEntry.loads (e : JobEntry) : Bool :=
  decide (e.kind = .job) && e.voided.isNone && !e.cancelled

/-- The head of the job queue is held by a next context (R21). -/
def State.headHeld (s : State) (e : JobEntry) : Bool :=
  (s.ctxA.isNext && decide (s.ctxA.seq = e.seq)) || (s.ctxB.isNext && decide (s.ctxB.seq = e.seq))

/-- Arming begins when a record is Free and the queue holds a head that no context holds (R21; record A
first, log 9). -/
def arm (s : State) : State :=
  match s.seq.queue, s.findCtx Context.isFree with
  | e :: _, some i =>
    if s.station = .active ∧ s.headHeld e = false then
      (s.setCtx i e.toContext).setLoader (if e.loads then some (Load.start i (e.form.getD 0)) else s.loader)
    else s
  | _, _ => s

/-- What an event may set going: arming, then the idle rasterizer (R21, R60). -/
def settle (s : State) : State := advanceRaster (arm s)

/-! ## Taking a JOB (R3 to R9) -/

/-- A field of a JOB read into the field list (R4). -/
def putField (fs : List Field) (f : Field) : List Field :=
  if 1 ≤ f.number ∧ f.number ≤ 16 then
    if fs.any fun x => x.number = f.number then fs.map fun x => if x.number = f.number then f else x
    else fs ++ [f]
  else fs

def resolveFields (entries : List Field) : List Field := entries.foldl putField []

/-- The refusal record of a JOB (R9). -/
def refusalRecord (seq : Nat) (reason : Reason) : LabelRecord :=
  { seq := seq, outcome := .refused, reason := some reason, completed := 0, trimmed := 0, miss := 0,
    light := false, fieldClipped := false, substituted := false, truncated := false }

/-- The Job entry of a resolved JOB, without marks (R4). -/
def jobEntry (seq form darkness : Nat) (entries : List Field) : JobEntry :=
  { seq := seq, kind := .job, form := some form, darkness := some darkness, fields := resolveFields entries,
    voided := none, cancelled := false }

/-- A Job entry joins the tail of the queue, voided by the pre-void seq if that is its own (R5, R14). -/
def SeqUnit.append (q : SeqUnit) (e : JobEntry) : SeqUnit :=
  if q.preVoid = e.seq then
    { q with queue := q.queue ++ [{ e with voided := some .peerVoid }], preVoid := 0 }
  else { q with queue := q.queue ++ [e] }

/-- The entry of a placeholder (R2, R8). -/
def placeholderEntry (seq : Nat) (reason : Reason) : JobEntry :=
  { seq := seq, kind := .placeholder, form := none, darkness := none, fields := [], voided := some reason,
    cancelled := false }

/-- A placeholder for a missing seq (R8): by the pre-void seq, or Missed with its VOID sent. -/
def addPlaceholder (s : State) (seq : Nat) : State :=
  if s.seq.preVoid = seq then
    s.setSeq { s.seq with queue := s.seq.queue ++ [placeholderEntry seq .peerVoid], preVoid := 0 }
  else
    pushVoid (s.setSeq { s.seq with queue := s.seq.queue ++ [placeholderEntry seq .missed] })
      { seq := seq, reason := .missed }

/-- Placeholders for `n` seqs from `seq` on, while the queue has room (R8). -/
def addPlaceholders : Nat → Nat → State → State
  | 0, _, s => s
  | n + 1, seq, s =>
    if s.seq.queue.length < Config.queueDepth then addPlaceholders n (nextSeq seq) (addPlaceholder s seq)
    else s

/-- The JOB is appended, or refused with Queue full (R6, R8). -/
def appendOrRefuse (s : State) (e : JobEntry) : State :=
  if s.seq.queue.length < Config.queueDepth then s.setSeq (s.seq.append e)
  else pushRecord s (.label (refusalRecord e.seq .queueFull))

/-- Equation (1-1). -/
def SeqUnit.expected (q : SeqUnit) : Nat :=
  match q.queue.getLast? with
  | some e => nextSeq e.seq
  | none => nextSeq q.lc

/-- A resolved JOB classified (R5 to R8), and the arming it sets going. The queue takes at most 4
placeholders. -/
def classifyJob (s : State) (e : JobEntry) : State :=
  if s.seq.unsynchronised then settle (s.setSeq (s.seq.append e))
  else
    let k := seqDistance e.seq s.seq.expected
    if k = 0 then settle (appendOrRefuse s e)
    else if k ≤ 32767 then
      settle (appendOrRefuse (addPlaceholders (min k Config.queueDepth) s.seq.expected s) e)
    else countStale s

/-- A JOB taken by the sequence unit (R3, R4). -/
def takeJob (s : State) (seq form darkness : Nat) (entries : List Field) : State :=
  match s.station with
  | .starting | .outside => s
  | .unset => pushRecord s (.label (refusalRecord seq .notSetUp))
  | .active =>
    if seq = 0 then countStale s else classifyJob s (jobEntry seq form darkness entries)

/-! ## CANCEL and VOID (R13 to R16) -/

/-- CANCEL of one seq (R15). -/
def takeCancel (s : State) (seq : Nat) : State :=
  if s.station = .active ∧ s.labelHeld seq = true then settle (afterMark (markCancelled s seq) seq) else s

/-- CANCEL of every label held (R16). -/
def takeCancelAll (s : State) : State :=
  if s.station = .active then
    let s := markAllCancelled s
    let s := match s.loader with
      | some l => stopLoad s l.ctx
      | none => s
    settle (stopRow s)
  else s

/-- A received VOID (R13, R14). -/
def takeVoid (s : State) (seq : Nat) : State :=
  if s.station = .active then
    if s.labelHeld seq then settle (afterMark (markVoided s seq .peerVoid) seq)
    else if s.seq.queue = [] ∧ s.seq.lc ≠ 0 ∧ seq = nextSeq s.seq.lc then
      s.setSeq { s.seq with preVoid := seq }
    else s
  else s

/-! ## Top of form (R10, R26 to R29, R65) -/

/-- The running label is ended (R26). -/
def endRunning (s : State) : State :=
  match s.runningCtx with
  | none => s
  | some i =>
    let c := s.ctx i
    let s := s.setRing (s.ring.freeLabel c.seq)
    match c.h with
    | none => completeLabel s i
    | some _ =>
      if (s.plan.map fun p => p.seq) = some c.seq then
        leaveIfOn (s.setCtx i { c with truncated := true, state := .ending }) i
      else completeLabel (s.setCtx i { c with truncated := true }) i

/-- The sequence unit after the TOF that consumes `seq` (R10). -/
def SeqUnit.consume (q : SeqUnit) (seq : Nat) : SeqUnit :=
  { lc := seq, queue := q.queue.tail,
    preVoid := if q.preVoid ≠ 0 ∧ atOrBehind q.preVoid seq = true then 0 else q.preVoid }

/-- The render position moves to the label that a TOF has started, if it is not on it (R65). -/
def moveToStarted (s : State) (i : CtxId) : State :=
  if (s.raster.position.map fun p => p.ctx) = some i then s
  else
    movePosition (setPosition s (some { ctx := i, row := (s.ctx i).rendered })) i (s.ctx i).rendered

/-- An Armed context starts (R27). -/
def startArmed (s : State) (i : CtxId) : State :=
  let s := s.setCtx i { s.ctx i with state := .running }
  if s.thermal.hot then ownVoid s (s.ctx i).seq .hot else s

/-- The reads of a render are done: its hold stands with no read waiting, or it reads nothing (R73). -/
def State.renderRead (s : State) (r : Render) : Bool :=
  !r.reads || (s.store.holdRaster && !s.store.waitRaster)

/-- The table of context `i` is discarded while one of its rows is being rendered (R64): that render reads
nothing more, and what it has not read by now covers no dot. A read of it that waits is not served. -/
def cutReads (s : State) (i : CtxId) : State :=
  match s.raster.rendering with
  | some r =>
    if r.ctx = i ∧ r.seq = (s.ctx i).seq ∧ s.renderRead r = false then
      (s.setRaster { s.raster with rendering := some { r with reads := false, cut := true } }).setStore
        { s.store with waitRaster := false }
    else s
  | none => s

/-- A context in Loading starts blank, without what its load left in it (R28, R53). -/
def startLoading (s : State) (i : CtxId) : State :=
  let s := cutReads (stopLoad s i) i
  ownVoid (s.setCtx i { s.ctx i with state := .running, h := none, table := [], fieldClipped := false,
                                     substituted := false }) (s.ctx i).seq .notArmed

/-- A queue head that no context held starts blank in the Free record (R28). -/
def startUnheld (s : State) (i : CtxId) (e : JobEntry) : State :=
  ownVoid (s.setCtx i { e.toContext with state := .running, fields := [] }) e.seq .notArmed

/-- A blank label starts for an empty queue (R29): voided by the pre-void seq, or No job. -/
def startEmpty (s : State) (i : CtxId) (seq : Nat) (preVoided : Bool) : State :=
  let c := (placeholderEntry seq .peerVoid).toContext
  if preVoided then s.setCtx i { c with state := .running }
  else ownVoid (s.setCtx i { c with state := .running, voided := none }) seq .noJob

/-- The label of the consumed seq starts (R27 to R29), and the position moves to it (R65). -/
def startLabel (s : State) : State :=
  match s.seq.queue with
  | e :: _ =>
    let held := s.findCtx fun c => c.isNext && decide (c.seq = e.seq)
    let s := s.setSeq (s.seq.consume e.seq)
    match held with
    | some i =>
      if (s.ctx i).state = .armed then moveToStarted (startArmed s i) i
      else moveToStarted (startLoading s i) i
    | none =>
      match s.findCtx Context.isFree with
      | some i => moveToStarted (startUnheld s i e) i
      | none => s
  | [] =>
    let seq := nextSeq s.seq.lc
    let preVoided := decide (s.seq.preVoid = seq)
    let s := s.setSeq (s.seq.consume seq)
    match s.findCtx Context.isFree with
    | some i => moveToStarted (startEmpty s i seq preVoided) i
    | none => s

/-- The strobe planner's and the link's part of a TOF or of a row pulse: the purges (R104, R111). -/
def purgeStale (s : State) : State := removeStaleDemands (purgePeers s)

/-- A TOF (R10, R26 to R29). -/
def takeTof (s : State) : State :=
  if s.station = .active then
    if s.seq.unsynchronised then purgeStale (setCond s .unexpectedTof true)
    else driveRdy (advanceRaster (purgeStale (arm (startLabel (endRunning s)))))
  else s

/-- TOP_OF_FORM (R26). -/
def execTopOfForm (s : State) : Host.Outcome State Fault Refusal := .next (takeTof s)

/-! ## The commands of the command queue and the arrivals that the sequence unit takes -/

/-- The frame at the head of the command queue, which its block may take after STARTING (R149, R168). -/
def State.commandHead (s : State) : Option CommandFrame :=
  if s.station = .starting then none else s.link.commandQueue.head?

/-- The command queue without its head (R149). -/
def popCommand (s : State) : State :=
  s.setLink { s.link with commandQueue := s.link.commandQueue.tail }

/-- JOB (R5): the sequence unit takes the JOB at the head of the command queue. -/
def execJob (s : State) : Host.Outcome State Fault Refusal :=
  match s.commandHead with
  | some (.job seq form darkness entries) => .next (takeJob (popCommand s) seq form darkness entries)
  | _ => .next s

/-- CANCEL (R15): the sequence unit takes the CANCEL at the head, with a seq that is not 0. -/
def execCancel (s : State) : Host.Outcome State Fault Refusal :=
  match s.commandHead with
  | some (.cancel seq) => .next (if seq = 0 then s else takeCancel (popCommand s) seq)
  | _ => .next s

/-- CANCEL_ALL (R16): the sequence unit takes the CANCEL at the head, with seq 0. -/
def execCancelAll (s : State) : Host.Outcome State Fault Refusal :=
  match s.commandHead with
  | some (.cancel seq) => .next (if seq = 0 then takeCancelAll (popCommand s) else s)
  | _ => .next s

/-! ## The ends of a load and of a render (R22, R23, R51, R63) -/

/-- What a load leaves in its context (R22). -/
def Context.loaded (c : Context) (h : Nat) (l : Load) : Context :=
  { c with h := some h, table := l.table, fieldClipped := l.fieldClipped, substituted := l.substituted }

/-- The load can end: no lookup or read of it waits, and none is still to be asked for (R51, R52). -/
def State.loadEnds (s : State) (l : Load) : Bool :=
  match l.status with
  | .lookup _ | .read _ => false
  | .failed _ | .done => !s.store.waitLoader && !l.lookupWaits

/-- The H of the form that a load has read (R39). -/
def State.loadHeight (s : State) (l : Load) : Nat :=
  match formOf (s.loadForm l) l.found with
  | .ok body => body.height
  | .error _ => 0

/-- The end of a load, with its result (R22, R51). -/
def endLoad (s : State) (l : Load) : State :=
  let h := s.loadHeight l
  let s := (s.setLoader none).setStore s.store.releaseLoader
  match l.status with
  | .done => s.setCtx l.ctx ((s.ctx l.ctx).loaded h l)
  | .failed reason => ownVoid s (s.ctx l.ctx).seq reason
  | .lookup _ | .read _ => s

/-- LOAD_COMPLETE (R51). -/
def execLoadComplete (s : State) : Host.Outcome State Fault Refusal :=
  match s.loader with
  | none => .next s
  | some l => if s.loadEnds l then .next (advanceRaster (endLoad s l)) else .next s

/-- The completed render's row is kept (R62 to R64). -/
def State.keepsRender (s : State) (r : Render) : Bool :=
  let c := s.ctx r.ctx
  decide (c.seq = r.seq) && (c.isNext || (c.isRunning && decide (c.taken ≤ r.row)))

/-- The image of the completed render (R63, R66): drawn from the active list with what its reads brought, or
blank. The rasterizer's hold stands from its read to here, so the memory is as the read found it (R73). A render
whose reads were cut off has read no object (R64). -/
def State.renderImage (s : State) (r : Render) : Dots :=
  if r.drawn then
    drawRow s.store.memory (if r.cut then [] else s.store.catalog) s.number r.row s.raster.active
  else 0

/-- The Rendering slot becomes Rendered, with its image and its demand (R63). -/
def Ring.keepRender (g : Ring) (image : Dots) : Ring :=
  { g with lead := g.lead.map fun x =>
      if x.state = .rendering then { x with state := .rendered, image := image, demand := Dots.count image }
      else x }

/-- The Rendering slot becomes Free (R62). -/
def Ring.dropRender (g : Ring) : Ring :=
  { g with lead := g.lead.filter fun x => !decide (x.state = .rendering) }

/-- Equation (2-1). -/
def Context.armingCount (c : Context) : Nat :=
  match c.h with
  | some h => min 5 h
  | none => 5

/-- The context becomes Armed at its arming count, its load ended (R23). -/
def armIfReady (s : State) (i : CtxId) : State :=
  let c := s.ctx i
  if c.state = .loading ∧ s.loadingCtx i = false ∧ c.armingCount ≤ c.rendered then
    s.setCtx i { c with state := .armed }
  else s

/-- The completed row is kept: the rasterizer's three acts of R63 and the arming of R23. -/
def keepRender (s : State) (r : Render) : State :=
  let c := s.ctx r.ctx
  let image := s.renderImage r
  let s' := s.setRing (s.ring.keepRender image)
  let s' := s'.setCtx r.ctx { c with rendered := c.rendered + 1 }
  let s' := handDemand s'
    { seq := r.seq, row := r.row, demand := if c.marked then 0 else Dots.count image }
  let s' := if s'.raster.position = some { ctx := r.ctx, row := r.row } then
    movePosition s' r.ctx (r.row + 1) else s'
  armIfReady s' r.ctx

/-- The end of a render (R62 to R64): the row is kept or dropped, and the rasterizer's hold ends. -/
def endRender (s : State) (r : Render) : State :=
  let s := s.setRaster { s.raster with rendering := none }
  let s := if s.keepsRender r then keepRender s r else s.setRing s.ring.dropRender
  s.setStore s.store.releaseRaster

/-- RENDER_COMPLETE (R63). -/
def execRenderComplete (s : State) : Host.Outcome State Fault Refusal :=
  match s.raster.rendering with
  | none => .next s
  | some r => if s.renderRead r then .next (advanceRaster (driveRdy (endRender s r))) else .next s

end Sys2Proof.Machine
end

