-- ==== Sys2Proof/Machine/Firing.lean ====
section
/-! DEFINITION. The row timer and the firing unit (08_firing_row_timing_and_head_temperature.md sections 8.1
to 8.5), with the phases of the strobe planner (R115): a row pulse, the plan and its trim, the steps on the
head lines, and a row's end. -/

namespace Sys2Proof.Machine

/-! ## The row timer (R118) -/

/-- The elapsed count after `dt` more pulse units; it saturates, and it is stopped until an edge is seen. -/
def RowTimer.advance (t : RowTimer) (dt : Nat) : RowTimer :=
  if t.seen then { t with elapsed := min 65535 (t.elapsed + dt) } else t

/-- A rising edge of RWP. T_pred is at least 1. -/
def RowTimer.edge (t : RowTimer) : RowTimer :=
  if t.seen then { t with tPred := max 1 t.elapsed, elapsed := 0 } else { t with elapsed := 0, seen := true }

/-! ## Phases (R115) -/

/-- The firing dots of phase `j` (numbered from 0): the columns `j * a .. j * a + a - 1` of the ascending
list. -/
def phaseColumns (columns : List Nat) (a j : Nat) : List Nat := (columns.drop (j * a)).take a

/-- The boosts a phase includes, with their data: those present that a dot of the phase calls for. -/
def phaseBoosts (classOf : Nat → Nat) (present : List (Boost × Nat)) (columns : List Nat) :
    List BoostData :=
  present.filterMap fun b =>
    let data := columns.filter fun c => decide (b.1.minClass ≤ classOf c)
    if data = [] then none else some { boost := b.1, width := b.2, data := Dots.ofColumns data }

/-- The phase of the given dots. -/
def phaseOf (classOf : Nat → Nat) (present : List (Boost × Nat)) (columns : List Nat) : Phase :=
  { main := Dots.ofColumns columns, boosts := phaseBoosts classOf present columns }

/-- The phase list of a row from its energy set: `n` phases of at most `a` dots each. -/
def phaseList (image : Dots) (e : EnergySet) (a n : Nat) : List Phase :=
  (List.range n).map fun j => phaseOf e.classMap e.boosts (phaseColumns (Dots.columns image) a j)

/-! ## Plan time and trim (R122 to R124) -/

/-- Equation (8-1). -/
def Phase.time (w0 : Nat) (p : Phase) : Nat := 105 + w0 + (p.boosts.map fun b => 105 + b.width).sum

/-- Equation (8-2). -/
def planTime (w0 : Nat) (ps : List Phase) : Nat := (ps.map (Phase.time w0)).sum

/-- The boost is removed at this trim level: C at 1, B at 2, A at 3 (R123). -/
def Boost.removedAt (level : Nat) : Boost → Bool
  | .c => decide (1 ≤ level)
  | .b => decide (2 ≤ level)
  | .a => decide (3 ≤ level)

/-- A phase at a trim level. -/
def Phase.trimTo (level : Nat) (p : Phase) : Phase :=
  { p with boosts := p.boosts.filter fun b => !b.boost.removedAt level }

/-- A phase list at a trim level. -/
def trimTo (level : Nat) (ps : List Phase) : List Phase := ps.map (Phase.trimTo level)

/-- Equation (8-3). -/
def availableTime (tPred : Nat) : Nat := tPred - 20

/-- The trim level of a row (R123). -/
def trimLevel (w0 tAv : Nat) (ps : List Phase) : Nat :=
  if planTime w0 ps ≤ tAv then 0
  else if planTime w0 (trimTo 1 ps) ≤ tAv then 1
  else if planTime w0 (trimTo 2 ps) ≤ tAv then 2
  else 3

/-! ## The plan of a row (R88, R99, R110 to R116) -/

/-- The main width of a row of the label in context `c` (R94 to R97). -/
def State.widthFor (s : State) (c : Context) : Nat := mainWidth s.setup.bm (c.darkness.getD 0) s.thermal.t

/-- The allowance of a row of demand `d` (R110 to R113). -/
def State.allowanceFor (s : State) (seq row d : Nat) : Nat :=
  allowance s.setup.p s.setup.n d (s.peers.map fun t => t.view seq row)

/-- The energy set of a slot's row at this pulse (R88, R99). -/
def State.energyFor (s : State) (w0 : Nat) (x : Slot) : EnergySet :=
  energySet x.image s.ring.firstHistory s.ring.secondHistory s.setup w0

/-- The phase list of a slot, before the trim (R115, R116). -/
def State.phasesFor (s : State) (w0 : Nat) (x : Slot) (seq row : Nat) : List Phase :=
  let a := s.allowanceFor seq row x.demand
  phaseList x.image (s.energyFor w0 x) a (phaseCount x.demand a)

/-- The first step of a plan: the load of the first phase's main data. -/
def FiringStep.first : FiringStep := { phase := 0, boost := none, stage := .load }

/-- The plan of a row of context `c`, trimmed (R116, R123). -/
def State.planFor (s : State) (c : Context) (x : Slot) (row : Nat) : Plan :=
  let w0 := s.widthFor c
  let ps := s.phasesFor w0 x c.seq row
  let level := trimLevel w0 (availableTime s.timer.tPred) ps
  { seq := c.seq, row := row, phases := trimTo level ps, w0 := w0, trim := level,
    miss := s.rowMiss c.seq row, step := FiringStep.first, fired := 0, stopping := false }

/-! ## The head lines (R125) -/

/-- The data set of a step: a phase's main data or one of its boost data sets. -/
def Plan.dataOf (p : Plan) (st : FiringStep) : Dots :=
  match p.phases[st.phase]?, st.boost with
  | some ph, none => ph.main
  | some ph, some k =>
    match ph.boosts[k]? with
    | some b => b.data
    | none => 0
  | none, _ => 0

/-- HD0..HD3 in cycle `k` of HCK: the local columns `4k .. 4k + 3`. -/
def hdNibble (data : Dots) (k : Nat) : BitVec 4 := data.extractLsb' (4 * k) 4

/-- The lines during the step in progress. -/
def Plan.lines (p : Plan) : HeadLines :=
  match p.step.stage with
  | .load => { shifting := some (p.dataOf p.step), hlt := false, hsb := false }
  | .latch => { shifting := none, hlt := true, hsb := false }
  | .strobe => { shifting := none, hlt := false, hsb := true }

/-- The dots driven: those of the set last latched, while HSB is asserted (R125). -/
def State.drivenDots (s : State) : Dots :=
  match s.plan with
  | some p => if s.head.hsb then p.dataOf p.step else 0
  | none => 0

/-- A plan in flight with its lines. -/
def drivePlan (s : State) (p : Plan) : State := (s.setPlan (some p)).setHead p.lines

/-! ## The steps of a plan (R125, R126) -/

/-- The pulse after the one of a step, if the plan has another: the phase's next boost, or the next phase's
main pulse. -/
def Plan.nextPulse (p : Plan) (st : FiringStep) : Option FiringStep :=
  let k := match st.boost with
    | none => 0
    | some k => k + 1
  match p.phases[st.phase]? with
  | none => none
  | some ph =>
    if k < ph.boosts.length then some { phase := st.phase, boost := some k, stage := .load }
    else if st.phase + 1 < p.phases.length then
      some { phase := st.phase + 1, boost := none, stage := .load }
    else none

/-- A pulse has run its width: the next step begins, or the row ends (R126, R128). -/
def afterPulse (s : State) (p : Plan) : State :=
  match p.stopping, p.nextPulse p.step with
  | false, some st => drivePlan s { p with step := st }
  | _, _ => settle (endFlight s p (decide (1 ≤ p.trim)) false)

/-- DATA_LOAD_COMPLETE (R125). -/
def execDataLoadComplete (s : State) : Host.Outcome State Fault Refusal :=
  match s.plan with
  | some p =>
    if p.step.stage = .load then .next (drivePlan s { p with step := { p.step with stage := .latch } })
    else .next s
  | none => .next s

/-- LATCH_COMPLETE (R125). -/
def execLatchComplete (s : State) : Host.Outcome State Fault Refusal :=
  match s.plan with
  | some p =>
    if p.step.stage = .latch then .next (drivePlan s { p with step := { p.step with stage := .strobe } })
    else .next s
  | none => .next s

/-- MAIN_PULSE_COMPLETE (R126): the phase's dots enter the fired map. -/
def execMainPulseComplete (s : State) : Host.Outcome State Fault Refusal :=
  match s.plan with
  | some p =>
    if p.step.stage = .strobe ∧ p.step.boost = none then
      .next (afterPulse s { p with fired := p.fired ||| p.dataOf p.step })
    else .next s
  | none => .next s

/-- BOOST_PULSE_COMPLETE (R126). -/
def execBoostPulseComplete (s : State) : Host.Outcome State Fault Refusal :=
  match s.plan with
  | some p =>
    if p.step.stage = .strobe ∧ p.step.boost.isSome = true then .next (afterPulse s p) else .next s
  | none => .next s

/-! ## The cut (R127) -/

/-- A main pulse is lost to a cut at this step: the phase's own, or a later phase's. -/
def Plan.losesMain (p : Plan) : Bool := p.step.boost.isNone || decide (p.step.phase + 1 < p.phases.length)

/-- The plan's label carries a mark, or Hot has reached the row. -/
def State.flightMarked (s : State) (p : Plan) : Bool :=
  p.stopping
  || (match s.runningLabelCtx p.seq with
      | some i => (s.ctx i).marked
      | none => false)

/-- The trimmed finding of a cut. -/
def State.cutTrimmed (s : State) (p : Plan) : Bool :=
  decide (1 ≤ p.trim) || (!s.flightMarked p && !p.losesMain)

/-- The short finding of a cut. -/
def State.cutShort (s : State) (p : Plan) : Bool := !s.flightMarked p && p.losesMain

/-- The SLW hold count reloaded to 32 (R133). -/
def reloadHold (s : State) : State := s.setThermal { s.thermal with hold := 32 }

/-- A row pulse cuts the row in flight. -/
def cutFlight (s : State) : State :=
  match s.plan with
  | none => s
  | some p =>
    let s' := endFlight s p (s.cutTrimmed p) (s.cutShort p)
    if s.cutTrimmed p || s.cutShort p then reloadHold s' else s'

/-! ## The row a pulse takes (R30, R31, R120, R121) -/

/-- The rows a running label may take: H, or 4800 when H is absent (R30). -/
def Context.rowLimit (c : Context) : Nat := c.h.getD 4800

/-- The context after taking a row: in Ending when it was the last row of a known H (R30, R34). -/
def Context.takeRow (c : Context) : Context :=
  { c with taken := c.taken + 1,
           state := if c.h = some (c.taken + 1) then .ending else c.state }

/-- A pulse without a Rendered slot is recorded (R59). -/
def recordGap (s : State) : State := s.setRing (s.ring.pushHistory gapRecord)

/-- A Rendered row with an empty plan: its slot becomes History at the pulse (R120). -/
def recordEmpty (s : State) (x : Slot) (seq row : Nat) : State :=
  s.setRing ((s.ring.dropRow seq row).pushHistory (x.toHistory 0))

/-- The slot becomes Firing and the first step of its plan begins (R120); a trimmed plan reloads the hold
count (R124). -/
def beginFiring (s : State) (x : Slot) (p : Plan) : State :=
  let s := s.setRing { s.ring.dropRow p.seq p.row with firing := some { x with state := .firing } }
  let s := drivePlan s p
  if 1 ≤ p.trim then reloadHold s else s

/-- The row has an empty plan: its label carries a mark, or the head is Hot, or its demand is 0 (R120). -/
def State.plansNothing (s : State) (c : Context) (x : Slot) : Bool :=
  c.marked || s.thermal.hot || decide (x.demand = 0)

/-- The firing unit's action on a row of the running label with its Rendered slot (R120). -/
def fireRow (s : State) (c : Context) (x : Slot) (row : Nat) : State :=
  let p := s.planFor c x row
  if s.plansNothing c x = true ∨ p.phases = [] then
    endRow (recordEmpty s x c.seq row) c.seq false false false
  else beginFiring s x p

/-- A late row (R121). -/
def lateRow (s : State) (seq : Nat) : State :=
  endRow (ownVoid (recordGap s) seq .lateRow) seq false false false

/-- The row of the running label in context `i` at this pulse: taken, then acted on by the firing unit. -/
def takeRow (s : State) (i : CtxId) : State :=
  let c := s.ctx i
  let s := s.setCtx i c.takeRow
  if c.h = none ∧ 5 ≤ c.taken then endRow (recordGap s) c.seq false false false
  else
    match s.ring.findRow c.seq c.taken with
    | none => lateRow s c.seq
    | some x => fireRow s c x c.taken

/-- What the label controller hands at the pulse: a row of the running label, or no row (R30). -/
def handRow (s : State) : State :=
  match s.runningCtx with
  | some i => if (s.ctx i).taken < (s.ctx i).rowLimit then takeRow s i else recordGap s
  | none => recordGap s

/-- The hold count at a row pulse (R133). -/
def decreaseHold (s : State) : State := s.setThermal { s.thermal with hold := s.thermal.hold - 1 }

/-- A row pulse taken in ACTIVE (R120). -/
def pulseActive (s : State) : State :=
  driveSlw (settle (purgeStale (handRow (cutFlight (decreaseHold s)))))

/-! ## Time (R118, R136, log 1) -/

/-- The quiet count `bits` bit times on: held at 24; on a line not known to be quiet or held it stays below 16
until LINE_QUIET says that it is quiet (log 3). -/
def Link.quietAfter (l : Link) (bits : Nat) : Nat :=
  if l.quiet < 16 ∧ l.held = false then min 15 (l.quiet + bits) else min 24 (l.quiet + bits)

/-- `dt` pulse units pass, of two bit times each: the row timer's count goes on, and the quiet count too, unless
the station drives the line or a frame is being received. -/
def passTime (dt : Nat) (s : State) : State :=
  let s := s.setTimer (s.timer.advance dt)
  if s.link.tx.state.drives || decide (s.link.receiver = .receiving) then s
  else s.setLink { s.link with quiet := s.link.quietAfter (2 * dt) }

/-- ROW_PULSE (R30): `dt` pulse units after the row timer's count last advanced. -/
def execRowPulse (dt : Nat) (s : State) : Host.Outcome State Fault Refusal :=
  let s := passTime dt s
  let s := s.setTimer s.timer.edge
  if s.station = .active then .next (pulseActive s) else .next s

end Sys2Proof.Machine
end

