-- ==== Sys2Proof/Machine/StoreUnit.lean ====
section
/-! DEFINITION. The form store controller (10_the_form_store.md sections 10.3 and 10.4): the taking of the
four store commands, the completion and the failure of operations, and the reads with their automatic
suspend. -/

namespace Sys2Proof.Machine

/-! ## Records and the write context (R156, R157) -/

/-- A store record handed to the report unit (R156). -/
def storeRecord (s : State) (cmd : StoreCmd) (number : Nat) (result : StoreResult) (generation received : Nat) :
    State :=
  pushRecord s (.store { cmd := cmd, number := number, result := result, generation := generation,
                         received := received })

/-- The open write is abandoned: the context closes and its sectors become Dirty (R157). -/
def Store.abandon (st : Store) (w : WriteCtx) : Store :=
  { st with write := none, sectors := setSectors st.sectors w.first w.count .dirty }

def abandonWrite (s : State) (w : WriteCtx) : State := s.setStore (s.store.abandon w)

/-- The bytes of a header as its line program writes it, with the mark Writing; the check field and the
rest of the line are left erased (R152, 12.5). -/
def headerBytesOf (w : WriteCtx) : List Byte :=
  byteOf w.number :: byteOf w.kind.code :: be32 w.length ++ be16 w.generation ++ [255, 255, markWriting]

/-- The line programs of bytes at an address: one, or two when they cross a line boundary (R159). -/
def lineOps (a : Nat) (bs : List Byte) : List StoreOp :=
  let room := Config.lineBytes - a % Config.lineBytes
  if bs.length ≤ room then [.line a bs] else [.line a (bs.take room), .line (a + room) (bs.drop room)]

/-- The mark program that writes a check field and the mark Valid (R160). -/
def validMarkOp (first : Nat) (check : Check) : StoreOp :=
  .mark (sectorAddress first + 8) (be16 check.toNat ++ [markValid])

/-- The mark program that advances an object's mark to Deleted (R152). -/
def deletedMarkOp (first : Nat) : StoreOp := .mark (sectorAddress first + 10) [markDeleted]

/-- The controller serves a command with these operations, and begins the first if no hold stands (R156,
R163). -/
def Store.serve (st : Store) (sv : Serving) (ops : List StoreOp) : Store :=
  { st with serving := some sv, due := ops }.beginDue

/-! ## The taking of the commands (R158 to R161) -/

/-- The abandonment that a STORE-BEGIN makes first, with its record (R158). -/
def abandonForBegin (s : State) : State :=
  match s.store.write with
  | some w => storeRecord (abandonWrite s w) .begin w.number .abandoned w.generation w.received
  | none => s

/-- The write that a STORE-BEGIN opens at its completion (R158). -/
def Store.newWrite (st : Store) (number : Nat) (kind : ObjKind) (len first : Nat) : WriteCtx :=
  { number := number, kind := kind, length := len,
    generation := match catFind st.catalog number with
      | some e => nextSeq e.generation
      | none => 1
    first := first, count := sectorsFor len, received := 0, check := checkOf [] }

/-- The STORE-BEGIN's operations begin: the Dirty sectors erased in ascending order, then the header. -/
def Store.beginWrite (st : Store) (w : WriteCtx) : Store :=
  let dirty := dirtyOf st.sectors w.first w.count
  { st with sectors := setSectors st.sectors w.first w.count .used }.serve (.begin w dirty)
    (dirty.map StoreOp.erase ++ [StoreOp.line (sectorAddress w.first) (headerBytesOf w)])

/-- A STORE-BEGIN taken (R158). -/
def takeStoreBegin (s : State) (number kind len : Nat) : State :=
  let s := abandonForBegin s
  match ObjKind.ofCode kind with
  | none => storeRecord s .begin number .badRequest 0 0
  | some k =>
    if 1 ≤ number ∧ number ≤ 255 then
      if s.inUse number then storeRecord s .begin number .inUse 0 0
      else
        match findRun s.store.sectors (sectorsFor len) with
        | none => storeRecord s .begin number .noSpace 0 0
        | some first => s.setStore (s.store.beginWrite (s.store.newWrite number k len first))
    else storeRecord s .begin number .badRequest 0 0

/-- The STORE-DATA is in order (R159). -/
def WriteCtx.inOrder (w : WriteCtx) (offset count : Nat) : Bool :=
  decide (offset = w.received) && decide (offset + count ≤ w.length)

/-- A STORE-DATA taken (R159). -/
def takeStoreData (s : State) (offset : Nat) (bytes : List Byte) : State :=
  match s.store.write with
  | none => storeRecord s .data 0 .noWrite 0 0
  | some w =>
    if w.inOrder offset bytes.length then
      s.setStore (s.store.serve (.data bytes) (lineOps (bodyAddress w.first offset) bytes))
    else storeRecord (abandonWrite s w) .data w.number .orderError w.generation w.received

/-- The operations of a STORE-END: the Valid mark, then the replaced object's Deleted mark (R160). -/
def Store.endOps (st : Store) (w : WriteCtx) : List StoreOp :=
  validMarkOp w.first w.check
    :: (match catFind st.catalog w.number with
        | some old => [deletedMarkOp old.first]
        | none => [])

/-- A STORE-END taken (R160). -/
def takeStoreEnd (s : State) (check : Check) : State :=
  match s.store.write with
  | none => storeRecord s .stop 0 .noWrite 0 0
  | some w =>
    if w.received = w.length ∧ check = w.check then
      if s.inUse w.number then storeRecord s .stop w.number .inUse w.generation w.received
      else s.setStore (s.store.serve (.stop false) (s.store.endOps w))
    else storeRecord (abandonWrite s w) .stop w.number .checkMismatch w.generation w.received

/-- The open write is one of this number. -/
def Store.writeOf (st : Store) (number : Nat) : Option WriteCtx :=
  match st.write with
  | some w => if w.number = number then some w else none
  | none => none

/-- A STORE-DELETE taken (R161). -/
def takeStoreDelete (s : State) (number : Nat) : State :=
  match s.store.writeOf number with
  | some w => storeRecord s .delete number .busy w.generation 0
  | none =>
    match catFind s.store.catalog number with
    | none => storeRecord s .delete number .notFound 0 0
    | some e =>
      if s.inUse number then storeRecord s .delete number .inUse e.generation 0
      else s.setStore (s.store.serve (.delete number) [deletedMarkOp e.first])

/-- A frame of the store queue taken by the controller (R156). -/
def takeStoreFrame (s : State) : StoreFrame → State
  | .begin number kind len => takeStoreBegin s number kind len
  | .data offset bytes => takeStoreData s offset bytes
  | .stop check => takeStoreEnd s check
  | .delete number => takeStoreDelete s number

/-- The store queue without its head (R149). -/
def popStore (s : State) : State := s.setLink { s.link with storeQueue := s.link.storeQueue.tail }

/-- The controller is waiting for its next command, after the scan (R156). -/
def State.storeWaiting (s : State) : Bool :=
  decide (s.station ≠ .starting) && s.store.serving.isNone

/-- The next command is taken from the head of the store queue, if there is one (R156). -/
def takeNextStore (s : State) : State :=
  match s.link.storeQueue with
  | f :: _ => takeStoreFrame (popStore s) f
  | [] => s

/-- The head of the store queue is a frame of this command. -/
def StoreFrame.cmd : StoreFrame → StoreCmd
  | .begin _ _ _ => .begin
  | .data _ _ => .data
  | .stop _ => .stop
  | .delete _ => .delete

/-- The waiting controller takes the head of the store queue when it is this command. -/
def takeStoreHead (s : State) (cmd : StoreCmd) : State :=
  if s.storeWaiting = true ∧ (s.link.storeQueue.head?.map StoreFrame.cmd) = some cmd then takeNextStore s
  else s

/-- STORE_BEGIN (R158). -/
def execStoreBegin (s : State) : Host.Outcome State Fault Refusal := .next (takeStoreHead s .begin)

/-- STORE_DATA (R159). -/
def execStoreData (s : State) : Host.Outcome State Fault Refusal := .next (takeStoreHead s .data)

/-- STORE_END (R160). -/
def execStoreEnd (s : State) : Host.Outcome State Fault Refusal := .next (takeStoreHead s .stop)

/-- STORE_DELETE (R161). -/
def execStoreDelete (s : State) : Host.Outcome State Fault Refusal := .next (takeStoreHead s .delete)

/-! ## The end of a command (R156) -/

/-- The catalog with the entry of a completed write: the entry of its number is set to the new object
(R160). -/
def WriteCtx.entry (w : WriteCtx) : CatEntry :=
  { number := w.number, kind := w.kind, first := w.first, count := w.count, length := w.length,
    generation := w.generation }

def setEntry (cat : List CatEntry) (e : CatEntry) : List CatEntry :=
  if cat.any fun x => x.number = e.number then cat.map fun x => if x.number = e.number then e else x
  else cat ++ [e]

/-- The sectors of the catalogued object of a number become Dirty. -/
def dirtyObject (sectors : List SectorState) (cat : List CatEntry) (number : Nat) : List SectorState :=
  match catFind cat number with
  | some old => setSectors sectors old.first old.count .dirty
  | none => sectors

/-- The new object is catalogued, and the write closes (R160). -/
def Store.commit (st : Store) (w : WriteCtx) : Store :=
  { st with catalog := setEntry st.catalog w.entry, sectors := dirtyObject st.sectors st.catalog w.number,
            write := none }

/-- The object is removed from the catalog (R161). -/
def Store.remove (st : Store) (number : Nat) : Store :=
  { st with catalog := st.catalog.filter fun x => !decide (x.number = number),
            sectors := dirtyObject st.sectors st.catalog number }

/-- The generation of the catalogued object of a number, 0 when there is none. -/
def Store.generationOf (st : Store) (number : Nat) : Nat :=
  match catFind st.catalog number with
  | some e => e.generation
  | none => 0

/-- The write with the bytes of a STORE-DATA taken in (R159). -/
def WriteCtx.takeBytes (w : WriteCtx) (bytes : List Byte) : WriteCtx :=
  { w with received := w.received + bytes.length, check := checkFrom w.check bytes }

/-- The effect of the last operation's completion, and the record (R158 to R161). -/
def completeServing (s : State) (sv : Serving) : State :=
  match sv, s.store.write with
  | .begin w _, _ => storeRecord (s.setStore { s.store with write := some w }) .begin w.number .done w.generation 0
  | .data bytes, some w =>
    let w' := w.takeBytes bytes
    storeRecord (s.setStore { s.store with write := some w' }) .data w.number .done w.generation w'.received
  | .stop _, some w =>
    storeRecord (forgetFound (s.setStore (s.store.commit w)) w.number) .stop w.number .done w.generation w.received
  | .delete number, _ =>
    storeRecord (forgetFound (s.setStore (s.store.remove number)) number) .delete number .done
      (s.store.generationOf number) 0
  | .data _, none | .stop _, none => s

/-- The controller is waiting again: a lookup that waited is served, and the next command is taken (R156,
R165). Both come in this event, and the rules give no order between them: the lookup is served first, so that
the In use test of the next command sees what the load has then entered (DESIGN CHOICE, log 33). -/
def endServing (s : State) : State :=
  takeNextStore (serveWaitingLookup (s.setStore { s.store with serving := none, due := [] }))

/-! ## Completion of an operation (R163, R164) -/

/-- What the served command notes of a completed operation. -/
def Serving.note : Serving → StoreOp → Serving
  | .begin w dirty, .erase i => .begin w (dirty.filter fun x => !decide (x = i))
  | .stop _, .mark _ _ => .stop true
  | sv, _ => sv

/-- The memory after a completed operation: Idle (R164). -/
def Store.operationDone (st : Store) (op : StoreOp) : Store :=
  { st with memory := op.apply st.memory, current := none, phase := .idle,
            serving := st.serving.map fun sv : Serving => sv.note op }

/-- The command goes on with its next operation, or ends (R156). -/
def continueServing (s : State) : State :=
  match s.store.serving with
  | none => s
  | some sv =>
    if s.store.due = [] then endServing (completeServing s sv) else s.setStore s.store.beginDue

/-- The completion of the executing operation, when it is of the kind `isKind`: the waiting reads are served,
and the command goes on (R164). -/
def completeOp (s : State) (isKind : StoreOp → Bool) : Host.Outcome State Fault Refusal :=
  match s.store.current with
  | some op =>
    if s.store.executing = true ∧ isKind op = true then
      if op.endAddress ≤ Config.storeBytes then
        .next (continueServing (serveReads (s.setStore (s.store.operationDone op))))
      else .fault (.noSuchStoreAddress Config.storeBytes)
    else .next s
  | none => .next s

def StoreOp.isErase : StoreOp → Bool
  | .erase _ => true
  | .line _ _ | .mark _ _ => false

def StoreOp.isLine : StoreOp → Bool
  | .line _ _ => true
  | .erase _ | .mark _ _ => false

def StoreOp.isMark : StoreOp → Bool
  | .mark _ _ => true
  | .erase _ | .line _ _ => false

/-- SECTOR_ERASE_COMPLETE (R158). -/
def execSectorEraseComplete (s : State) : Host.Outcome State Fault Refusal := completeOp s StoreOp.isErase

/-- LINE_PROGRAM_COMPLETE (R159). -/
def execLineProgramComplete (s : State) : Host.Outcome State Fault Refusal := completeOp s StoreOp.isLine

/-- MARK_PROGRAM_COMPLETE (R160). -/
def execMarkProgramComplete (s : State) : Host.Outcome State Fault Refusal := completeOp s StoreOp.isMark

/-! ## Failure of an operation (R162) -/

/-- The memory after a failed operation: Idle; its bytes are free (log 7). -/
def Store.operationFailed (st : Store) (op : StoreOp) (k : Nat) : Store :=
  { st with memory := op.interrupt st.memory k, current := none, phase := .idle, due := [] }

/-- The sectors of a STORE-BEGIN's run after a failure: the listed ones Dirty, the others Free (R162). -/
def Store.releaseRun (st : Store) (w : WriteCtx) (dirty : List Nat) : Store :=
  { st with sectors := setSectorList (setSectors st.sectors w.first w.count .free) dirty .dirty }

/-- The effect of a failure on the served command, and the record (table of R162). -/
def failServing (s : State) (sv : Serving) (op : StoreOp) : State :=
  match sv, s.store.write with
  | .begin w dirty, _ =>
    storeRecord (s.setStore (s.store.releaseRun w (if op.isErase then dirty else [w.first]))) .begin w.number
      .failed 0 0
  | .data _, some w => storeRecord (abandonWrite s w) .data w.number .failed w.generation w.received
  | .stop false, some w => storeRecord (abandonWrite s w) .stop w.number .failed w.generation w.received
  | .stop true, _ => completeServing s sv
  | .delete number, _ => storeRecord s .delete number .failed (s.store.generationOf number) 0
  | .data _, none | .stop false, none => s

/-- OPERATION_FAILED (R162). -/
def execOperationFailed (s : State) : Host.Outcome State Fault Refusal :=
  match s.store.current with
  | some op =>
    if s.store.executing then
      let s' := serveReads ((s.setStore (s.store.operationFailed op s.freeCount)).setFreeCount (s.freeCount + 1))
      let s' := setCond s' .storeFault true
      match s'.store.serving with
      | some sv => .next (endServing (failServing s' sv op))
      | none => .next s'
    else .next s
  | none => .next s

/-! ## Minimum run, suspend and reads (R163 to R165) -/

/-- A read waits. -/
def Store.readWaits (st : Store) : Bool := st.waitLoader || st.waitRaster

/-- MINIMUM_RUN_COMPLETE (R163): a waiting read's suspend is requested. -/
def execMinimumRunComplete (s : State) : Host.Outcome State Fault Refusal :=
  match s.store.phase with
  | .running false =>
    .next (s.setStore { s.store with phase := if s.store.readWaits then .suspending else .running true })
  | .running true | .idle | .suspending | .suspended => .next s

/-- The suspend has completed: the waiting reads are served; with no hold the operation resumes (R164,
R165). -/
def suspended (s : State) : State :=
  let s := serveReads (s.setStore { s.store with phase := .suspended })
  s.setStore s.store.resume

/-- SUSPEND_COMPLETE (R164). -/
def execSuspendComplete (s : State) : Host.Outcome State Fault Refusal :=
  match s.store.phase with
  | .suspending => .next (suspended s)
  | .running _ | .idle | .suspended => .next s

/-- The phase after a read is taken (table of R164). -/
def MemPhase.afterRead : MemPhase → MemPhase
  | .running true => .suspending
  | p => p

/-- The read is served at once: the memory is Idle or Suspended. -/
def MemPhase.servesReads : MemPhase → Bool
  | .idle | .suspended => true
  | .running _ | .suspending => false

/-- A read of the form loader. -/
def Store.readLoader (st : Store) : Store :=
  { st with holdLoader := true, waitLoader := !st.phase.servesReads, phase := st.phase.afterRead }

/-- A read of the rasterizer. -/
def Store.readRaster (st : Store) : Store :=
  { st with holdRaster := true, waitRaster := !st.phase.servesReads, phase := st.phase.afterRead }

/-- A read request of the loader (R52, R164): its hold stands, and it is served at once or waits. -/
def requestRead (s : State) : State :=
  let s' := s.setStore s.store.readLoader
  if s.store.phase.servesReads then serveLoaderRead s' else s'

/-- The loader's next catalog lookup (R165): it waits for a command that concerns its number. -/
def requestLookup (s : State) (l : Load) : State :=
  match l.status with
  | .lookup number =>
    if s.store.servedNumber = some number then
      (s.setLoader (some { l with lookupWaits := true })).setStore s.store.releaseLoader
    else serveLookup s
  | .read _ | .failed _ | .done => s

/-- STORE_READ_REQUEST (R164). -/
def execStoreReadRequest (reader : Reader) (what : ReadKind) (s : State) : Host.Outcome State Fault Refusal :=
  match reader, what with
  | .loader, .read =>
    match s.loader with
    | some l =>
      if s.store.waitLoader || l.lookupWaits then .next s else .next (requestRead s)
    | none => .next s
  | .loader, .lookup =>
    match s.loader with
    | some l => if s.store.waitLoader || l.lookupWaits then .next s else .next (requestLookup s l)
    | none => .next s
  | .rasterizer, _ =>
    match s.raster.rendering with
    | some r => if s.store.waitRaster || !r.reads then .next s else .next (s.setStore s.store.readRaster)
    | none => .next s

end Sys2Proof.Machine
end

