-- ==== Sys2Proof/Machine/HeadLink.lean ====
section
/-! DEFINITION. The link interface (09_the_head_link.md sections 9.3 to 9.6): the receiver with the tests and
the routing of a complete frame, and the transmitter's states from a transmit opportunity to the end of an
attempt. -/

namespace Sys2Proof.Machine

/-! ## The receiver (R136, R146) -/

/-- The receiver is reading a frame that a falling edge on the quiet line has begun (R146). -/
def Link.canReceive (l : Link) : Bool := !l.tx.state.drives && decide (l.receiver = .receiving)

/-- The receiver's state and the bit times since the line's last edge (R136). -/
def setReceiver (s : State) (r : Receiver) (quiet : Nat) : State :=
  s.setLink { s.link with receiver := r, quiet := quiet }

/-- The bit times since the line's last edge when a reception ends early: a stuff violation is the ninth
equal bit (R135, R136). -/
def errorQuiet : RxError → Nat
  | .badDelimiter sinceEdge => sinceEdge.toNat
  | .stuffDominant | .stuffRecessive => 8
  | .lengthAbove480 sinceEdge => sinceEdge.toNat

/-- A bad frame is counted, but not in STARTING (R146). -/
def badFrame (s : State) : State := if s.station = .starting then s else countBad s

/-- A reception ends before its last check bit (R146): the receiver ignores the line until it is quiet; a
stuff violation with the line dominant is a collision fragment, and is not counted; the line is still dominant
after it. -/
def receiveError (s : State) (e : RxError) : State :=
  if s.link.canReceive then
    let s := setReceiver s .ignoring (errorQuiet e)
    match e with
    | .stuffDominant => s.setLink { s.link with held := true }
    | .badDelimiter _ | .stuffRecessive | .lengthAbove480 _ => badFrame s
  else s

/-- FRAME_RECEIVE_ERROR (R146). -/
def execFrameReceiveError (e : RxError) (s : State) : Host.Outcome State Fault Refusal :=
  .next (receiveError s e)

/-- The quiet count has reached 16 with the line recessive (R136): a frame still being received ends as
bad, and the receiver is ready for the next (R146). A line that was held dominant has had its rising edge 16 bit
times before. -/
def lineQuiet (s : State) : State :=
  if s.link.tx.state.drives then s
  else
    let s' := s.setLink { s.link with receiver := .ready, held := false,
                                       quiet := if s.link.held then 16 else max s.link.quiet 16 }
    if s.link.receiver = .receiving then badFrame s' else s'

/-- LINE_QUIET (R136). -/
def execLineQuiet (s : State) : Host.Outcome State Fault Refusal := .next (lineQuiet s)

/-- The line is quiet (R136): recessive, with the quiet count at 16 or more. -/
def Link.isQuiet (l : Link) : Bool := decide (16 ≤ l.quiet) && !l.held

/-- An edge of the line (R136): with the line quiet, a falling edge begins a frame (R146). On a line held
dominant it is the rising edge. -/
def frameBegins (s : State) : State :=
  if s.link.tx.state.drives then s
  else
    s.setLink { s.link with receiver := if s.link.isQuiet then .receiving else s.link.receiver, quiet := 0,
                            held := false }

/-- FRAME_BEGINS (R146). -/
def execFrameBegins (s : State) : Host.Outcome State Fault Refusal := .next (frameBegins s)

/-! ## Tests and routing (R138, R147 to R149) -/

/-- The destination of an address byte. -/
def destOf (address : Byte) : Nat := address.toNat / 16

/-- The source of an address byte. -/
def sourceOf (address : Byte) : Nat := address.toNat % 16

/-- The frame is for this station: its own address or broadcast (R138). -/
def State.isFor (s : State) (dest : Nat) : Bool :=
  decide (dest = s.number) || decide (dest = Config.broadcastAddress)

/-- A frame joins the command queue, or is dropped at a full one (R149). -/
def enqueueCommand (s : State) (f : CommandFrame) : State :=
  if s.link.commandQueue.length < Config.queueDepth then
    s.setLink { s.link with commandQueue := s.link.commandQueue ++ [f] }
  else countDropped s

/-- A frame joins the store queue, or is dropped at a full one (R149). -/
def enqueueStore (s : State) (f : StoreFrame) : State :=
  if s.link.storeQueue.length < Config.queueDepth then
    s.setLink { s.link with storeQueue := s.link.storeQueue ++ [f] }
  else countDropped s

/-- An accepted frame goes to the block that takes its kind (R148). -/
def route (s : State) (source : Nat) : Payload → State
  | .command f => enqueueCommand s f
  | .store f => enqueueStore s f
  | .demand seq first ds => takeDemand s source seq first ds
  | .void seq => takeVoid s seq
  | .ignored => s

/-- Tests 2 to 4 of R147, and the routing; in STARTING every frame is discarded without a count (R146). -/
def acceptChecked (s : State) (address kind : Byte) (payload : List Byte) : State :=
  if s.isFor (destOf address) then
    match parsePayload kind payload with
    | none => badFrame s
    | some p => if s.station = .starting then s else route s (sourceOf address) p
  else s

/-- A complete frame at its last check bit (R146, R147). A length above 480 is bad before it is complete. -/
def acceptFrame (s : State) (f : RxFrame) : State :=
  if s.link.canReceive = true ∧ f.payload.length ≤ 480 then
    let s := setReceiver s .ready (frameEndQuiet f)
    if f.check = checkOf (checkedBytes f.address f.kind f.payload) then
      acceptChecked s f.address f.kind f.payload
    else badFrame s
  else s

/-- FRAME_ACCEPTED (R147). -/
def execFrameAccepted (f : RxFrame) (s : State) : Host.Outcome State Fault Refusal := .next (acceptFrame s f)

/-- A frame with its correct check. -/
def checkedFrame (address kind : Byte) (payload : List Byte) : RxFrame :=
  { address := address, kind := kind, payload := payload,
    check := checkOf (checkedBytes address kind payload) }

/-- DEMAND (R109): the acceptance of a DEMAND frame with these contents. -/
def execDemand (dest src : BitVec 4) (seq firstRow : BitVec 16) (demands : List (BitVec 16)) (s : State) :
    Host.Outcome State Fault Refusal :=
  .next (acceptFrame s (checkedFrame (dest ++ src) 0x40#8
    (encodeDemand seq.toNat firstRow.toNat (demands.map BitVec.toNat))))

/-- VOID (R13): the acceptance of a VOID frame with these contents. -/
def execVoid (dest src : BitVec 4) (seq : BitVec 16) (reason : Byte) (s : State) :
    Host.Outcome State Fault Refusal :=
  .next (acceptFrame s (checkedFrame (dest ++ src) 0x41#8 (encodeVoid seq.toNat reason)))

/-! ## The transmitter's sources (R139, R140) -/

/-- Some source holds something to send. -/
def State.hasTraffic (s : State) : Bool :=
  !s.link.voidQueue.isEmpty || s.link.demand.isSome || s.report.pending || !s.report.queue.isEmpty

def setTx (s : State) (t : Tx) : State := s.setLink { s.link with tx := t }

/-- No frame in hand: Deferring if any source holds something, or Idle (R143, R144). -/
def releaseTx (s : State) : State :=
  setTx s { state := if s.hasTraffic then .deferring else .idle, inHand := none, attempts := 0 }

/-! ## The start of an attempt (R106, R140, R141, R174) -/

/-- The condition record read from the slot: the values, and the enabled conditions whose latches are
set (R174). -/
def State.conditionInHand (s : State) : InHand :=
  .condition s.report.values (s.report.latches &&& s.setup.mask) 0

/-- The frame selected at an opportunity with none in hand, in the order of R140; the pending DEMAND has
already lost its stale entries. -/
def State.select (s : State) : Option InHand :=
  match s.link.voidQueue, s.link.demand, s.report.pending, s.report.queue with
  | f :: _, _, _, _ => some (.void f)
  | [], some _, _, _ => some .demand
  | [], none, true, _ => some s.conditionInHand
  | [], none, false, r :: _ => some (.report r)
  | [], none, false, [] => none

/-- The pending frame with its frozen mark (R103). -/
def freezeDemand (s : State) (v : Bool) : State :=
  s.setLink { s.link with demand := s.link.demand.map fun f => { f with frozen := v } }

/-- An attempt begins with this frame: a DEMAND is frozen (R106), the line leaves quiet (R136). -/
def beginAttempt (s : State) (h : InHand) (attempts : Nat) : State :=
  let s := if h = .demand then freezeDemand s true else s
  s.setLink { s.link with quiet := 0, tx := { state := .sending, inHand := some h, attempts := attempts } }

/-- The selection of a frame, and its first attempt (R140). The stale entries of a pending DEMAND are
removed when its turn comes: when no VOID waits (R106). -/
def selectFrame (s : State) : State :=
  let s := if s.link.voidQueue = [] then trimDemand s else s
  match s.select with
  | some h => beginAttempt s h 0
  | none => setTx s { state := .idle, inHand := none, attempts := 0 }

/-- The frame in hand is attempted again (R140): a DEMAND after the removal of its stale entries, a
condition record read afresh (R174). -/
def retryFrame (s : State) (h : InHand) : State :=
  match h with
  | .demand =>
    let s := trimDemand s
    if s.link.tx.inHand = some .demand then beginAttempt s .demand s.link.tx.attempts else selectFrame s
  | .condition _ _ _ => beginAttempt s s.conditionInHand s.link.tx.attempts
  | .void _ | .report _ => beginAttempt s h s.link.tx.attempts

/-- A transmit opportunity: the line is recessive with the quiet count at 24 while Deferring (R136, R140). -/
def transmitOpportunity (s : State) : State :=
  if s.link.tx.state = .deferring ∧ s.link.quiet = 24 ∧ s.link.held = false then
    match s.link.tx.inHand with
    | some h => retryFrame s h
    | none => selectFrame s
  else s

/-- TRANSMIT_OPPORTUNITY (R140). -/
def execTransmitOpportunity (s : State) : Host.Outcome State Fault Refusal := .next (transmitOpportunity s)

/-- The frame in hand, with the station's own number as source (R106, R138, R177). -/
def State.sentFrame (s : State) : Option SentFrame :=
  match s.link.tx.inHand with
  | some (.void f) => some (f.frame s.number)
  | some .demand => s.link.demand.map (DemandFrame.frame s.number)
  | some (.condition values changed _) => some (conditionFrame s.number values changed)
  | some (.report r) => some (r.frame s.number)
  | none => none

/-- The bits of the frame in hand as it is driven on the line (R135, R137). -/
def State.drivenBits (s : State) : List Bool :=
  match s.sentFrame with
  | some f => stuff (frameBits f.toRx)
  | none => []

/-- The quiet count at the end of the frame in hand: its own edges count (R136). -/
def State.sentQuiet (s : State) : Nat :=
  match s.sentFrame with
  | some f => frameEndQuiet f.toRx
  | none => 0

/-- The line as the station leaves it when it stops driving (R136). -/
def releaseLine (s : State) (quiet : Nat) : State := s.setLink { s.link with quiet := quiet }

/-! ## A collision (R107, R141, R142) -/

/-- Backlog entries that follow a frame's last row join it (R107). -/
def refillDemand (s : State) : State :=
  match s.link.demand with
  | some f =>
    let g := gatherDemands f.seq f.first f.demands s.link.backlog
    s.setLink { s.link with demand := some { f with demands := g.1 }, backlog := g.2 }
  | none => s

/-- A DEMAND in hand after a collision below the limit: unfrozen, its stale entries removed, and filled
from the backlog (R107). One that is emptied is discarded, and the next frame is formed (R105). -/
def demandCollided (s : State) : State :=
  let s := trimDemand (freezeDemand s false)
  if s.link.tx.inHand = some .demand then refillDemand s else s

/-- A collision is taken while Sending (R141), `sinceEdge` whole bit times after the line's last edge (R136). -/
def collide (sinceEdge : Nat) (s : State) : State :=
  if s.link.tx.state = .sending then
    let t := s.link.tx
    let c := s.link.counts
    let s := s.setLink { s.link with quiet := sinceEdge, counts := { c with collisions := bump c.collisions },
                                     tx := { t with state := .jamming, attempts := t.attempts + 1 } }
    if t.inHand = some .demand ∧ t.attempts + 1 < Config.attemptLimit then demandCollided s else s
  else s

/-- COLLISION (R141). -/
def execCollision (s : State) (sinceEdge : BitVec 4 := 0) : Host.Outcome State Fault Refusal :=
  .next (collide sinceEdge.toNat s)

/-! ## The end of the jam (R142, R143) -/

/-- The next state of the random source (R142). -/
def nextRandom (r : Nat) : Nat := (25173 * r + 13849) % 65536

/-- The wait drawn after the n-th collision from the random source's new state (R142). -/
def drawWait (r n : Nat) : Nat := r / 2 ^ (16 - min n 5)

/-- The head of the VOID queue leaves (R139). -/
def popVoid (s : State) : State := s.setLink { s.link with voidQueue := s.link.voidQueue.tail }

/-- The head of the report queue leaves (R175). -/
def popReport (s : State) : State := s.setReport { s.report with queue := s.report.queue.tail }

/-- The effect of giving up a frame on its source (table of R143). -/
def giveUpSource (s : State) (h : InHand) : State :=
  match h with
  | .void _ => popVoid s
  | .demand => discardDemand s
  | .condition _ _ _ => s
  | .report _ => setCond (popReport s) .reportsDropped true

/-- The frame in hand is given up (R143). -/
def giveUp (s : State) (h : InHand) : State := releaseTx (giveUpSource (countExcessive s) h)

/-- The wait after a jam: drawn, counted from the jam's end; a wait of 0 slots is over at once (R142).
With the frame discarded during the jam, no frame is in hand after the draw (log 12). -/
def drawBackoff (s : State) : State :=
  let t := s.link.tx
  let r := nextRandom s.link.rng
  let k := drawWait r t.attempts
  s.setLink { s.link with
    rng := r, tx := { state := if k = 0 then .deferring else .backingOff k, inHand := t.inHand,
                      attempts := if t.inHand = none then 0 else t.attempts } }

/-- The bit times from the sample of a collision to the end of its jam: the rest of that bit, counted whole, and
the 16 of the jam (R141, R142). -/
def jamSpan : Nat := 17

/-- The line at the end of the jam (R136): its release is the rising edge, or the line stays dominant by another
station's drive, with its last edge where it was before the jam. -/
def releaseJam (held : Bool) (s : State) : State :=
  s.setLink { s.link with quiet := if held then min 24 (s.link.quiet + jamSpan) else 0, held := held }

/-- The jam has ended (R142, R143). -/
def jamEnd (held : Bool) (s : State) : State :=
  if s.link.tx.state = .jamming then
    let s := releaseJam held s
    match s.link.tx.inHand with
    | some h => if Config.attemptLimit ≤ s.link.tx.attempts then giveUp s h else drawBackoff s
    | none => drawBackoff s
  else s

/-- JAM_END (R142). -/
def execJamEnd (s : State) (held : Bool := false) : Host.Outcome State Fault Refusal := .next (jamEnd held s)

/-- The backoff wait has ended (R142). -/
def backoffEnd (s : State) : State :=
  match s.link.tx.state with
  | .backingOff _ => setTx s { s.link.tx with state := .deferring }
  | .idle | .deferring | .sending | .jamming => s

/-- BACKOFF_END (R142). -/
def execBackoffEnd (s : State) : Host.Outcome State Fault Refusal := .next (backoffEnd s)

/-! ## A frame sent (R144, R174) -/

/-- The report unit after a condition record is sent (R174): the latches it carried are cleared, but for
those changed since its attempt began. -/
def ReportUnit.recordSent (r : ReportUnit) (mask changed since : CondSet) : ReportUnit :=
  let latches := r.latches &&& ~~~(changed &&& ~~~since)
  { r with latches := latches, pending := decide (latches &&& mask ≠ 0) }

/-- The effect of a sent frame on its source (R144). -/
def sentSource (s : State) (h : InHand) : State :=
  match h with
  | .void _ => popVoid s
  | .demand => discardDemand s
  | .condition _ changed since => s.setReport (s.report.recordSent s.setup.mask changed since)
  | .report _ => popReport s

/-- The last check bit has been driven without a collision (R144). -/
def frameSent (s : State) : State :=
  if s.link.tx.state = .sending then
    let s := releaseLine s s.sentQuiet
    match s.link.tx.inHand with
    | some h => releaseTx (sentSource s h)
    | none => releaseTx s
  else s

/-- FRAME_SENT (R144). -/
def execFrameSent (s : State) : Host.Outcome State Fault Refusal := .next (frameSent s)

end Sys2Proof.Machine
end

