-- ==== Sys2Proof/Machine/SetupUnit.lean ====
section
/-! DEFINITION. The setup and report logic (11_setup_identity_and_reports.md), the temperature monitor and
the SLW driver (08_firing_row_timing_and_head_temperature.md section 8.6), cold start and the end of the
scan, and the passing of time between commands. -/

namespace Sys2Proof.Machine

/-! ## Warm and Hot (R129 to R132) -/

/-- Warm takes a value (R130); its change is a change of the condition Warm (R134). -/
def setWarm (s : State) (v : Bool) : State := setCond (s.setThermal { s.thermal with warm := v }) .warm v

/-- Hot takes a value (R131, R132); its change is a change of the condition Hot (R134). -/
def setHot (s : State) (v : Bool) : State := setCond (s.setThermal { s.thermal with hot := v }) .hot v

/-- The label of context `i` is voided Hot when it is in the given state (R131). -/
def voidHot (st : CtxState) (s : State) (i : CtxId) : State :=
  if (s.ctx i).state = st then ownVoid s (s.ctx i).seq .hot else s

/-- Each running label is voided Hot, the one in Ending before the one in Running (log 10). -/
def voidRunningHot (s : State) : State :=
  voidHot .running (voidHot .running (voidHot .ending (voidHot .ending s .a) .b) .a) .b

/-- Entry into Hot (R131): the labels under the head are voided and the row in flight is ended. -/
def enterHot (s : State) : State := settle (stopRow (voidRunningHot (setHot s true)))

/-- Warm after a reading, in ACTIVE and OUTSIDE (R130). -/
def evalWarm (s : State) : State :=
  if s.setup.tSlow ≤ s.thermal.t then setWarm s true
  else if s.thermal.t ≤ s.setup.tSlow - 3 then setWarm s false
  else s

/-- Hot after a reading, in ACTIVE (R131, R132). -/
def evalHot (s : State) : State :=
  if s.thermal.hot then
    if s.thermal.t ≤ s.setup.tStop - 5 then setHot s false else s
  else if s.setup.tStop ≤ s.thermal.t then enterHot s
  else s

/-- The two shared lines follow their conditions (R25, R133). -/
def driveLines (s : State) : State := driveSlw (driveRdy s)

/-- A completed conversion (R129). -/
def takeReading (s : State) (reading : Int) : State :=
  let s := s.setThermal { s.thermal with t := clampInt (-20) 100 reading }
  match s.station with
  | .starting | .unset => s
  | .active => driveLines (evalHot (evalWarm s))
  | .outside => driveLines (evalWarm s)

/-- CONVERSION_COMPLETE (R129). -/
def execConversionComplete (reading : Int) (s : State) : Host.Outcome State Fault Refusal :=
  .next (takeReading s reading)

/-- SLW_HOLD_EXPIRY (R133): with the hold count at 0, SLW stands by Warm and Hot alone. -/
def execSlwHoldExpiry (s : State) : Host.Outcome State Fault Refusal :=
  .next (if s.thermal.hold = 0 then driveSlw s else s)

/-! ## SETUP (R169, R170) -/

/-- The values of a SETUP, clamped in the order of the table (R169); T_stop after T_slow. -/
def Setup.ofFrame (n p bm ka kb kc tSlow tStop mask : Nat) : Setup :=
  { n := clamp 1 4 n, p := clamp 256 2560 p, bm := clamp 100 1500 bm, ka := clamp 0 63 ka,
    kb := clamp 0 63 kb, kc := clamp 0 63 kc, tSlow := (clamp 30 85 tSlow : Nat),
    tStop := (clamp (clamp 30 85 tSlow + 5) 90 tStop : Nat), mask := BitVec.ofNat 7 mask }

/-- The station state that SETUP gives (R170). -/
def stationFor (number n : Nat) : StationState := if number < n then .active else .outside

/-- The mask takes effect, and the condition slot is examined (R173). -/
def examineSlot (s : State) : State :=
  if s.report.latches &&& s.setup.mask = 0 then s
  else (s.setReport { s.report with pending := true }).setLink { s.link with tx := s.link.tx.wake }

/-- A SETUP taken in UNSET (R169, R170). -/
def takeSetup (s : State) (v : Setup) : State :=
  let s := (s.setSetup v).setStation (stationFor s.number v.n)
  let s := if s.station = .active then s.setPeers (emptyPeers v.n s.number) else s
  let s := examineSlot s
  let s := if v.tSlow ≤ s.thermal.t then setWarm s true else s
  let s := if s.station = .active ∧ v.tStop ≤ s.thermal.t then enterHot s else s
  driveLines s

/-- SETUP (R169): the setup logic takes the SETUP at the head of the command queue; one that comes in
ACTIVE or OUTSIDE is ignored (R168). -/
def execSetup (s : State) : Host.Outcome State Fault Refusal :=
  match s.commandHead with
  | some (.setup n p bm ka kb kc tSlow tStop mask) =>
    if s.station = .unset then
      .next (takeSetup (popCommand s) (Setup.ofFrame n p bm ka kb kc tSlow tStop mask))
    else .next (popCommand s)
  | _ => .next s

/-! ## QUERY and CLEAR (R171, R172) -/

/-- The IDENT record of this moment (R171). -/
def State.ident (s : State) : IdentRecord :=
  { number := s.number, state := s.station, n := s.setup.n, sectorsFree := freeSectors s.store.sectors,
    objects := s.store.catalog.length, t := s.thermal.t, lc := s.seq.lc, queueDepth := s.seq.queue.length,
    counts := s.link.counts }

/-- QUERY (R171): the report unit takes the QUERY at the head of the command queue. -/
def execQuery (s : State) : Host.Outcome State Fault Refusal :=
  match s.commandHead with
  | some .query => .next (pushRecord (popCommand s) (.ident (popCommand s).ident))
  | _ => .next s

/-- The sticky conditions are cleared (R172). -/
def clearSticky (s : State) : State :=
  setCond (setCond (setCond (setCond s .storeFault false) .framesDropped false) .reportsDropped false)
    .unexpectedTof false

/-- The five link counts at 0 (R150, R172). -/
def clearCounts (s : State) : State := s.setLink { s.link with counts := Counts.zero }

/-- CLEAR (R172): the report unit takes the CLEAR at the head of the command queue. -/
def execClear (s : State) : Host.Outcome State Fault Refusal :=
  match s.commandHead with
  | some .clear => .next (clearSticky (clearCounts (popCommand s)))
  | _ => .next s

/-! ## Cold start and the scan (R154, R167, R168) -/

/-- The station number of the straps (R167). -/
def strapNumber (sid1 sid0 : Bool) : Nat := 2 * sid1.toNat + sid0.toNat

/-- The store's memory when a cold start abandons the operation in progress (R163, log 7). -/
def Store.abandonedMemory (st : Store) (k : Nat) : Memory :=
  match st.current with
  | some op => op.interrupt st.memory k
  | none => st.memory

/-- COLD_START (R168). -/
def execColdStart (sid1 sid0 : Bool) (s : State) : Host.Outcome State Fault Refusal :=
  .next (State.afterColdStart (strapNumber sid1 sid0) (s.store.abandonedMemory s.freeCount) s.store.sectors
    (s.freeCount + s.store.current.toList.length) s.pending)

/-- The catalog and the sector map are rebuilt from the memory, and the station enters UNSET (R154). -/
def endScan (s : State) : State :=
  (s.setStation .unset).setStore
    { s.store with catalog := (scanStore s.store.memory).1, sectors := (scanStore s.store.memory).2 }

/-- SCAN_COMPLETE (R154). -/
def execScanComplete (s : State) : Host.Outcome State Fault Refusal :=
  .next (if s.station = .starting then endScan s else s)

/-- One pulse unit passes with no command (log 1). -/
def tick (s : State) : State := passTime 1 s

end Sys2Proof.Machine
end

