-- ==== Sys2Proof/Machine/Dispatch.lean ====
section
/-! DEFINITION. One arm per command: the one call of its meaning. -/

namespace Sys2Proof.Machine

def exec (i : Instr) (s : State) : Host.Outcome State Fault Refusal :=
  match i with
  | .coldStart sid1 sid0 => Sys2Proof.Machine.execColdStart sid1 sid0 s
  | .scanComplete => Sys2Proof.Machine.execScanComplete s
  | .rowPulse dt => Sys2Proof.Machine.execRowPulse dt s
  | .slwHoldExpiry => Sys2Proof.Machine.execSlwHoldExpiry s
  | .topOfForm => Sys2Proof.Machine.execTopOfForm s
  | .frameAccepted f => Sys2Proof.Machine.execFrameAccepted f s
  | .frameReceiveError e => Sys2Proof.Machine.execFrameReceiveError e s
  | .lineQuiet => Sys2Proof.Machine.execLineQuiet s
  | .demand dest src seq firstRow demands => Sys2Proof.Machine.execDemand dest src seq firstRow demands s
  | .void dest src seq reason => Sys2Proof.Machine.execVoid dest src seq reason s
  | .setup => Sys2Proof.Machine.execSetup s
  | .query => Sys2Proof.Machine.execQuery s
  | .clear => Sys2Proof.Machine.execClear s
  | .job => Sys2Proof.Machine.execJob s
  | .cancel => Sys2Proof.Machine.execCancel s
  | .cancelAll => Sys2Proof.Machine.execCancelAll s
  | .storeBegin => Sys2Proof.Machine.execStoreBegin s
  | .storeData => Sys2Proof.Machine.execStoreData s
  | .storeEnd => Sys2Proof.Machine.execStoreEnd s
  | .storeDelete => Sys2Proof.Machine.execStoreDelete s
  | .sectorEraseComplete => Sys2Proof.Machine.execSectorEraseComplete s
  | .lineProgramComplete => Sys2Proof.Machine.execLineProgramComplete s
  | .markProgramComplete => Sys2Proof.Machine.execMarkProgramComplete s
  | .operationFailed => Sys2Proof.Machine.execOperationFailed s
  | .minimumRunComplete => Sys2Proof.Machine.execMinimumRunComplete s
  | .suspendComplete => Sys2Proof.Machine.execSuspendComplete s
  | .loadComplete => Sys2Proof.Machine.execLoadComplete s
  | .renderComplete => Sys2Proof.Machine.execRenderComplete s
  | .dataLoadComplete => Sys2Proof.Machine.execDataLoadComplete s
  | .latchComplete => Sys2Proof.Machine.execLatchComplete s
  | .mainPulseComplete => Sys2Proof.Machine.execMainPulseComplete s
  | .boostPulseComplete => Sys2Proof.Machine.execBoostPulseComplete s
  | .conversionComplete reading => Sys2Proof.Machine.execConversionComplete reading s
  | .transmitOpportunity => Sys2Proof.Machine.execTransmitOpportunity s
  | .collision sinceEdge => Sys2Proof.Machine.execCollision s sinceEdge
  | .jamEnd held => Sys2Proof.Machine.execJamEnd s held
  | .backoffEnd => Sys2Proof.Machine.execBackoffEnd s
  | .frameSent => Sys2Proof.Machine.execFrameSent s
  | .frameBegins => Sys2Proof.Machine.execFrameBegins s
  | .storeReadRequest reader what => Sys2Proof.Machine.execStoreReadRequest reader what s

end Sys2Proof.Machine
end

