-- ==== Sys2Proof/Safety.lean ====
section
/-! DEFINITION. What holds of every state a station can be in: the bounds of its queues, counts and ranges, the
form of its ring and of its store memory, the two shared lines, the idle transmitter, and the blocks that stand
idle outside ACTIVE. Each is kept by every step, and holds after reset (Certificates/Slice0/Obligations.lean).
Below them stand terms that several statements share. -/

namespace Sys2Proof.Machine

/-- The store memory keeps its canonical form, and lists store addresses only (R151). -/
def State.MemoryOk (s : State) : Prop := Memory.WF s.store.memory

/-- No queue, backlog or table holds more than its rule gives it (R1, R103, R108, R139, R149, R175). -/
def State.QueuesOk (s : State) : Prop :=
  s.seq.queue.length ≤ 4 ∧ s.link.voidQueue.length ≤ 4 ∧ s.link.commandQueue.length ≤ 4
  ∧ s.link.storeQueue.length ≤ 4 ∧ s.link.backlog.length ≤ 8 ∧ s.report.queue.length ≤ 8
  ∧ ∀ t ∈ s.peers, t.entries.length ≤ 8

/-- RDY is released exactly when its condition holds, SLW is asserted exactly when its condition holds, and
the three current conditions follow the monitor and the driver (R25, R133, R134). -/
def State.LinesOk (s : State) : Prop :=
  s.lines.rdyReleased = s.rdyCondition ∧ s.lines.slwAsserted = s.thermal.slwCondition
  ∧ Cond.warm.isIn s.report.values = s.thermal.warm ∧ Cond.hot.isIn s.report.values = s.thermal.hot
  ∧ Cond.slow.isIn s.report.values = s.lines.slwAsserted

/-- The ring holds at most two History slots and a lead of at most 5, and a Firing slot exactly while a plan
is in flight; the lead holds a Rendering slot only while the rasterizer renders (R56, R58, R119). -/
def State.RingOk (s : State) : Prop :=
  s.ring.history.length ≤ 2 ∧ s.ring.lead.length ≤ 5 ∧ s.ring.firing.isSome = s.plan.isSome
  ∧ (∀ x ∈ s.ring.history, x.state = .history) ∧ (∀ x ∈ s.ring.firing, x.state = .firing)
  ∧ ∀ x ∈ s.ring.lead, x.state = .rendered ∨ (x.state = .rendering ∧ s.raster.rendering.isSome = true)

/-- The counts and the measured values keep their ranges (R118, R129, R133, R136, R142, R150, R167). -/
def State.RangesOk (s : State) : Prop :=
  s.number ≤ 3 ∧ (1 ≤ s.timer.tPred ∧ s.timer.tPred ≤ 65535) ∧ s.timer.elapsed ≤ 65535
  ∧ (-20 ≤ s.thermal.t ∧ s.thermal.t ≤ 100) ∧ s.thermal.hold ≤ 32 ∧ s.link.quiet ≤ 24
  ∧ s.link.rng < 65536 ∧ s.link.counts.badFrames ≤ 65535 ∧ s.link.counts.collisions ≤ 65535
  ∧ s.link.counts.excessive ≤ 65535 ∧ s.link.counts.dropped ≤ 65535 ∧ s.link.counts.stale ≤ 65535

/-- The pending DEMAND frame holds 1 to 4 demands, and is frozen only while it is in hand (R103, R106). -/
def State.DemandOk (s : State) : Prop :=
  ∀ f ∈ s.link.demand, 1 ≤ f.demands.length ∧ f.demands.length ≤ 4

/-- HSB is asserted only in a strobe step of a plan in flight: the strobe is off during every load and latch,
and whenever no plan is in flight (R125). -/
def State.StrobeOk (s : State) : Prop :=
  match s.plan with
  | some p => s.head = p.lines
  | none => s.head = HeadLines.idle

/-- The transmitter is Idle only with no frame in hand and with no source that holds anything (R140). -/
def State.TrafficOk (s : State) : Prop :=
  s.link.tx.state = .idle →
    s.link.tx.inHand = none ∧ s.link.voidQueue = [] ∧ s.link.demand = none ∧ s.report.pending = false
    ∧ s.report.queue = []

/-- Outside ACTIVE no label is held, no plan is in flight, the VOID queue is empty and Hot is clear, and the
blocks that serve labels are as a cold start leaves them; in STARTING and UNSET Warm is clear too (R1, R19, R43,
R56, R60, R103, R108, R119, R130, R131, R139, R168). -/
def State.InertOk (s : State) : Prop :=
  (s.station ≠ .active →
    s.seq = { lc := 0, queue := [], preVoid := 0 } ∧ s.ctxA = Context.free ∧ s.ctxB = Context.free
    ∧ s.loader = none ∧ s.raster = Raster.reset ∧ s.ring = Ring.empty ∧ s.plan = none ∧ s.peers = []
    ∧ s.link.voidQueue = [] ∧ s.link.demand = none ∧ s.link.backlog = []
    ∧ s.thermal.hot = false ∧ s.thermal.hold = 0)
  ∧ (s.station = .starting ∨ s.station = .unset → s.thermal.warm = false)

/-! ## The store controller's own invariant -/

/-- An open write lies within the store, and has received no more than its length (R151, R157). -/
def WriteCtx.Ok (w : WriteCtx) : Prop :=
  w.count = sectorsFor w.length ∧ w.first + w.count ≤ Config.sectorCount ∧ w.received ≤ w.length

/-- What the served command's end needs is there (R158 to R161). -/
def Store.ServingOk (st : Store) : Prop :=
  match st.serving with
  | some (.begin w _) => w.Ok
  | some (.data bytes) => ∃ w, st.write = some w ∧ w.received + bytes.length ≤ w.length
  | some (.stop _) => ∃ w, st.write = some w
  | some (.delete _) => True
  | none => True

/-- Every operation of the store lies within its 1,048,576 bytes (R151). -/
def State.StoreOk (s : State) : Prop :=
  s.store.sectors.length = Config.sectorCount
  ∧ (∀ e ∈ s.store.catalog, e.first + e.count ≤ Config.sectorCount ∧ 1 ≤ e.count)
  ∧ (∀ w ∈ s.store.write, w.Ok) ∧ s.store.ServingOk
  ∧ (∀ op ∈ s.store.current, op.endAddress ≤ Config.storeBytes)
  ∧ ∀ op ∈ s.store.due, op.endAddress ≤ Config.storeBytes

/-! ## Terms of the statements -/

/-- A record handed to the report queue of `u` gives `t` (R175): it joins the tail, or at a full queue it is
dropped and Reports dropped is set. -/
def RecordHanded (u : State) (r : Record) (t : State) : Prop :=
  (u.report.queue.length < 8 → t = { u with
    link := { u.link with tx := u.link.tx.wake }, report := { u.report with queue := u.report.queue ++ [r] } })
  ∧ (8 ≤ u.report.queue.length →
      t = { u with link := { u.link with tx := t.link.tx }, report := t.report }
      ∧ t.report.queue = u.report.queue ∧ Cond.reportsDropped.isIn t.report.values = true
      ∧ ∀ c : Cond, c ≠ .reportsDropped → c.isIn t.report.values = c.isIn u.report.values)

/-- The contexts and the loader of `t` are those of `s` after the arming that the queue `q` allows (R21): with
the head held, or no record Free, nothing begins; otherwise the Free record, A before B (log 9), takes the
head's entry into Loading, and its load begins when it is a Job without a mark. -/
def State.ArmsHead (s : State) (q : List JobEntry) (t : State) : Prop :=
  ∀ e rest, q = e :: rest →
    ((s.headHeld e = true ∨ (s.ctxA.state ≠ .free ∧ s.ctxB.state ≠ .free)) →
      t.ctxA = s.ctxA ∧ t.ctxB = s.ctxB ∧ t.loader = s.loader)
    ∧ ∀ i, s.headHeld e = false → (s.ctx i).state = .free → (i = .b → s.ctxA.state ≠ .free) →
        t.ctx i = { Context.free with
          state := .loading, seq := e.seq, kind := e.kind, form := e.form, darkness := e.darkness,
          fields := e.fields, voided := e.voided, cancelled := e.cancelled }
        ∧ t.ctx i.other = s.ctx i.other
        ∧ t.loader = (if e.kind = .job ∧ e.voided = none ∧ e.cancelled = false then
            some { ctx := i, status := if e.form.getD 0 = 0 then .failed .missingObject else .lookup (e.form.getD 0),
                   found := [], examined := 0, table := [], fieldClipped := false, substituted := false,
                   lookupWaits := false }
          else s.loader)

/-- `ps` is what the strobe planner makes of the image of slot `x` for the row (seq, row) with the main width
`w0` (R90, R93, R99, R110, R115, R116). Phase `j` drives its columns of the ascending list. Its boosts are, in the
order A, B, C, those of width at least 1 that a dot of the phase calls for by its class, and each drives the dots of
the phase that call for it. The history is the fired maps of the newest and the next newest record. -/
def State.PhasesOf (s : State) (w0 : Nat) (x : Slot) (seq row : Nat) (ps : List Phase) : Prop :=
  let a := allowance s.setup.p s.setup.n x.demand (s.peers.map fun t => t.view seq row)
  let h1 := match s.ring.history.getLast? with | some y => y.fired | none => 0
  let h2 := match s.ring.history.dropLast.getLast? with | some y => y.fired | none => 0
  let calls := fun (which : Boost) (col : Nat) =>
    (match which with | .a => 1 | .b => 2 | .c => 3) ≤ dotClass x.image h1 h2 col
  ps.length = phaseCount x.demand a
  ∧ ∀ j ph, ps[j]? = some ph →
    let cols := phaseColumns (Dots.columns x.image) a j
    (∀ col, ph.main.getLsbD col = true ↔ col ∈ cols)
    ∧ (ph.boosts.map fun b => (b.boost, b.width))
        = [(Boost.a, w0 * s.setup.ka / 64), (Boost.b, w0 * s.setup.kb / 64), (Boost.c, w0 * s.setup.kc / 64)].filter
            (fun b => decide (1 ≤ b.2 ∧ ∃ col ∈ cols, calls b.1 col))
    ∧ ∀ b ∈ ph.boosts, ∀ col, b.data.getLsbD col = true ↔ col ∈ cols ∧ calls b.boost col

/-- The link `l` with the parts that the end of a label, a VOID of the station's own and the purge of stale
demands reach taken from `m`: the VOID queue, the pending DEMAND frame with its backlog, the transmitter, and the
count of dropped frames (R12, R34, R104, R139). -/
def Link.withLabelTraffic (l m : Link) : Link :=
  { l with voidQueue := m.voidQueue, demand := m.demand, backlog := m.backlog, tx := m.tx,
           counts := { l.counts with dropped := m.counts.dropped } }

/-- The VOID frame `f` placed in the VOID queue of `s` gives what `t` holds (R139): it joins the tail, or at a full
queue it is dropped and counted, and Frames dropped is set. -/
def VoidPlaced (s : State) (f : VoidFrame) (t : State) : Prop :=
  (s.link.voidQueue.length < 4 → t.link.voidQueue = s.link.voidQueue ++ [f] ∧ t.link.counts = s.link.counts)
  ∧ (4 ≤ s.link.voidQueue.length → t.link.voidQueue = s.link.voidQueue
      ∧ t.link.counts = { s.link.counts with dropped := min (s.link.counts.dropped + 1) 65535 }
      ∧ Cond.framesDropped.isIn t.report.values = true)

/-- The record of a label that completes with the context `c`: its outcome is the first that applies, and the reason
goes with Voided and Missed only (R35, R36). -/
def Context.completedRecord (c : Context) : Record :=
  .label {
    seq := c.seq,
    outcome := if c.cancelled then .cancelled
      else if c.voided ≠ none then if c.kind = .job then .voided else .missed
      else if c.truncated then .truncated else if c.light then .light else .printed,
    reason := if c.cancelled then none else c.voided,
    completed := c.completed, trimmed := c.trimmed, miss := c.miss, light := c.light,
    fieldClipped := c.fieldClipped, substituted := c.substituted, truncated := c.truncated }

/-- The record `r` handed to the report queue of `s` gives what `t` holds (R37, R175): it joins the tail, or at a full
queue it is dropped and Reports dropped is set. -/
def RecordPlaced (s : State) (r : Record) (t : State) : Prop :=
  (s.report.queue.length < 8 → t.report.queue = s.report.queue ++ [r])
  ∧ (8 ≤ s.report.queue.length →
      t.report.queue = s.report.queue ∧ Cond.reportsDropped.isIn t.report.values = true)

/-- Context `i`, whose label has completed, is Free in `t`, or has taken the queue's head (R34, R21): it stays Free
when the queue is empty, and when the other context is in Loading for that head; otherwise the arming is that of a
state in which it is Free and the other context is as `t` holds it. -/
def State.FreedThenArmed (s : State) (i : CtxId) (t : State) : Prop :=
  (t.seq.queue = [] → t.ctx i = Context.free)
  ∧ ∀ e rest, t.seq.queue = e :: rest →
    let takesHead := (t.ctx i.other).state = .loading ∧ (t.ctx i.other).seq = e.seq
    (takesHead → t.ctx i = Context.free)
    ∧ (¬takesHead → ((s.setCtx i Context.free).setCtx i.other (t.ctx i.other)).ArmsHead t.seq.queue t)

/-- A row of the label in context `i` that a mark or Hot reaches in its load or latch ends in that event (R128), the
context then being `c` with its mark: no plan is left, the slot enters History with its fired map, and the plan's
trimmed and miss findings are added (R32). A label in Ending completes (R34): its record joins the report queue, or
is dropped at a full one (R36, R37), and its context is Free, or takes a head that no context holds (R21). -/
def State.RowEndsAtOnce (s : State) (i : CtxId) (c : Context) (t : State) : Prop :=
  ∀ (p : Plan) (x : Slot), s.plan = some p → p.step.stage ≠ .strobe → s.ring.firing = some x →
    s.runningLabelCtx p.seq = some i →
    let ended : Context := { c with
      completed := c.completed + 1, trimmed := c.trimmed + (if 1 ≤ p.trim then 1 else 0),
      light := c.light || decide (1 ≤ p.trim), miss := c.miss + (if p.miss then 1 else 0) }
    t.plan = none ∧ t.head = { shifting := none, hlt := false, hsb := false }
    ∧ t.ring.firing = none
    ∧ t.ring.history = (s.ring.history ++ [{ x with state := .history, fired := p.fired }]).drop
        (s.ring.history.length - 1)
    ∧ (c.state = .running → (c.h ≠ none ∨ c.taken < 4800) → t.ctx i = ended ∧ t.report.queue = s.report.queue)
    ∧ (c.state = .ending →
        RecordPlaced s ended.completedRecord t
        ∧ match t.seq.queue with
          | [] => t.ctx i = Context.free
          | e :: _ =>
            (s.headHeld e = true → t.ctx i = Context.free)
            ∧ (s.headHeld e = false → (s.ctx i.other).state ≠ .free → t.ctx i = { Context.free with
                state := .loading, seq := e.seq, kind := e.kind, form := e.form, darkness := e.darkness,
                fields := e.fields, voided := e.voided, cancelled := e.cancelled }))

/-- The sector at which the scan continues after sector `i` (R154). -/
def scanNext (m : Memory) (i : Nat) : Nat :=
  match scanHeader m i with
  | some e => i + e.count
  | none => i + 1

/-- The scan comes to sector `i` (R154). -/
def ScanReaches (m : Memory) (i : Nat) : Prop := i < 64 ∧ ∃ k, (scanNext m)^[k] 0 = i

/-- A Valid object with a matching check that the scan comes to (R154). -/
def ScanFinds (m : Memory) (e : CatEntry) : Prop :=
  ScanReaches m e.first ∧ scanHeader m e.first = some e ∧ m.read (16384 * e.first + 10) = 240
  ∧ bodyCheckGood m e = true

/-- The size of the element record at body offset `o` of a form; `none` for an unknown kind (R38, 12.5). -/
def recordSize (m : Memory) (e : CatEntry) (o : Nat) : Option Nat :=
  match (bodyByte m e o).toNat with
  | 1 => some 12
  | 2 => some (14 + (bodyByte m e (o + 13)).toNat)
  | 3 => some 13
  | 4 => some 8
  | _ => none

/-- The body offset of the form's record `k`, each record following the one before it (R38, 12.5). -/
def recordOffset (m : Memory) (e : CatEntry) : Nat → Option Nat
  | 0 => some 3
  | k + 1 => (recordOffset m e k).bind fun o => (recordSize m e o).map fun n => o + n

/-! ## Field ranges of received frames (12.1) -/

/-- The fields of a command frame fit their bytes, those whose upper bit is not read seven bits (R176,
log 30). -/
def CommandFrame.Fits : CommandFrame → Prop
  | .setup n p bm ka kb kc ts tp mask =>
    n < 128 ∧ p < 65536 ∧ bm < 65536 ∧ ka < 128 ∧ kb < 128 ∧ kc < 128 ∧ ts < 128 ∧ tp < 128 ∧ mask < 128
  | .query | .clear => True
  | .job seq form darkness entries =>
    seq < 65536 ∧ form < 256 ∧ darkness < 256 ∧ entries.length ≤ 16
    ∧ ∀ f ∈ entries, f.number < 128 ∧ f.value.length ≤ 240
  | .cancel seq => seq < 65536

/-- The fields of a store frame fit their bytes, the kind seven bits (R176, log 30). -/
def StoreFrame.Fits : StoreFrame → Prop
  | .begin number kind len => number < 256 ∧ kind < 128 ∧ len < 4294967296
  | .data offset bytes => offset < 4294967296 ∧ 1 ≤ bytes.length ∧ bytes.length ≤ 256
  | .stop _ => True
  | .delete number => number < 256

end Sys2Proof.Machine
end

