-- ==== Sys2Proof/Certificates/Slice0/Obligations.lean ====
section
/-! DEFINITION. The statements for the provers. Where a statement ends in `t = { s with ... }`, every block
that is not named there is unchanged: that is the command's frame. The memory is part of the block
`store`. -/

open Sys2Proof Sys2Proof.Machine

/-! ## The step and the queue of commands -/

/-- The command at the front of the queue is run on the state with the rest of the queue. With no command
waiting one pulse unit passes (log 1, a model's choice): only the row timer's elapsed count and the quiet count
move, the quiet count two bit times on, to 24 on a line known to be quiet or held, and to 15 on another (R118, R136,
log 3). -/
def Obligations.StepTakesFront : Prop :=
  (∀ (c : Instr) (rest : List Instr) (s : State), s.pending = c :: rest → step s = exec c (s.setPending rest))
  ∧ ∀ s : State, s.pending = [] →
    let moves := s.link.tx.state ≠ .sending ∧ s.link.tx.state ≠ .jamming ∧ s.link.receiver ≠ .receiving
    step s = .next { s with
      timer := { s.timer with
        elapsed := if s.timer.seen then min 65535 (s.timer.elapsed + 1) else s.timer.elapsed },
      link := { s.link with
        quiet := if moves then
            if s.link.quiet < 16 ∧ s.link.held = false then min 15 (s.link.quiet + 2) else min 24 (s.link.quiet + 2)
          else s.link.quiet } }

/-- No command changes the queue of waiting commands. -/
def Obligations.ExecKeepsPending : Prop :=
  ∀ (c : Instr) (s t : State), exec c s = .next t → t.pending = s.pending

/-- No command is refused. A command faults only when it completes an operation that runs past the store's last
address (R151): that such a completion is a fault is the model's choice (log 26), and no command makes one. -/
def Obligations.ExecStopsOnlyPastStore : Prop :=
  ∀ (c : Instr) (s : State), (∃ t, exec c s = .next t)
    ∨ ((c = .sectorEraseComplete ∨ c = .lineProgramComplete ∨ c = .markProgramComplete)
       ∧ (∃ op, s.store.current = some op ∧ Config.storeBytes < op.endAddress)
       ∧ exec c s = .fault (.noSuchStoreAddress 1048576))

/-! ## Reset, cold start and the scan -/

/-- What the rules give for the state after reset, block by block (R1, R19, R25, R43, R56, R60, R103, R108, R118,
R119, R129, R133, R136, R139, R140, R142, R149, R150, R154, R157, R163, R168, R169, R173, R175); the values that no
rule names, such as the elapsed count 0 and the attempt count 0, are the model's (log 29). The catalog is empty
until the scan, and the store controller serves nothing, with the memory Idle and no hold. -/
def Obligations.ResetValues : Prop :=
  State.reset.station = .starting ∧ State.reset.seq = { lc := 0, queue := [], preVoid := 0 }
  ∧ State.reset.ctxA = Context.free ∧ State.reset.ctxB = Context.free ∧ State.reset.loader = none
  ∧ State.reset.raster = { rendering := none, position := none, pending := [], active := [] }
  ∧ State.reset.ring = { history := [], firing := none, lead := [] }
  ∧ State.reset.timer = { tPred := 65535, elapsed := 0, seen := false } ∧ State.reset.plan = none
  ∧ State.reset.head = { shifting := none, hlt := false, hsb := false }
  ∧ State.reset.thermal = { t := 25, warm := false, hot := false, hold := 0 }
  ∧ State.reset.lines = { rdyReleased := false, slwAsserted := false } ∧ State.reset.peers = []
  ∧ State.reset.link.tx = { state := .idle, inHand := none, attempts := 0 } ∧ State.reset.link.quiet = 0
  ∧ State.reset.link.held = false
  ∧ State.reset.link.commandQueue = [] ∧ State.reset.link.storeQueue = [] ∧ State.reset.link.voidQueue = []
  ∧ State.reset.link.demand = none ∧ State.reset.link.backlog = []
  ∧ State.reset.report = { values := 0, latches := 0, pending := false, queue := [] }
  ∧ State.reset.link.receiver = .ready ∧ State.reset.link.rng = State.reset.number
  ∧ State.reset.link.counts = { badFrames := 0, collisions := 0, excessive := 0, dropped := 0, stale := 0 }
  ∧ State.reset.setup
      = { n := 0, p := 0, bm := 0, ka := 0, kb := 0, kc := 0, tSlow := 0, tStop := 0, mask := 0 }
  ∧ State.reset.store.write = none ∧ State.reset.store.catalog = [] ∧ State.reset.store.serving = none
  ∧ State.reset.store.current = none ∧ State.reset.store.due = [] ∧ State.reset.store.phase = .idle
  ∧ State.reset.store.holdLoader = false ∧ State.reset.store.holdRaster = false
  ∧ State.reset.store.waitLoader = false ∧ State.reset.store.waitRaster = false

/-- A cold start in any state leaves every block as R168 and the blocks' rules give, with the number of the
straps; the store keeps every byte that no operation in progress was changing (R163). The model's choices in it:
the sector map stands until the scan (log 6), the receiver is between frames (log 15), and the values that no
rule names are empty, 0 or idle (log 29). -/
def Obligations.ColdStartResets : Prop :=
  ∀ (sid1 sid0 : Bool) (s : State), ∃ t, exec (.coldStart sid1 sid0) s = .next t
    ∧ t.station = .starting ∧ t.number = (if sid1 then 2 else 0) + (if sid0 then 1 else 0)
    ∧ t = { State.reset with number := t.number, link := { State.reset.link with rng := t.number },
                             store := { State.reset.store with memory := t.store.memory, sectors := s.store.sectors },
                             freeCount := t.freeCount, pending := s.pending }
    ∧ (s.store.current = none → t.store.memory = s.store.memory ∧ t.freeCount = s.freeCount)
    ∧ ∀ op, s.MemoryOk → s.store.current = some op → ∀ a,
        (match op with
         | .erase i => inSector i a = false
         | .line first bs | .mark first bs => a < first ∨ first + bs.length ≤ a) →
        t.store.memory.read a = s.store.memory.read a

/-- The scan's end takes the station to UNSET with the catalog and the map that the walk over the store finds
(R153, R154, R155); in another state nothing is scanned, the model's choice (R168, log 2). A header is well-formed
with a number in 1..255, one of the three kinds, one of the three marks and a run that ends by sector 63; its entry
holds the header's fields. A body's check is that over its bytes, 65535 for an empty one, against the check field.
Each catalogued object is one the walk finds Valid with a matching check, and no two have one number. Of every such
object the number is catalogued: its sectors are Used when it is the one kept, and Dirty otherwise; of two of one
number the later found is kept when its generation is 1 to 32767 ahead. The sectors of every other object the walk
comes to are Dirty; a sector without a header is Free when every byte of it reads 255, and Dirty otherwise. -/
def Obligations.ScanRebuildsStore : Prop :=
  (∀ s : State,
    (s.station = .starting → exec .scanComplete s = .next { s with
      station := .unset,
      store := { s.store with catalog := (scanStore s.store.memory).1, sectors := (scanStore s.store.memory).2 } })
    ∧ (s.station ≠ .starting → exec .scanComplete s = .next s))
  ∧ scanStore [] = ([], List.replicate 64 .free)
  ∧ (∀ (m : Memory) (i : Nat) (e : CatEntry),
    let byte := fun k => (m.read (16384 * i + k)).toNat
    scanHeader m i = some e ↔
      e.number = byte 0 ∧ 1 ≤ e.number
      ∧ byte 1 = (match e.kind with | .form => 1 | .glyphSet => 2 | .graphic => 3)
      ∧ e.length = ((byte 2 * 256 + byte 3) * 256 + byte 4) * 256 + byte 5 ∧ e.generation = byte 6 * 256 + byte 7
      ∧ (byte 10 = 252 ∨ byte 10 = 240 ∨ byte 10 = 0)
      ∧ e.first = i ∧ e.count = (e.length + 64 + 16383) / 16384 ∧ i + e.count ≤ 64)
  ∧ checkOf [] = 65535#16
  ∧ (∀ (m : Memory) (e : CatEntry),
    let byte := fun k => (m.read (16384 * e.first + k)).toNat
    bodyCheckGood m e = true ↔
      (checkOf ((List.range e.length).map fun k => m.read (16384 * e.first + 64 + k))).toNat = byte 8 * 256 + byte 9)
  ∧ ∀ m : Memory,
    let cat := (scanStore m).1
    let map := (scanStore m).2
    (∀ e ∈ cat, ScanFinds m e) ∧ cat.Pairwise (fun d e => d.number ≠ e.number) ∧ map.length = 64
    ∧ (∀ e, ScanFinds m e → (∃ d ∈ cat, d.number = e.number)
        ∧ ∀ j, e.first ≤ j → j < e.first + e.count → map.getD j .free = if e ∈ cat then .used else .dirty)
    ∧ (∀ d e, ScanFinds m d → ScanFinds m e → d.first < e.first → d.number = e.number →
        (∀ x, ScanFinds m x → x.number = d.number → x = d ∨ x = e) →
        if 1 ≤ seqDistance e.generation d.generation ∧ seqDistance e.generation d.generation ≤ 32767 then e ∈ cat
        else d ∈ cat)
    ∧ ∀ i, ScanReaches m i →
      (∀ e, scanHeader m i = some e → ¬ScanFinds m e →
        ∀ j, i ≤ j → j < i + e.count → map.getD j .free = .dirty)
      ∧ (scanHeader m i = none → Memory.WF m →
          ((∀ a, 16384 * i ≤ a → a < 16384 * (i + 1) → m.read a = 255) → map.getD i .used = .free)
          ∧ ((∃ a, 16384 * i ≤ a ∧ a < 16384 * (i + 1) ∧ m.read a ≠ 255) → map.getD i .used = .dirty))

/-! ## What every step keeps -/

/-- The state after reset meets every invariant below. -/
def Obligations.ResetIsSafe : Prop :=
  State.reset.MemoryOk ∧ State.reset.QueuesOk ∧ State.reset.LinesOk ∧ State.reset.RingOk
  ∧ State.reset.RangesOk ∧ State.reset.DemandOk ∧ State.reset.StrobeOk ∧ State.reset.StoreOk
  ∧ State.reset.TrafficOk ∧ State.reset.InertOk

/-- Every step keeps the canonical form of the store memory. -/
def Obligations.StepKeepsMemory : Prop :=
  ∀ s t : State, s.MemoryOk → step s = .next t → t.MemoryOk

/-- Every step keeps the depth of every queue and table, and 1 to 4 demands in the pending DEMAND frame (R1,
R103, R108, R139, R149, R175). Every step keeps it that the transmitter is Idle only with no frame in hand and with
the VOID queue, the pending DEMAND frame, the condition slot and the report queue holding nothing: it passes from
Idle to Deferring in the event that gives one of them something to send (R140). -/
def Obligations.StepKeepsQueues : Prop :=
  (∀ s t : State, s.QueuesOk → s.DemandOk → step s = .next t → t.QueuesOk ∧ t.DemandOk)
  ∧ ∀ s t : State, s.TrafficOk → step s = .next t → t.TrafficOk

/-- After every step RDY is released exactly in ACTIVE with a context Armed and Hot clear, and in OUTSIDE (R25); SLW
is asserted exactly while Warm or Hot is set or the hold count is above 0 (R133); and the conditions Warm, Hot and
Slow follow the monitor and the driver (R134). -/
def Obligations.StepKeepsLines : Prop :=
  ∀ s t : State, s.LinesOk → step s = .next t → t.LinesOk
    ∧ (t.lines.rdyReleased = true ↔
        (t.station = .active ∧ t.thermal.hot = false ∧ (t.ctxA.state = .armed ∨ t.ctxB.state = .armed))
        ∨ t.station = .outside)
    ∧ (t.lines.slwAsserted = true ↔ t.thermal.warm = true ∨ t.thermal.hot = true ∨ 0 < t.thermal.hold)
    ∧ (Cond.warm.isIn t.report.values = true ↔ t.thermal.warm = true)
    ∧ (Cond.hot.isIn t.report.values = true ↔ t.thermal.hot = true)
    ∧ (Cond.slow.isIn t.report.values = true ↔ t.lines.slwAsserted = true)

/-- Every step keeps the form of the row ring (R56, R58, R119). -/
def Obligations.StepKeepsRing : Prop :=
  ∀ s t : State, s.RingOk → step s = .next t → t.RingOk

/-- After every step the head lines are those of the step in progress: the strobe is off during every load
and latch, and whenever no plan is in flight (R125). Every step keeps it that outside ACTIVE no plan is in flight, no
label is held, the VOID queue is empty and Hot is clear, with the blocks that serve labels as a cold start leaves
them, and that Warm is clear in STARTING and UNSET (R119, R130, R131, R139, R168). -/
def Obligations.StepKeepsStrobe : Prop :=
  (∀ s t : State, s.StrobeOk → step s = .next t → t.StrobeOk)
  ∧ ∀ s t : State, s.InertOk → step s = .next t → t.InertOk

/-- Every step keeps the ranges of the counts and measured values (R118, R129, R133, R136, R150). -/
def Obligations.StepKeepsRanges : Prop :=
  ∀ s t : State, s.RangesOk → step s = .next t → t.RangesOk

/-- From a state whose store operations lie within the store, every step has a next state, and it is such a
state again: no run from reset faults (R151). -/
def Obligations.StepNeverFaults : Prop :=
  ∀ s : State, s.StoreOk → ∃ t, step s = .next t ∧ t.StoreOk

/-! ## Frames on the line -/

/-- The payload of every command frame and store frame that fits its fields is read back as that frame (R148,
R176, section 12.1; which fields are read in seven bits, a JOB's and a DEMAND's count among them, is DEDUCED, log 30).
A DEMAND payload is read back when its count lies in 1..4 and is bad otherwise; a VOID payload is read back by its
seq (R147, section 12.2). Bad are exactly: a kind outside the table of R148 (test 3), and a payload whose length is
not its layout's (test 4): a SETUP of other than 11 bytes, a QUERY or CLEAR with any, a CANCEL or STORE-END of other
than 2, a STORE-BEGIN of other than 6, a STORE-DATA outside 5..260, a STORE-DELETE of other than 1, a VOID of other
than 3, a DEMAND whose count is not 1..4 or does not match, and a JOB whose count is above 16, or whose entries, of at
most 240 bytes each, do not end at its last byte. REPORT and IDENT are not tested. -/
def Obligations.PayloadsRoundTrip : Prop :=
  (∀ f : CommandFrame, f.Fits → parsePayload (encodeCommand f).1 (encodeCommand f).2 = some (.command f))
  ∧ (∀ f : StoreFrame, f.Fits → parsePayload (encodeStore f).1 (encodeStore f).2 = some (.store f))
  ∧ (∀ (seq first : Nat) (ds : List Nat), seq < 65536 → first < 65536 → (∀ d ∈ ds, d < 65536) →
    ds.length < 256 →
    parsePayload 0x40#8 (encodeDemand seq first ds)
      = if 1 ≤ ds.length ∧ ds.length ≤ 4 then some (.demand seq first ds) else none)
  ∧ (∀ (seq : Nat) (reason : Byte), seq < 65536 →
    parsePayload 0x41#8 (encodeVoid seq reason) = some (.void seq))
  ∧ ∀ (kind : Byte) (p : List Byte),
    (kind ∉ [0x10#8, 0x11#8, 0x12#8, 0x20#8, 0x21#8, 0x30#8, 0x31#8, 0x32#8, 0x33#8, 0x40#8, 0x41#8, 0x50#8, 0x51#8] →
      parsePayload kind p = none)
    ∧ (parsePayload 0x10#8 p = none ↔ p.length ≠ 11)
    ∧ (parsePayload 0x11#8 p = none ↔ p ≠ []) ∧ (parsePayload 0x12#8 p = none ↔ p ≠ [])
    ∧ (parsePayload 0x20#8 p = none ↔ ¬∃ (s1 s0 form dark count : Byte) (es : List (Byte × List Byte)),
        p = [s1, s0, form, dark, count] ++ es.flatMap (fun e => e.1 :: BitVec.ofNat 8 e.2.length :: e.2)
        ∧ es.length = count.toNat % 128 ∧ es.length ≤ 16 ∧ ∀ e ∈ es, e.2.length ≤ 240)
    ∧ (parsePayload 0x21#8 p = none ↔ p.length ≠ 2) ∧ (parsePayload 0x30#8 p = none ↔ p.length ≠ 6)
    ∧ (parsePayload 0x31#8 p = none ↔ ¬(5 ≤ p.length ∧ p.length ≤ 260))
    ∧ (parsePayload 0x32#8 p = none ↔ p.length ≠ 2) ∧ (parsePayload 0x33#8 p = none ↔ p.length ≠ 1)
    ∧ (parsePayload 0x40#8 p = none ↔
        ¬∃ c, 1 ≤ c ∧ c ≤ 4 ∧ p.length = 5 + 2 * c ∧ (p.getD 4 0).toNat % 128 = c)
    ∧ (parsePayload 0x41#8 p = none ↔ p.length ≠ 3)
    ∧ parsePayload 0x50#8 p = some .ignored ∧ parsePayload 0x51#8 p = some .ignored

/-- The receiver recovers the data bits from what a sender drives; no run of 9 equal bits is driven, and none of 8
ends a frame: 8 equal bits are always followed by a stuff bit (R135, R146). The line's last edge therefore lies at
most 7 bit times before a frame's end, so that the line is quiet again 9 to 16 bit times after it (R136, log 24). -/
def Obligations.StuffingRoundTrip : Prop :=
  (∀ bits : List Bool, unstuff (stuff bits) = some bits
    ∧ (∀ (pre run post : List Bool) (b : Bool), stuff bits = pre ++ run ++ post → (∀ x ∈ run, x = b) →
        run.length ≤ 8)
    ∧ ∀ (pre : List Bool) (b : Bool), stuff bits ≠ pre ++ List.replicate 8 b)
  ∧ ∀ f : RxFrame, frameEndQuiet f ≤ 7

/-! ## Pulse energy -/

/-- Equation (6-1) with its range, its value at 8, its step and its clamp (R95), and Equation (6-2) with its
range, its value at 25, its step and its clamp (R96). -/
def Obligations.WidthFactors : Prop :=
  (∀ l : Nat, darknessFactor l = 192 + 8 * min l 15 ∧ 192 ≤ darknessFactor l ∧ darknessFactor l ≤ 312)
  ∧ darknessFactor 8 = 256 ∧ (∀ l, l < 15 → darknessFactor (l + 1) = darknessFactor l + 8)
  ∧ (∀ l, 15 ≤ l → darknessFactor l = darknessFactor 15)
  ∧ (∀ t : Int, 146 ≤ temperatureFactor t ∧ temperatureFactor t ≤ 326)
  ∧ (∀ t : Int, -10 ≤ t → t ≤ 80 → (temperatureFactor t : Int) = 256 - 2 * (t - 25))
  ∧ temperatureFactor 25 = 256
  ∧ (∀ t : Int, t ≤ -10 → temperatureFactor t = temperatureFactor (-10))
  ∧ ∀ t : Int, 80 ≤ t → temperatureFactor t = temperatureFactor 80

/-- Equation (6-3): the floor before the clamp, the clamp's range, the range over every SETUP value, and the two
extreme products (R97). Equation (6-4): each boost is below one whole and at most 1968, and one of width 0 is
absent (R98). -/
def Obligations.PulseWidths : Prop :=
  (∀ (bm l : Nat) (t : Int),
    mainWidth bm l t = max 10 (min 2000 (bm * darknessFactor l * temperatureFactor t / 65536))
    ∧ 10 ≤ mainWidth bm l t ∧ mainWidth bm l t ≤ 2000)
  ∧ (∀ (bm l : Nat) (t : Int), 100 ≤ bm → bm ≤ 1500 →
      42 ≤ mainWidth bm l t ∧ bm * darknessFactor l * temperatureFactor t ≤ 152568000)
  ∧ 152568000 / 65536 = 2328 ∧ mainWidth 1500 15 (-10) = 2000 ∧ mainWidth 100 0 80 = 42
  ∧ (∀ w0 k : Nat, boostWidth w0 k = w0 * k / 64) ∧ (∀ w0 k, w0 ≤ 2000 → k ≤ 63 → boostWidth w0 k ≤ 1968)
  ∧ (∀ w0 k, 1 ≤ w0 → k ≤ 63 → boostWidth w0 k < w0)
  ∧ ∀ (u : Setup) (w0 : Nat) (which : Boost) (w : Nat), (which, w) ∈ presentBoosts u w0 ↔
      (1 ≤ w ∧ w = boostWidth w0 (match which with | .a => u.ka | .b => u.kb | .c => u.kc))

/-- The class of a dot from its history and its lateral neighbours, those outside the slice not firing (R92). The
class counts of the energy set are the numbers of firing dots of each class 0 to 3, and they sum to the row's
number of firing dots (section 6.5). -/
def Obligations.DotClasses : Prop :=
  (∀ (image h1 h2 : Dots) (c : Nat), c < 640 →
    let left := decide (c ≠ 0) && image.getLsbD (c - 1)
    let right := decide (c ≠ 639) && image.getLsbD (c + 1)
    (dotClass image h1 h2 c = 0 ↔ h1.getLsbD c = true)
    ∧ (dotClass image h1 h2 c = 1 ↔ h1.getLsbD c = false ∧ h2.getLsbD c = true)
    ∧ (dotClass image h1 h2 c = 2 ↔ h1.getLsbD c = false ∧ h2.getLsbD c = false ∧ (left || right) = true)
    ∧ (dotClass image h1 h2 c = 3 ↔ h1.getLsbD c = false ∧ h2.getLsbD c = false ∧ (left || right) = false))
  ∧ ∀ (image h1 h2 : Dots) (u : Setup) (w0 : Nat),
    let e := energySet image h1 h2 u w0
    e.classCounts.length = 4 ∧ e.classCounts.sum = Dots.count image
    ∧ ∀ k, k < 4 → e.classCounts.getD k 0
        = ((List.range 640).filter fun c => image.getLsbD c && decide (dotClass image h1 h2 c = k)).length

/-! ## The shared strobe budget -/

/-- The cases of the allowance and the bounds of reserve, pool and phase count (R112, R113, R114), with Equations
(7-2) and (7-3). A station plans with its own demand beside its views of its peers: the demand that a peer's table
holds for the row, or 640 with none, which makes the row a miss (R110). -/
def Obligations.AllowanceCases : Prop :=
  (∀ (p n d : Nat) (peers : List Nat), 256 ≤ p → p ≤ 2560 → 1 ≤ n → n ≤ 4 → peers.length = n - 1 → d ≤ 640 →
    reserve p n = p / (2 * n) ∧ 32 ≤ reserve p n ∧ reserve p n ≤ 1280
    ∧ pool p n (d :: peers) = p - ((d :: peers).map fun v => min v (p / (2 * n))).sum
    ∧ totalExcess p n (d :: peers) = ((d :: peers).map fun v => if p / (2 * n) < v then v - p / (2 * n) else 0).sum
    ∧ (p + 1) / 2 ≤ pool p n (d :: peers) ∧ pool p n (d :: peers) ≤ p
    ∧ (d ≤ reserve p n → allowance p n d peers = d)
    ∧ (reserve p n < d → reserve p n ≤ allowance p n d peers
        ∧ allowance p n d peers = reserve p n
            + pool p n (d :: peers) * (d - reserve p n) / totalExcess p n (d :: peers))
    ∧ (1 ≤ d → 1 ≤ allowance p n d peers) ∧ (n = 1 → reserve p n < d → allowance p n d peers = p)
    ∧ phaseCount d (allowance p n d peers) ≤ 20
    ∧ (phaseCount d (allowance p n d peers) = 0 ↔ d = 0))
  ∧ (∀ (s : State) (seq row d : Nat),
      s.allowanceFor seq row d = allowance s.setup.p s.setup.n d (s.peers.map fun t => t.view seq row)
      ∧ (s.rowMiss seq row = true ↔ ∃ t ∈ s.peers, ∀ e ∈ t.entries, ¬(e.seq = seq ∧ e.row = row)))
  ∧ ∀ (t : PeerTable) (seq row : Nat),
    ((∀ e ∈ t.entries, ¬(e.seq = seq ∧ e.row = row)) → t.view seq row = 640)
    ∧ ∀ pre e post, t.entries = pre ++ e :: post → e.seq = seq → e.row = row →
        (∀ x ∈ pre, ¬(x.seq = seq ∧ x.row = row)) → t.view seq row = e.demand

/-- The head-wide bound (R117): when every view a station holds of a peer is at least the demand that peer
plans with, the allowances of all stations sum to at most P. -/
def Obligations.HeadWithinBudget : Prop :=
  ∀ (p n : Nat) (d : Fin n → Nat) (view : Fin n → Fin n → Nat), 256 ≤ p → 1 ≤ n →
    (∀ k j, d j ≤ view k j) →
    ((List.finRange n).map fun k =>
      allowance p n (d k) (((List.finRange n).filter (fun j => j ≠ k)).map (view k))).sum ≤ p

/-- The phases divide a row's firing dots by ascending column: each column in exactly one phase, at most `a` in
each, phase `j` taking the columns with `a * j` to `a * j + a - 1` firing dots below them (R115). -/
def Obligations.PhasesDivideRow : Prop :=
  ∀ (image : Dots) (a : Nat), 1 ≤ a →
    let n := phaseCount (Dots.count image) a
    ((List.range n).flatMap (phaseColumns (Dots.columns image) a) = Dots.columns image)
    ∧ (∀ j, j < n → 1 ≤ (phaseColumns (Dots.columns image) a j).length
        ∧ (phaseColumns (Dots.columns image) a j).length ≤ a)
    ∧ (∀ j, j + 1 < n → (phaseColumns (Dots.columns image) a j).length = a)
    ∧ ∀ j col, col ∈ phaseColumns (Dots.columns image) a j ↔ image.getLsbD col = true ∧
        (let below := ((List.range col).filter fun c => image.getLsbD c).length
         a * j ≤ below ∧ below < a * j + a)

/-- The phase list of a row, before its trim (R90, R93, R99, R110, R115): which dots each phase drives, its boosts in
the order A, B, C with their widths, and which of its dots each boost drives, by the class of each dot from the two
newest history records. Every data set of the row's plan, main or boost, holds at most the row's allowance of dots,
and boost data are dots of their phase (R115, R116). -/
def Obligations.PlanWithinAllowance : Prop :=
  ∀ (s : State) (c : Context) (x : Slot) (row : Nat),
    (∀ w0, s.PhasesOf w0 x c.seq row (s.phasesFor w0 x c.seq row))
    ∧ (∀ pre y, s.ring.history = pre ++ [y] → s.ring.firstHistory = y.fired)
    ∧ (∀ pre z y, s.ring.history = pre ++ [z, y] → s.ring.secondHistory = z.fired)
    ∧ (s.ring.history = [] → s.ring.firstHistory = 0) ∧ (s.ring.history.length ≤ 1 → s.ring.secondHistory = 0)
    ∧ ∀ ph ∈ (s.planFor c x row).phases,
      Dots.count ph.main ≤ s.allowanceFor c.seq row x.demand
      ∧ ∀ b ∈ ph.boosts, Dots.count b.data ≤ s.allowanceFor c.seq row x.demand
          ∧ ∀ col, b.data.getLsbD col = true → ph.main.getLsbD col = true

/-- The trim level is the first of 0, 1 and 2 at which the plan fits the available time, and 3 when none of them
does (R123), by the plan time of Equations (8-1) and (8-2) (R122). Level 1 removes boost C, level 2 also B, level 3
also A, and every other boost stays as it was; a trim leaves every phase's main data, the order and the number of
the phases (R123, R124). -/
def Obligations.TrimLevels : Prop :=
  ∀ (w0 tPred : Nat) (ps : List Phase),
    let tAv := availableTime tPred
    tAv = tPred - 20
    ∧ planTime w0 ps = (ps.map fun ph => 105 + w0 + (ph.boosts.map fun b => 105 + b.width).sum).sum
    ∧ trimLevel w0 tAv ps ≤ 3
    ∧ (∀ k, k < 3 → (trimLevel w0 tAv ps = k ↔
        planTime w0 (trimTo k ps) ≤ tAv ∧ ∀ j, j < k → tAv < planTime w0 (trimTo j ps)))
    ∧ trimTo 0 ps = ps
    ∧ ∀ level, (trimTo level ps).map Phase.main = ps.map Phase.main
        ∧ (trimTo level ps).map Phase.boosts = ps.map (fun ph => ph.boosts.filter fun b =>
            match b.boost with
            | .c => decide (level = 0)
            | .b => decide (level ≤ 1)
            | .a => decide (level ≤ 2))
        ∧ planTime w0 (trimTo (level + 1) ps) ≤ planTime w0 (trimTo level ps)

/-- Where a rendered row's demand goes (R103): a new pending frame when there is none and the backlog is empty; the
tail of an unfrozen frame of fewer than 4 whose last row it follows, with the backlog empty; otherwise the
backlog's tail, or nowhere when that holds 8. A new frame is formed from the backlog without its stale entries
(R105): its first entry and those after it that follow, up to 4 demands; the rest stay in order. -/
def Obligations.DemandPlaced : Prop :=
  (∀ (s : State) (e : DemandEntry),
    let behind : State := if s.link.backlog.length < 8 then
      { s with link := { s.link with backlog := s.link.backlog ++ [e] } } else s
    (s.link.demand = none → s.link.backlog = [] → handDemand s e = { s with link := { s.link with
      demand := some { seq := e.seq, first := e.row, demands := [e.demand], frozen := false },
      tx := s.link.tx.wake } })
    ∧ (s.link.demand = none → s.link.backlog ≠ [] → handDemand s e = formDemand behind)
    ∧ ∀ f, s.link.demand = some f →
      let joins := f.frozen = false ∧ f.demands.length < 4 ∧ f.seq = e.seq ∧ e.row = f.first + f.demands.length
        ∧ s.link.backlog = []
      (joins → handDemand s e = { s with link := { s.link with
        demand := some { f with demands := f.demands ++ [e.demand] } } })
      ∧ (¬joins → handDemand s e = behind))
  ∧ ∀ s : State,
    (s.link.demand ≠ none → formDemand s = s)
    ∧ (s.link.demand = none → (∀ e ∈ s.link.backlog, s.isStale e.seq e.row = true) →
        formDemand s = { s with link := { s.link with backlog := [] } })
    ∧ ∀ e es, s.link.demand = none → (s.link.backlog.filter fun x => !s.isStale x.seq x.row) = e :: es →
        ∃ n, n ≤ 3 ∧ n ≤ es.length
          ∧ (∀ j x, j < n → es[j]? = some x → x.seq = e.seq ∧ x.row = e.row + j + 1)
          ∧ (∀ x, n < 3 → es[n]? = some x → ¬(x.seq = e.seq ∧ x.row = e.row + n + 1))
          ∧ formDemand s = { s with link := { s.link with
              demand := some { seq := e.seq, first := e.row, demands := (e :: es.take n).map DemandEntry.demand,
                               frozen := false },
              backlog := es.drop n, tx := s.link.tx.wake } }

/-- The test of staleness by the running seq and the next seq (R20, R104), and what a row pulse or a TOF in ACTIVE
removes after its other work (R104, R111): every stale entry of the peer tables and of the backlog, and the stale
rows at the front of a pending frame that is not frozen; a frame left empty is discarded and the next is formed. A
frozen frame keeps its rows. -/
def Obligations.StaleRemoved : Prop :=
  (∀ (s : State) (seq row : Nat),
    let next := match s.seq.queue with
      | e :: _ => e.seq
      | [] => if s.seq.lc = 0 then 0 else nextSeq s.seq.lc
    let runs := fun i => (s.ctx i).state = .running ∧ (s.ctx i).seq = seq
    (seq ≠ s.seq.lc → seq ≠ next → s.isStale seq row = true)
    ∧ (seq ≠ s.seq.lc → seq = next → s.isStale seq row = false)
    ∧ (seq = s.seq.lc → (∀ i, ¬runs i) → s.isStale seq row = true)
    ∧ ∀ i, seq = s.seq.lc → runs i → ¬runs i.other → s.isStale seq row = decide (row < (s.ctx i).taken))
  ∧ ∀ (s : State) (c : Instr), s.station = .active → (c = .topOfForm ∨ ∃ dt, c = .rowPulse dt) →
    ∃ t, exec c s = .next t
      ∧ (let fresh := fun es => List.filter (fun (e : DemandEntry) => !t.isStale e.seq e.row) es
        t.peers = (s.peers.map fun p => { p with entries := fresh p.entries })
        ∧ ((s.link.demand = none ∨ ∃ f, s.link.demand = some f ∧ f.frozen = true) →
            t.link.demand = s.link.demand ∧ t.link.backlog = fresh s.link.backlog)
        ∧ ∀ f, s.link.demand = some f → f.frozen = false →
          (∀ k, k < f.demands.length → (∀ j, j < k → t.isStale f.seq (f.first + j) = true) →
            t.isStale f.seq (f.first + k) = false →
            t.link.demand = some { f with first := f.first + k, demands := f.demands.drop k }
            ∧ t.link.backlog = fresh s.link.backlog)
          ∧ ((∀ j, j < f.demands.length → t.isStale f.seq (f.first + j) = true) →
            let formed := formDemand { t with link := { t.link with demand := none, backlog := fresh s.link.backlog } }
            t.link.demand = formed.link.demand ∧ t.link.backlog = formed.link.backlog))

/-! ## Forms, bars and drawing -/

/-- The bars of a good value: bar k is formed by run 2k − 1, begins where Equation (5-3) places it, and is narrowed
at its trailing edge by Equation (5-4) (R79). Every bar is at least 1 dot wide, lies within the symbol's extent,
and ends before the next begins (R78, R79). -/
def Obligations.BarGeometry : Prop :=
  ∀ (m r : Nat) (runs : List Nat), 1 ≤ m → r ≤ 3 → (∀ x ∈ runs, 1 ≤ x) →
    let spans := barSpans m (effectiveReduction m r) 0 runs
    effectiveReduction m r = min r (m - 1) ∧ barExtent m runs = m * runs.sum
    ∧ spans.length = (runs.length + 1) / 2
    ∧ (∀ k x, runs[2 * k]? = some x →
        spans[k]? = some (m * (runs.take (2 * k)).sum, m * x - effectiveReduction m r))
    ∧ (∀ b ∈ spans, 1 ≤ b.2 ∧ b.1 + b.2 ≤ m * runs.sum) ∧ spans.Pairwise fun b c => b.1 + b.2 < c.1

/-- Steps 1 and 2 of a load, and what an element of step 3 needs (R38 to R40, R43, R52, R75). A form not yet looked
up is looked up, and one found is read; a number 0, a number not catalogued or an object of another kind fails with
Missing object. A form of no element, of more than 128, or with a record of unknown kind among those it counts
fails with Bad form before any element is examined; the records follow one another by the sizes of section 12.5,
their common fields clamped (R39) and their kind-specific fields read and clamped (R40, R75). The load then goes on
from the elements it has examined. A Text, and a Graphic whose corner does not lie right of the slice (log 32), is
looked up, and an object found of its kind is read; the number 0 names no object. What was found of the number of a
STORE-END or STORE-DELETE being served is looked up again, the model's choice (log 22). -/
def Obligations.LoadFailures : Prop :=
  (∀ (served : Option Nat) (form : Nat) (inp : LoadInput) (found : List Found) (l : Load),
    let k := runLoad served form inp found l
    let stays := fun (status : LoadStatus) =>
      k = { l with status := status, found := found, lookupWaits := false }
    (form = 0 → stays (.failed .missingObject))
    ∧ (form ≠ 0 → (∀ f ∈ found, f.number ≠ form) → stays (.lookup form))
    ∧ ∀ f, form ≠ 0 → found.find? (fun f => f.number = form) = some f →
      ((∀ e ∈ f.entry, e.kind ≠ .form) → stays (.failed .missingObject))
      ∧ ∀ e, f.entry = some e → e.kind = .form →
        (f.content = none → stays (.read form))
        ∧ (f.content = some (.form none) → stays (.failed .badForm))
        ∧ ∀ body, f.content = some (.form (some body)) → formOf form found = .ok body
            ∧ (let r := examineFrom served inp found body.height l.examined (body.elements.drop l.examined)
                 { table := l.table, fieldClipped := l.fieldClipped, substituted := l.substituted }
               k = { ctx := l.ctx, status := r.1, found := found, examined := r.2.2, table := r.2.1.table,
                     fieldClipped := r.2.1.fieldClipped, substituted := r.2.1.substituted,
                     lookupWaits := false }))
  ∧ (∀ (m : Memory) (e : CatEntry),
    let count := (bodyByte m e 2).toNat
    (readForm m e = none ↔ count = 0 ∨ 128 < count
      ∨ ∃ k o, k < count ∧ recordOffset m e k = some o ∧ recordSize m e o = none)
    ∧ ∀ body, readForm m e = some body →
      body.height = max 1 (min 4800 (bodyHalf m e 0)) ∧ body.elements.length = count
      ∧ ∀ k o el, recordOffset m e k = some o → body.elements[k]? = some el →
          let b := fun i => (bodyByte m e (o + i)).toNat
          let half := fun i => bodyHalf m e (o + i)
          el.x = min 2559 (half 2) ∧ el.y = min 4799 (half 4) ∧ (el.mode = .black ↔ b 1 = 0)
          ∧ (b 0 ≠ 2 → el.rotation = .r0)
          ∧ (b 0 = 2 → el.rotation = if b 6 = 1 then .r90 else if b 6 = 2 then .r180 else if b 6 = 3 then .r270
              else .r0)
          ∧ (b 0 = 1 → el.body = .box (max 1 (min 2560 (half 7))) (max 1 (min 4800 (half 9))) (b 11))
          ∧ (b 0 = 2 → el.body = .text (b 7)
              (if b 8 = 0 then .literal ((List.range (min (b 13) 64)).map fun i => bodyByte m e (o + 14 + i))
               else .field (b 9))
              (max 1 (min 4 (b 10))) (max 1 (min 4 (b 11))) (max 1 (min 240 (b 12))))
          ∧ (b 0 = 3 → el.body = .bars (b 7) (max 1 (min 10 (b 8))) (max 1 (min 4800 (half 9))) (min 3 (b 11))
              (if b 12 = 1 then .ladder else .picket))
          ∧ (b 0 = 4 → el.body = .graphic (b 7)))
  ∧ ∀ (served : Option Nat) (inp : LoadInput) (found : List Found) (h index : Nat) (el : Element) (els : List Element)
      (acc : LoadAcc),
    let r := examineFrom served inp found h index (el :: els) acc
    let examined := fun (obj : Option Found) => match examine inp h index el obj acc with
      | .ok acc' => examineFrom served inp found h (index + 1) els acc'
      | .error reason => (.failed reason, acc, index)
    let needs := fun (n : Nat) (kind : ObjKind) =>
      ((∃ source mx my maxChars, el.body = .text n source mx my maxChars) ∧ kind = .glyphSet)
      ∨ (el.body = .graphic n ∧ el.x ≤ 640 * inp.number + 639 ∧ kind = .graphic)
    ((∀ n kind, ¬needs n kind) → r = examined none)
    ∧ ∀ n kind, needs n kind →
      (n = 0 → r = examined none)
      ∧ (n ≠ 0 → (served = some n ∨ ∀ f ∈ found, f.number ≠ n) → r = (.lookup n, acc, index))
      ∧ ∀ f, n ≠ 0 → served ≠ some n → found.find? (fun f => f.number = n) = some f →
        (f.entry = none → r = examined none)
        ∧ ∀ e, f.entry = some e →
          ((e.kind ≠ kind ∨ ∃ bs, f.content = some (.lead bs)) → r = examined (some f))
          ∧ (e.kind = kind → (∀ bs, f.content ≠ some (.lead bs)) → r = (.read n, acc, index))

/-- Step 3 of a load for one element (R44 to R50, R76 to R83). Its box, from its own sizes, its bound text's or its
graphic's, or to the right and bottom edges when its object is absent or its value bad, is clipped to the label
(Equation (3-3)). An element whose clipped box is empty or misses the slice is passed over; another is entered at
the table's tail, or fails the load with Missing object or Bad bars. Field clipped and Substituted are found in
either case. The table grows in form order, by elements examined, and the load is done when all are. -/
def Obligations.ElementsEntered : Prop :=
  (∀ (inp : LoadInput) (h index : Nat) (el : Element) (obj : Option Found) (acc : LoadAcc),
    let wide := 640 * inp.n
    let result := fun (w hgt : Nat) (part : Except Reason Part) (clipped subst : Bool) =>
      let found : LoadAcc := { acc with fieldClipped := acc.fieldClipped || clipped,
                                        substituted := acc.substituted || subst }
      let right := min (el.x + w - 1) (wide - 1)
      if w = 0 ∨ hgt = 0 ∨ wide ≤ el.x ∨ h ≤ el.y ∨ 640 * inp.number + 639 < el.x ∨ right < 640 * inp.number then
        (.ok found : Except Reason LoadAcc)
      else match part with
        | .ok p => .ok { found with table := acc.table ++ [{
            index := index, mode := el.mode, x := el.x, y := el.y, c0 := el.x, c1 := right, r0 := el.y,
            r1 := min (el.y + hgt - 1) (h - 1), part := p }] }
        | .error reason => .error reason
    (∀ w hgt t, el.body = .box w hgt t →
      examine inp h index el obj acc = result w hgt (.ok (.box w hgt t)) false false)
    ∧ (∀ number source mx my maxChars, el.body = .text number source mx my maxChars →
        let value := match source with
          | .literal bs => bs
          | .field k => fieldValue inp.fields k
        let clipped := decide (maxChars < value.length)
        (∀ f e bs, obj = some f → f.entry = some e → e.kind = .glyphSet → f.content = some (.lead bs) →
          let gh := max 1 (bs.getD 0 0).toNat
          let chars : List TextChar := (value.take maxChars).map fun b =>
            if (bs.getD (1 + b.toNat / 8) 0).getLsbD (7 - b.toNat % 8) then
              { code := b.toNat, advance := max 1 (bs.getD (33 + b.toNat) 0).toNat, substituted := false }
            else { code := b.toNat, advance := gh / 2, substituted := true }
          let wt := mx * (chars.map TextChar.advance).sum
          let ht := my * gh
          let upright := el.rotation = .r0 ∨ el.rotation = .r180
          examine inp h index el obj acc = result (if upright then wt else ht) (if upright then ht else wt)
            (.ok (.text el.rotation mx my ⟨e.number, e.generation⟩ gh wt ht chars)) clipped
            (chars.any TextChar.substituted))
        ∧ ((∀ f ∈ obj, ∀ e ∈ f.entry, e.kind ≠ .glyphSet) → examine inp h index el obj acc
            = result (2560 - el.x) (4800 - el.y) (.error .missingObject) clipped false))
    ∧ (∀ number, el.body = .graphic number →
        (∀ f e bs, obj = some f → f.entry = some e → e.kind = .graphic → f.content = some (.lead bs) →
          let w := max 1 (min 2560 (256 * (bs.getD 0 0).toNat + (bs.getD 1 0).toNat))
          let hgt := max 1 (min 4800 (256 * (bs.getD 2 0).toNat + (bs.getD 3 0).toNat))
          examine inp h index el obj acc
            = result w hgt (.ok (.graphic ⟨e.number, e.generation⟩ w hgt)) false false)
        ∧ ((∀ f ∈ obj, ∀ e ∈ f.entry, e.kind ≠ .graphic) → examine inp h index el obj acc
            = result (2560 - el.x) (4800 - el.y) (.error .missingObject) false false))
    ∧ ∀ field m len r dir, el.body = .bars field m len r dir →
        let value := fieldValue inp.fields field
        let runs := value.map fun b => b.toNat - 48
        let ext := m * runs.sum
        let across := if value = [] then 0 else len
        let spans := barSpans m (min r (m - 1)) 0 runs
        let meets := fun k => ∃ b, 1 ≤ k ∧ spans[k - 1]? = some b ∧ el.x + b.1 < wide
          ∧ el.x + b.1 ≤ 640 * inp.number + 639 ∧ 640 * inp.number ≤ min (el.x + b.1 + b.2 - 1) (wide - 1)
        ((∀ b ∈ value, 49 ≤ b.toNat ∧ b.toNat ≤ 52) →
          (dir = .picket → ∃ sl,
            ((sl = none ∧ ∀ k, ¬meets k)
              ∨ ∃ low high, sl = some (low, high) ∧ meets low ∧ meets high ∧ ∀ k, meets k → low ≤ k ∧ k ≤ high)
            ∧ examine inp h index el obj acc = result ext across
                (.ok (.bars .picket m len r (min r (m - 1)) runs ext ((runs.length + 1) / 2) sl)) false false)
          ∧ (dir = .ladder → examine inp h index el obj acc = result across ext
                (.ok (.bars .ladder m len r (min r (m - 1)) runs ext ((runs.length + 1) / 2) none)) false false))
        ∧ ((∃ b ∈ value, b.toNat < 49 ∨ 52 < b.toNat) → examine inp h index el obj acc
            = result (if dir = .picket then 2560 - el.x else len) (if dir = .picket then len else 4800 - el.y)
                (.error .badBars) false false))
  ∧ ∀ (served : Option Nat) (inp : LoadInput) (found : List Found) (h index : Nat) (els : List Element) (acc : LoadAcc),
    let r := examineFrom served inp found h index els acc
    index ≤ r.2.2 ∧ r.2.2 ≤ index + els.length ∧ (r.1 = .done ↔ r.2.2 = index + els.length)
    ∧ ∃ new, r.2.1.table = acc.table ++ new ∧ new.Pairwise (fun a b => a.index < b.index)
      ∧ ∀ e ∈ new, index ≤ e.index ∧ e.index < r.2.2
          ∧ ∃ el, els[e.index - index]? = some el ∧ e.mode = el.mode ∧ e.x = el.x ∧ e.y = el.y

/-- The dots an entry covers on a row, within its clipped box and the slice: a Box's border band or all of it
(R70), a Text's glyph ink by the rotation's table (R71), a Graphic's image row (R72), the slice bars of a Picket
symbol (R84), and the bar of a Ladder symbol that the row lies in, whatever earlier row its cursor stands for
(R85). Black sets them and Reverse inverts them (R69). A reference with no object to find, as in a render whose reads
were cut off (R64), covers no dot. -/
def Obligations.ElementDots : Prop :=
  ∀ (m : Memory) (cat : List CatEntry) (number r lc cursor : Nat) (e : TableEntry) (image : Dots), lc < 640 →
    let c := 640 * number + lc
    let cc := c - e.x
    let rr := r - e.y
    let draws := fun (cursor : Nat) (covered : Prop) =>
      ((applyEntry m cat number r image { entry := { e with mode := .black }, cursor := cursor }).getLsbD lc = true
        ↔ image.getLsbD lc = true ∨ (e.c0 ≤ c ∧ c ≤ e.c1 ∧ covered))
      ∧ ((applyEntry m cat number r image { entry := { e with mode := .reverse }, cursor := cursor }).getLsbD lc = true
        ↔ ¬(image.getLsbD lc = true ↔ (e.c0 ≤ c ∧ c ≤ e.c1 ∧ covered)))
    (∀ w h th, e.part = .box w h th →
      draws cursor (th = 0 ∨ cc < th ∨ w ≤ cc + th ∨ rr < th ∨ h ≤ rr + th))
    ∧ (∀ rot mx my ref gh wt ht chars, e.part = .text rot mx my ref gh wt ht chars →
        let u := match rot with | .r0 => cc | .r90 => rr | .r180 => wt - 1 - cc | .r270 => wt - 1 - rr
        let v := match rot with | .r0 => rr | .r90 => ht - 1 - cc | .r180 => ht - 1 - rr | .r270 => cc
        (∀ o, refFind cat ref = some o →
          let lead := (List.range 289).map (bodyByte m o)
          draws cursor (∃ k ch, chars[k]? = some ch ∧ ch.substituted = false
            ∧ (let left := mx * ((chars.take k).map TextChar.advance).sum
               let col := (u - left) / mx
               let base := 289 + (((List.range ch.code).filter (glyphDefined lead)).map fun d =>
                 glyphHeight lead * ((glyphAdvance lead d + 7) / 8)).sum
               left ≤ u ∧ u < left + mx * ch.advance
               ∧ (bodyByte m o (base + (v / my) * ((ch.advance + 7) / 8) + col / 8)).getLsbD (7 - col % 8) = true)))
        ∧ (refFind cat ref = none → draws cursor False))
    ∧ (∀ ref w h, e.part = .graphic ref w h →
        (∀ o, refFind cat ref = some o → draws cursor
          ((bodyByte m o (4 + rr * ((w + 7) / 8) + cc / 8)).getLsbD (7 - cc % 8) = true))
        ∧ (refFind cat ref = none → draws cursor False))
    ∧ (∀ mw h red re runs ext n sl, e.part = .bars .picket mw h red re runs ext n sl →
        (sl = none → draws cursor False)
        ∧ ∀ low high, sl = some (low, high) → 1 ≤ low → draws cursor (∃ k b, low ≤ k ∧ k ≤ high
            ∧ (barSpans mw re 0 runs)[k - 1]? = some b ∧ b.1 ≤ cc ∧ cc < b.1 + b.2))
    ∧ ∀ mw h red re runs ext n sl, e.part = .bars .ladder mw h red re runs ext n sl → 1 ≤ mw → re < mw →
        (∀ x ∈ runs, 1 ≤ x) → 1 ≤ cursor →
        (∀ k b, k + 1 < cursor → (barSpans mw re 0 runs)[k]? = some b → b.1 + b.2 ≤ rr) →
        draws (cursorFor e cursor r) (∃ b ∈ barSpans mw re 0 runs, b.1 ≤ rr ∧ rr < b.1 + b.2)

/-- What the rasterizer does when an event lets it go on (R60 to R62, R65 to R68). While it renders, nothing. Idle
with no position, it takes row 0 of a next context none of whose rows is rendered (log 11). A row its running label
has already taken is passed. The row at the position is begun when the lead holds fewer than 5 slots and the label
is running, or is next with no load in progress: blank for a placeholder, an absent H or a mark, and otherwise from
the lists updated for the row. A row reads the store for each graphic it crosses and for the glyph rows it crosses,
at 90 and 270 those whose dots fall in the slice; a substituted blank has none (R71 to R73), and a read past the
object's last sector is not made (R178). That at rotations 0 and 180 any character with a glyph makes a row read the
store, outside the slice too, and that a glyph or graphic row is read when its first byte is before that end, is the
model's choice (log 23, DESIGN CHOICE): section 4.10 counts only the glyphs that fall in the slice. The pending list
is the table by first row in form order; the lists are updated by the three steps of R68. At a TOF the position
moves to the started label's first row not yet rendered. -/
def Obligations.RasterBegins : Prop :=
  (∀ s : State,
    let u := advanceRaster s
    let moved := fun (p : Option Position) => ({ s with raster :=
      { s.raster with position := p, pending := [], active := [] } } : State)
    (s.raster.rendering ≠ none → u = s)
    ∧ (s.raster.rendering = none → s.raster.position = none →
        (s.nextCtx = none → u = s)
        ∧ ∀ i, s.nextCtx = some i → u = if (s.ctx i).rendered = 0 then advanceRaster (moved (some ⟨i, 0⟩)) else s)
    ∧ ∀ p, s.raster.rendering = none → s.raster.position = some p →
      let c := s.ctx p.ctx
      let passed := (c.state = .running ∨ c.state = .ending) ∧ p.row < c.taken
      let mayBegin := s.ring.lead.length < 5
        ∧ (c.state = .running ∨ ((c.state = .loading ∨ c.state = .armed) ∧ s.loadingCtx p.ctx = false))
      let drawn := c.kind = .job ∧ c.h ≠ none ∧ c.voided = none ∧ c.cancelled = false
      let lists := if p.row = 0 ∧ drawn then (pendingList c.table, []) else (s.raster.pending, s.raster.active)
      let begun := fun (render : Render) (g : List TableEntry × List ActiveEntry) => ({ s with
        raster := { rendering := some render, position := some p, pending := g.1, active := g.2 },
        ring := { s.ring with lead := s.ring.lead ++ [{ state := .rendering, seq := c.seq, row := some p.row,
                                                        image := 0, demand := 0, fired := 0 }] } } : State)
      (passed → u = if c.taken ≤ (match c.h with | some h => h - 1 | none => 4) then
          advanceRaster { s with raster := { s.raster with position := some ⟨p.ctx, c.taken⟩ } }
        else advanceRaster (moved (if (s.ctx p.ctx.other).isNext then some ⟨p.ctx.other, 0⟩ else none)))
      ∧ (¬passed → ¬mayBegin →
          u = { s with raster := { s.raster with pending := lists.1, active := lists.2 } })
      ∧ (¬passed → mayBegin → drawn →
          let g := updateLists p.row lists.1 lists.2
          ∃ reads, u = begun { ctx := p.ctx, seq := c.seq, row := p.row, drawn := true, reads := reads, cut := false } g
            ∧ ((∀ a ∈ g.2, a.entry.c0 ≤ a.entry.c1 ∧ a.entry.c0 ≤ 640 * s.number + 639 ∧ 640 * s.number ≤ a.entry.c1) →
              (reads = true ↔ ∃ a ∈ g.2, ∃ ref o,
                s.store.catalog.find? (fun x => decide (x.number = ref.number ∧ x.generation = ref.generation)) = some o
                ∧ let rr := p.row - a.entry.y
                  let inSectors := fun b => 64 + b < 16384 * o.count
                  (∃ w h, a.entry.part = .graphic ref w h ∧ inSectors (4 + rr * ((w + 7) / 8)))
                  ∨ ∃ rot mx my gh wt ht chars, a.entry.part = .text rot mx my ref gh wt ht chars
                    ∧ ∃ k ch v, chars[k]? = some ch ∧ ch.substituted = false
                      ∧ (let lead := (List.range 289).map (bodyByte s.store.memory o)
                         let base := 289 + (((List.range ch.code).filter (glyphDefined lead)).map fun d =>
                           glyphHeight lead * ((glyphAdvance lead d + 7) / 8)).sum
                         inSectors (base + (v / my) * ((ch.advance + 7) / 8)))
                      ∧ (rot = .r0 → v = rr) ∧ (rot = .r180 → v = ht - 1 - rr)
                      ∧ (rot = .r90 ∨ rot = .r270 →
                          (∃ c, a.entry.c0 ≤ c ∧ c ≤ a.entry.c1 ∧ 640 * s.number ≤ c ∧ c ≤ 640 * s.number + 639
                            ∧ v = if rot = .r90 then ht - 1 - (c - a.entry.x) else c - a.entry.x)
                          ∧ (let u := if rot = .r90 then rr else wt - 1 - rr
                             let left := mx * ((chars.take k).map TextChar.advance).sum
                             left ≤ u ∧ u < left + mx * ch.advance)))))
      ∧ (¬passed → mayBegin → ¬drawn →
          u = begun { ctx := p.ctx, seq := c.seq, row := p.row, drawn := false, reads := false,
                      cut := false } ([], [])))
  ∧ (∀ table : List TableEntry, (pendingList table).Pairwise (fun a b => a.r0 ≤ b.r0)
      ∧ ∀ r, (pendingList table).filter (fun e => decide (e.r0 = r)) = table.filter fun e => decide (e.r0 = r))
  ∧ (∀ (r : Nat) (pending : List TableEntry) (active : List ActiveEntry),
      pending.Pairwise (fun a b => a.r0 ≤ b.r0) →
      let g := updateLists r pending active
      g.1 = pending.filter (fun e => decide (r < e.r0))
      ∧ (active.Pairwise (fun a b => a.entry.index ≤ b.entry.index) →
          g.2.Pairwise fun a b => a.entry.index ≤ b.entry.index)
      ∧ ∀ a, a ∈ g.2 ↔ ∃ k, a.cursor = cursorFor a.entry k r ∧ r ≤ a.entry.r1
          ∧ ((⟨a.entry, k⟩ : ActiveEntry) ∈ active ∨ (k = 1 ∧ a.entry ∈ pending ∧ a.entry.r0 ≤ r)))
  ∧ ∀ (s : State) (i : CtxId),
    let c := s.ctx i
    ((∃ row, s.raster.position = some ⟨i, row⟩) → moveToStarted s i = s)
    ∧ ((∀ row, s.raster.position ≠ some ⟨i, row⟩) → moveToStarted s i = { s with raster := { s.raster with
        position := if c.rendered ≤ (match c.h with | some h => h - 1 | none => 4) then some ⟨i, c.rendered⟩
          else if (s.ctx i.other).isNext then some ⟨i.other, 0⟩ else none,
        pending := [], active := [] } })

/-! ## JOB, CANCEL and VOID -/

/-- The field list of a JOB (R4): the last entry of a number from 1 to 16 stands, other numbers are dropped, and a
number with no entry reads as the empty value. -/
def Obligations.JobFieldsResolve : Prop :=
  ∀ (entries : List Field) (n : Nat),
    ((resolveFields entries).Pairwise fun f g => f.number ≠ g.number)
    ∧ (∀ f ∈ resolveFields entries, 1 ≤ f.number ∧ f.number ≤ 16 ∧ f ∈ entries)
    ∧ (1 ≤ n → n ≤ 16 → fieldValue (resolveFields entries) n
        = match (entries.filter fun f => f.number = n).getLast? with
          | some f => f.value
          | none => [])

/-- A JOB taken in ACTIVE while the station is unsynchronised, or in order with room in the queue, joins the
tail of the queue, voided Peer void when its seq is the pre-void seq, which is then cleared (R5, R6, R14). No
VOID is sent and nothing is counted or recorded. Arming then takes the queue's head into a Free record when no
context holds it, and begins the load of a Job without a mark (R21, R43; record A first, log 9); arming does the
same after every event that may allow it. -/
def Obligations.JobQueued : Prop :=
  (∀ (s : State) (seq form darkness : Nat) (entries : List Field) (rest : List CommandFrame),
    s.station = .active → s.link.commandQueue = .job seq form darkness entries :: rest → seq ≠ 0 →
    ((s.seq.lc = 0 ∧ s.seq.queue = [])
      ∨ (¬(s.seq.lc = 0 ∧ s.seq.queue = []) ∧ s.seq.queue.length < 4
          ∧ seqDistance seq (match s.seq.queue.getLast? with
                             | some e => nextSeq e.seq
                             | none => nextSeq s.seq.lc) = 0)) →
    ∃ t, exec .job s = .next t
      ∧ t = { s with seq := t.seq, ctxA := t.ctxA, ctxB := t.ctxB, loader := t.loader, raster := t.raster,
                     ring := { s.ring with lead := t.ring.lead }, link := { s.link with commandQueue := rest } }
      ∧ t.seq = { s.seq with
          queue := s.seq.queue ++ [{ seq := seq, kind := .job, form := some form, darkness := some darkness,
                                     fields := resolveFields entries,
                                     voided := if s.seq.preVoid = seq then some .peerVoid else none,
                                     cancelled := false }],
          preVoid := if s.seq.preVoid = seq then 0 else s.seq.preVoid }
      ∧ s.ArmsHead t.seq.queue t)
  ∧ ∀ s : State, s.station = .active →
    s.ArmsHead s.seq.queue (arm s)
    ∧ (s.seq.queue = [] → arm s = s)
    ∧ arm s = { s with ctxA := (arm s).ctxA, ctxB := (arm s).ctxB, loader := (arm s).loader }

/-- A gap JOB (R8, R12, R14) makes one placeholder for each missing seq in ascending order, as far as the queue has
room: Missed with its VOID sent, or Peer void without one when it is the pre-void seq. With room left the JOB is
queued behind them; when the placeholders fill the queue, or it was full, the JOB is refused with Queue full (R9).
Lc is unchanged. Arming then goes on as after any JOB. -/
def Obligations.JobGap : Prop :=
  ∀ (s : State) (seq form darkness : Nat) (entries : List Field) (rest : List CommandFrame) (k : Nat),
    s.station = .active → s.link.commandQueue = .job seq form darkness entries :: rest → seq ≠ 0 →
    ¬(s.seq.lc = 0 ∧ s.seq.queue = []) → seqDistance seq s.seq.expected = k → 1 ≤ k → k ≤ 32767 →
    s.seq.queue.length ≤ 4 → s.link.voidQueue.length ≤ 4 →
    let made := (List.range (min k (4 - s.seq.queue.length))).map fun j => nextSeq^[j] s.seq.expected
    let fits := s.seq.queue.length + k < 4
    let voids := (made.filter fun q => decide (q ≠ s.seq.preVoid)).map fun q => (⟨q, .missed⟩ : VoidFrame)
    ∃ t, exec .job s = .next t
      ∧ t.seq = { s.seq with
          queue := s.seq.queue
            ++ (made.map fun q => placeholderEntry q (if s.seq.preVoid = q then .peerVoid else .missed))
            ++ (if fits then [{
                  seq := seq, kind := .job, form := some form, darkness := some darkness,
                  fields := resolveFields entries,
                  voided := if s.seq.preVoid = seq ∧ seq ∉ made then some .peerVoid else none,
                  cancelled := false }] else []),
          preVoid := if s.seq.preVoid ∈ made ∨ (fits ∧ s.seq.preVoid = seq) then 0 else s.seq.preVoid }
      ∧ t.link.voidQueue = (s.link.voidQueue ++ voids).take 4
      ∧ (s.link.voidQueue.length + voids.length ≤ 4 → t.link.counts = s.link.counts)
      ∧ (4 < s.link.voidQueue.length + voids.length → Cond.framesDropped.isIn t.report.values = true)
      ∧ (fits → t.report.queue = s.report.queue)
      ∧ (¬fits → s.report.queue.length < 8 → t.report.queue = s.report.queue ++
          [.label { seq := seq, outcome := .refused, reason := some .queueFull, completed := 0, trimmed := 0,
                    miss := 0, light := false, fieldClipped := false, substituted := false, truncated := false }])
      ∧ (¬fits → 8 ≤ s.report.queue.length →
          t.report.queue = s.report.queue ∧ Cond.reportsDropped.isIn t.report.values = true)
      ∧ s.ArmsHead t.seq.queue t
      ∧ t = { s with
          seq := t.seq, ctxA := t.ctxA, ctxB := t.ctxB, loader := t.loader, raster := t.raster,
          ring := { s.ring with lead := t.ring.lead },
          link := { s.link with
            commandQueue := rest, voidQueue := t.link.voidQueue, tx := t.link.tx,
            counts := { s.link.counts with dropped := t.link.counts.dropped } },
          report := t.report }

/-- A stale JOB, or one of seq 0, leaves the command queue and changes the stale count alone (R4, R7). A JOB in
UNSET is refused Not set up, and one in order that finds the queue full is refused Queue full: it leaves the
command queue, its refusal record is handed to the report queue, and nothing else changes but what the idle
rasterizer begins; in ACTIVE the queue's head is held or no record is Free (R3, R6, R8, R9, R21). In OUTSIDE a JOB
is ignored (R3). -/
def Obligations.JobNotQueued : Prop :=
  ∀ (s : State) (seq form darkness : Nat) (entries : List Field) (rest : List CommandFrame),
    s.link.commandQueue = .job seq form darkness entries :: rest →
    let took : State := { s with link := { s.link with commandQueue := rest } }
    let refusal := fun (why : Reason) => Record.label {
      seq := seq, outcome := .refused, reason := some why, completed := 0, trimmed := 0, miss := 0, light := false,
      fieldClipped := false, substituted := false, truncated := false }
    (s.station = .active →
      (seq = 0 ∨ (¬(s.seq.lc = 0 ∧ s.seq.queue = []) ∧ 32768 ≤ seqDistance seq s.seq.expected)) →
      exec .job s = .next { took with link := { took.link with
        counts := { s.link.counts with stale := min (s.link.counts.stale + 1) 65535 } } })
    ∧ (s.station = .outside → exec .job s = .next took)
    ∧ (s.station = .unset → ∃ t, exec .job s = .next t ∧ RecordHanded took (refusal .notSetUp) t)
    ∧ (s.station = .active → seq ≠ 0 → 4 ≤ s.seq.queue.length → seqDistance seq s.seq.expected ≤ 32767 →
        ((∀ e ∈ s.seq.queue.head?, s.headHeld e = true) ∨ (s.ctxA.state ≠ .free ∧ s.ctxB.state ≠ .free)) →
        ∃ t u, exec .job s = .next t ∧ RecordHanded took (refusal .queueFull) u ∧ t = advanceRaster u
          ∧ t = { u with raster := t.raster, ring := { u.ring with lead := t.ring.lead } })

/-- A CANCEL of a seq in ACTIVE marks every holder of that label Cancelled (R15), sends no VOID and counts nothing;
a row in flight of the label begins no further pulse (R128), and a load in progress of it stops and gives up its
hold (R24, R53), another label's going on. A row in its load or latch ends at once: its slot enters History, its
label takes the row's findings, and the label of such a row in Ending completes with its record (R32, R34). Another
label's context stays as it is, and a Free record stays Free or is armed (R21). A CANCEL of a seq that is held
nowhere, or in UNSET or OUTSIDE, changes nothing. -/
def Obligations.CancelMarks : Prop :=
  ∀ (s : State) (seq : Nat) (rest : List CommandFrame),
    s.station ≠ .starting → s.link.commandQueue = .cancel seq :: rest → seq ≠ 0 →
    (s.station = .active → s.labelHeld seq = true → ∃ t, exec .cancel s = .next t
      ∧ t.seq = { s.seq with queue := s.seq.queue.map fun e =>
          if e.seq = seq then { e with cancelled := true } else e }
      ∧ t = { s with
          seq := t.seq, ctxA := t.ctxA, ctxB := t.ctxB, loader := t.loader, raster := t.raster, ring := t.ring,
          plan := t.plan, head := t.head, link := { s.link with commandQueue := rest, tx := t.link.tx },
          report := t.report, store := { t.store with
          memory := s.store.memory, catalog := s.store.catalog, sectors := s.store.sectors, write := s.store.write } }
      ∧ ((∀ p, s.plan = some p → p.seq = seq → p.step.stage = .strobe) →
          ∀ i, (s.ctx i).holds seq = true → t.ctx i = { s.ctx i with cancelled := true })
      ∧ (∀ p i, s.plan = some p → p.seq = seq → s.RowEndsAtOnce i { s.ctx i with cancelled := true } t)
      ∧ (∀ j, (s.ctx j).holds seq = false →
          ((s.ctx j).state ≠ .free → t.ctx j = s.ctx j)
          ∧ ((s.ctx j).state = .free → t.ctx j = s.ctx j ∨ ∃ e rest', t.seq.queue = e :: rest'
              ∧ t.ctx j = { Context.free with
                  state := .loading, seq := e.seq, kind := e.kind, form := e.form, darkness := e.darkness,
                  fields := e.fields, voided := e.voided, cancelled := e.cancelled }))
      ∧ (∀ p, t.plan = some p → p.seq = seq → p.step.stage = .strobe ∧ p.stopping = true)
      ∧ (∀ l, s.loader = some l → (s.ctx l.ctx).seq = seq → (s.ctx l.ctx).state = .loading →
          t.store.holdLoader = false ∧ ∀ k ∈ t.loader, k.ctx ≠ l.ctx)
      ∧ ∀ l, s.loader = some l → (s.ctx l.ctx).seq ≠ seq → (∀ e ∈ s.seq.queue.head?, s.headHeld e = true) →
          t.loader = some l ∧ t.store = s.store)
    ∧ ((s.station ≠ .active ∨ s.labelHeld seq = false) →
        exec .cancel s = .next { s with link := { s.link with commandQueue := rest } })

/-- CANCEL with seq 0 in ACTIVE marks every label held (R16): every entry of the queue, and both contexts. A row in
its load or latch ends at once: its slot enters History, its label takes the row's findings, and the label of such a
row in Ending completes with its record (R32, R34, R128). Lc, the queue's order and the pre-void seq stay. No plan
in flight begins a further pulse (R128), a load in progress stops and gives up its hold, and none begins (R24, R53).
In UNSET and OUTSIDE it leaves the command queue and has no other effect (R15, R168); in STARTING no command is
taken. -/
def Obligations.CancelAllMarks : Prop :=
  ∀ (s : State) (rest : List CommandFrame), s.link.commandQueue = .cancel 0 :: rest →
    (s.station = .unset ∨ s.station = .outside →
      exec .cancelAll s = .next { s with link := { s.link with commandQueue := rest } })
    ∧ (s.station = .starting → exec .cancelAll s = .next s)
    ∧ (s.station = .active → ∃ t, exec .cancelAll s = .next t
      ∧ t.seq = { s.seq with queue := s.seq.queue.map fun e => { e with cancelled := true } }
      ∧ t.loader = none ∧ (s.loader ≠ none → t.store.holdLoader = false)
      ∧ t = { s with
          seq := t.seq, ctxA := t.ctxA, ctxB := t.ctxB, loader := none, raster := t.raster, ring := t.ring,
          plan := t.plan, head := t.head, link := { s.link with commandQueue := rest, tx := t.link.tx },
          report := t.report, store := { t.store with
          memory := s.store.memory, catalog := s.store.catalog, sectors := s.store.sectors, write := s.store.write } }
      ∧ ((∀ p, s.plan = some p → p.step.stage = .strobe) →
          ∀ i, (s.ctx i).state ≠ .free → t.ctx i = { s.ctx i with cancelled := true })
      ∧ (∀ i, s.RowEndsAtOnce i { s.ctx i with cancelled := true } t)
      ∧ ∀ p, t.plan = some p → p.step.stage = .strobe ∧ p.stopping = true)

/-- A VOID frame for this station in ACTIVE (R13, R14): every holder of the label takes Peer void and keeps an
earlier reason, another label's context stays as it is, a Free record stays or is armed (R21), no VOID is sent, and
a load in progress of the label stops (R24, R53). A row of it in its load or latch ends at once: its slot enters
History, the label takes the row's findings, and completes with its record when it was in Ending (R32, R34, R128).
With the queue empty and the seq next(Lc) the pre-void seq is set and nothing else changes; any other seq is
ignored. In UNSET and OUTSIDE the VOID is ignored. The command VOID is the acceptance of such a frame (log 27),
which leaves the receiver between frames with the quiet count of the frame's last edge (log 3, log 15, log 24). -/
def Obligations.VoidMarks : Prop :=
  ∀ (s : State) (dest src : BitVec 4) (seq : BitVec 16) (reason : Byte),
    let f := checkedFrame (dest ++ src) 0x41#8 (encodeVoid seq.toNat reason)
    exec (.void dest src seq reason) s = exec (.frameAccepted f) s
    ∧ (s.link.canReceive = true → (dest.toNat = s.number ∨ dest = 15#4) → s.station ≠ .starting →
    let quietLink := { s.link with receiver := .ready, quiet := frameEndQuiet f }
    (s.station = .active → s.labelHeld seq.toNat = true →
      ∃ t, exec (.void dest src seq reason) s = .next t
        ∧ t.seq = { s.seq with queue := s.seq.queue.map fun e =>
            if e.seq = seq.toNat ∧ e.voided = none then { e with voided := some .peerVoid } else e }
        ∧ t = { s with
            seq := t.seq, ctxA := t.ctxA, ctxB := t.ctxB, loader := t.loader, raster := t.raster, ring := t.ring,
            plan := t.plan, head := t.head, link := { quietLink with tx := t.link.tx },
            report := t.report, store := { t.store with
          memory := s.store.memory, catalog := s.store.catalog, sectors := s.store.sectors, write := s.store.write } }
        ∧ ((∀ p, s.plan = some p → p.seq = seq.toNat → p.step.stage = .strobe) →
            ∀ i, (s.ctx i).holds seq.toNat = true →
              t.ctx i = { s.ctx i with voided := some ((s.ctx i).voided.getD .peerVoid) })
        ∧ (∀ p i, s.plan = some p → p.seq = seq.toNat →
            s.RowEndsAtOnce i { s.ctx i with voided := some ((s.ctx i).voided.getD .peerVoid) } t)
        ∧ (∀ j, (s.ctx j).holds seq.toNat = false →
            ((s.ctx j).state ≠ .free → t.ctx j = s.ctx j)
            ∧ ((s.ctx j).state = .free → t.ctx j = s.ctx j ∨ ∃ e rest', t.seq.queue = e :: rest'
                ∧ t.ctx j = { Context.free with
                    state := .loading, seq := e.seq, kind := e.kind, form := e.form, darkness := e.darkness,
                    fields := e.fields, voided := e.voided, cancelled := e.cancelled }))
        ∧ (∀ p, t.plan = some p → p.seq = seq.toNat → p.step.stage = .strobe ∧ p.stopping = true)
        ∧ (∀ l, s.loader = some l → (s.ctx l.ctx).seq = seq.toNat → (s.ctx l.ctx).state = .loading →
            t.store.holdLoader = false ∧ ∀ k ∈ t.loader, k.ctx ≠ l.ctx)
        ∧ ∀ l, s.loader = some l → (s.ctx l.ctx).seq ≠ seq.toNat →
            (∀ e ∈ s.seq.queue.head?, s.headHeld e = true) → t.loader = some l ∧ t.store = s.store)
    ∧ (s.station = .active → s.labelHeld seq.toNat = false → s.seq.queue = [] → s.seq.lc ≠ 0 →
        seq.toNat = nextSeq s.seq.lc →
        exec (.void dest src seq reason) s
          = .next { s with link := quietLink, seq := { s.seq with preVoid := seq.toNat } })
    ∧ ((s.station ≠ .active ∨ (s.labelHeld seq.toNat = false
          ∧ (s.seq.queue ≠ [] ∨ s.seq.lc = 0 ∨ seq.toNat ≠ nextSeq s.seq.lc))) →
        exec (.void dest src seq reason) s = .next { s with link := quietLink }))

/-! ## Top of form -/

/-- A TOF in ACTIVE that finds the queue head in an Armed context starts it (R10, R27): Lc takes its seq, the
head leaves the queue, the context enters Running with its own contents, and RDY is held low; while Hot it
starts voided Hot and VOID is sent, but a label that carries Voided keeps its reason and sends none (R11, R131). -/
def Obligations.TofStartsArmed : Prop :=
  ∀ (s : State) (e : JobEntry) (rest : List JobEntry) (i : CtxId),
    s.station = .active → s.seq.queue = e :: rest → (s.ctx i).state = .armed → (s.ctx i).seq = e.seq →
    (s.ctx i.other).state ≠ .armed → (s.ctx i.other).state ≠ .loading →
    ∃ t, exec .topOfForm s = .next t
      ∧ t.seq.lc = e.seq ∧ (t.seq.queue.map fun x => x.seq) = (rest.map fun x => x.seq)
      ∧ (let d := seqDistance s.seq.preVoid e.seq
         t.seq.preVoid = if d = 0 ∨ 32767 < d then 0 else s.seq.preVoid)
      ∧ t.lines.rdyReleased = false
      ∧ (s.thermal.hot = false → t.seq.queue = rest ∧ t.ctx i = { s.ctx i with state := .running }
          ∧ t.link.voidQueue = s.link.voidQueue)
      ∧ (s.thermal.hot = true → (s.ctx i).voided = none → s.labelVoided e.seq = false →
          t.ctx i = { s.ctx i with state := .running, voided := some .hot }
          ∧ (t.seq.queue = rest.map fun x =>
              if x.seq = e.seq ∧ x.voided = none then { x with voided := some .hot } else x)
          ∧ VoidPlaced s { seq := e.seq, reason := .hot } t)
      ∧ (s.thermal.hot = true → (s.ctx i).voided ≠ none → t.ctx i = { s.ctx i with state := .running }
          ∧ t.seq.queue = rest ∧ t.link.voidQueue = s.link.voidQueue ∧ t.link.counts = s.link.counts)
      ∧ t = { s with
          seq := t.seq, ctxA := t.ctxA, ctxB := t.ctxB, loader := t.loader, raster := t.raster, ring := t.ring,
          lines := { s.lines with rdyReleased := t.lines.rdyReleased }, link := s.link.withLabelTraffic t.link,
          peers := t.peers, report := t.report }

/-- A TOF in ACTIVE whose queue head is not in an Armed context starts it blank. One still loading (R28, R53): H
absent, no table, the load's flags clear, voided Not armed with its VOID, its load abandoned; the head leaves the
queue (R10). A label that carries Voided, as every placeholder does, keeps its reason and sends no VOID (R28); one
cancelled is voided all the same; a VOID that finds its queue full is dropped and counted (R139). A label's marks
stand on its context as on its entry (R11). A render of it in progress finishes without the object rows not yet read
(R64): which those are is the model's reading (log 19, DEDUCED), all of them when the render's hold does not stand
or its read waits, and none otherwise. One that no context holds, because no record was Free to arm it (R28): in the
record that the running label leaves at this TOF, without its fields (log 18), voided Not armed with its VOID. With
the queue empty the TOF starts a blank placeholder for next(Lc), voided No job with its VOID, or Peer void without
one when that is the pre-void seq (R29): in the record that is Free beside a label already in Ending, or once the
running label has completed or passed to Ending (R26); of two Free records it takes A (log 9). At each TOF Lc takes
the seq, and a pre-void seq that it is now at or past is cleared (R10, R14). -/
def Obligations.TofStartsBlank : Prop :=
  let preVoidAfter := fun (s : State) (n : Nat) =>
    let d := seqDistance s.seq.preVoid n
    if d = 0 ∨ 32767 < d then 0 else s.seq.preVoid
  (∀ (s : State) (e : JobEntry) (rest : List JobEntry) (i : CtxId),
    s.station = .active → s.seq.queue = e :: rest → (s.ctx i).state = .loading → (s.ctx i).seq = e.seq →
    (s.ctx i.other).state ≠ .armed → (s.ctx i.other).state ≠ .loading →
    (s.labelVoided e.seq = false ∨ (s.ctx i).voided ≠ none) →
    ∃ t, exec .topOfForm s = .next t
      ∧ t.seq = { s.seq with
          lc := e.seq, preVoid := preVoidAfter s e.seq,
          queue := rest.map fun x =>
            if (s.ctx i).voided = none ∧ x.seq = e.seq ∧ x.voided = none then { x with voided := some .notArmed } else x }
      ∧ (∀ r, s.raster.rendering = some r → t.raster.rendering = some (
          if r.ctx = i ∧ r.seq = e.seq ∧ r.reads = true ∧ (s.store.holdRaster = false ∨ s.store.waitRaster = true)
          then { r with reads := false, cut := true } else r))
      ∧ t.ctx i = { s.ctx i with
          state := .running, h := none, table := [], fieldClipped := false, substituted := false,
          voided := some ((s.ctx i).voided.getD .notArmed) }
      ∧ ((s.ctx i).voided = none → VoidPlaced s { seq := e.seq, reason := .notArmed } t)
      ∧ ((s.ctx i).voided ≠ none → t.link.voidQueue = s.link.voidQueue ∧ t.link.counts = s.link.counts)
      ∧ (∀ l, t.loader = some l → l.ctx ≠ i)
      ∧ t = { s with
          seq := t.seq, ctxA := t.ctxA, ctxB := t.ctxB, loader := t.loader, raster := t.raster, ring := t.ring,
          lines := { s.lines with rdyReleased := t.lines.rdyReleased },
          link := s.link.withLabelTraffic t.link, peers := t.peers, report := t.report, store := { t.store with
          memory := s.store.memory, catalog := s.store.catalog, sectors := s.store.sectors, write := s.store.write } })
  ∧ (∀ (s : State) (e : JobEntry) (rest : List JobEntry) (i : CtxId),
    s.station = .active → s.seq.queue = e :: rest → (s.ctx i).state = .running →
    (s.ctx i.other).state = .ending → (s.ctx i.other).seq ≠ e.seq →
    ((s.ctx i).h = none ∨ ∀ p ∈ s.plan, p.seq ≠ (s.ctx i).seq) →
    (s.labelVoided e.seq = false ∨ e.voided ≠ none) →
    ∃ t, exec .topOfForm s = .next t
      ∧ t.seq = { s.seq with
          lc := e.seq, preVoid := preVoidAfter s e.seq,
          queue := rest.map fun x =>
            if e.voided = none ∧ x.seq = e.seq ∧ x.voided = none then { x with voided := some .notArmed } else x }
      ∧ t.ctx i = { Context.free with
          state := .running, seq := e.seq, kind := e.kind, form := e.form, darkness := e.darkness,
          voided := some (e.voided.getD .notArmed), cancelled := e.cancelled }
      ∧ t.ctx i.other = s.ctx i.other
      ∧ (e.voided = none → VoidPlaced s { seq := e.seq, reason := .notArmed } t)
      ∧ (e.voided ≠ none → t.link.voidQueue = s.link.voidQueue ∧ t.link.counts = s.link.counts)
      ∧ t = { s with
          seq := t.seq, ctxA := t.ctxA, ctxB := t.ctxB, raster := t.raster,
          ring := { s.ring with lead := t.ring.lead },
          lines := { s.lines with rdyReleased := t.lines.rdyReleased },
          link := s.link.withLabelTraffic t.link, peers := t.peers, report := t.report })
  ∧ (∀ s : State, s.station = .active → s.seq.queue = [] → s.seq.lc ≠ 0 →
      (s.ctxA.state = .free ∧ s.ctxB.state = .free) →
      ∃ t, exec .topOfForm s = .next t
        ∧ t.seq = { lc := nextSeq s.seq.lc, queue := [], preVoid := preVoidAfter s (nextSeq s.seq.lc) }
        ∧ t.ctxB = s.ctxB
        ∧ t.ctxA = { Context.free with
            state := .running, seq := nextSeq s.seq.lc, kind := .placeholder,
            voided := some (if s.seq.preVoid = nextSeq s.seq.lc then .peerVoid else .noJob) }
        ∧ (s.seq.preVoid ≠ nextSeq s.seq.lc → VoidPlaced s { seq := nextSeq s.seq.lc, reason := .noJob } t)
        ∧ (s.seq.preVoid = nextSeq s.seq.lc →
            t.link.voidQueue = s.link.voidQueue ∧ t.link.counts = s.link.counts)
        ∧ t = { s with
            seq := t.seq, ctxA := t.ctxA, raster := t.raster, ring := { s.ring with lead := t.ring.lead },
            lines := { s.lines with rdyReleased := t.lines.rdyReleased },
            link := s.link.withLabelTraffic t.link, peers := t.peers, report := t.report }
        ∧ (s.link.voidQueue.length < 4 ∨ s.seq.preVoid = nextSeq s.seq.lc → t.report = s.report))
  ∧ (∀ (s : State) (i : CtxId), s.station = .active → s.seq.queue = [] → s.seq.lc ≠ 0 →
      (s.ctx i).state = .ending → (s.ctx i).seq ≠ nextSeq s.seq.lc → (s.ctx i.other).state = .free →
      ∃ t, exec .topOfForm s = .next t
        ∧ t.seq = { lc := nextSeq s.seq.lc, queue := [], preVoid := preVoidAfter s (nextSeq s.seq.lc) }
        ∧ t.ctx i = s.ctx i
        ∧ t.ctx i.other = { Context.free with
            state := .running, seq := nextSeq s.seq.lc, kind := .placeholder,
            voided := some (if s.seq.preVoid = nextSeq s.seq.lc then .peerVoid else .noJob) }
        ∧ (s.seq.preVoid ≠ nextSeq s.seq.lc → VoidPlaced s { seq := nextSeq s.seq.lc, reason := .noJob } t)
        ∧ (s.seq.preVoid = nextSeq s.seq.lc →
            t.link.voidQueue = s.link.voidQueue ∧ t.link.counts = s.link.counts)
        ∧ t = { s with
            seq := t.seq, ctxA := t.ctxA, ctxB := t.ctxB, raster := t.raster,
            ring := { s.ring with lead := t.ring.lead },
            lines := { s.lines with rdyReleased := t.lines.rdyReleased },
            link := s.link.withLabelTraffic t.link, peers := t.peers, report := t.report }
        ∧ (s.link.voidQueue.length < 4 ∨ s.seq.preVoid = nextSeq s.seq.lc → t.report = s.report))
  ∧ ∀ (s : State) (i : CtxId), s.station = .active → s.seq.queue = [] → s.seq.lc ≠ 0 →
      (s.ctx i).state = .running → (∀ j, (s.ctx j).state ≠ .free → (s.ctx j).seq ≠ nextSeq s.seq.lc) →
      let leaves := (s.ctx i).h = none ∨ ∀ p ∈ s.plan, p.seq ≠ (s.ctx i).seq
      let blank : Context := { Context.free with
        state := .running, seq := nextSeq s.seq.lc, kind := .placeholder,
        voided := some (if s.seq.preVoid = nextSeq s.seq.lc then .peerVoid else .noJob) }
      ((s.ctx i.other).state = .free ∨ ((s.ctx i.other).state = .ending ∧ leaves)) →
      ∃ t, exec .topOfForm s = .next t
        ∧ t.seq = { lc := nextSeq s.seq.lc, queue := [], preVoid := preVoidAfter s (nextSeq s.seq.lc) }
        ∧ ((s.ctx i.other).state = .ending → t.ctx i = blank ∧ t.ctx i.other = s.ctx i.other)
        ∧ ((s.ctx i.other).state = .free → leaves →
            t.ctxA = blank ∧ t.ctxB = if i = .b then Context.free else s.ctxB)
        ∧ ((s.ctx i.other).state = .free → ¬leaves →
            t.ctx i.other = blank ∧ t.ctx i = { s.ctx i with state := .ending, truncated := true })
        ∧ (s.seq.preVoid ≠ nextSeq s.seq.lc → VoidPlaced s { seq := nextSeq s.seq.lc, reason := .noJob } t)
        ∧ (s.seq.preVoid = nextSeq s.seq.lc →
            t.link.voidQueue = s.link.voidQueue ∧ t.link.counts = s.link.counts)
        ∧ t = { s with
            seq := t.seq, ctxA := t.ctxA, ctxB := t.ctxB, raster := t.raster,
            ring := { s.ring with lead := t.ring.lead },
            lines := { s.lines with rdyReleased := t.lines.rdyReleased },
            link := s.link.withLabelTraffic t.link, peers := t.peers, report := t.report }

/-- What a TOF does to the running label (R26): with H known and a row in flight it passes to Ending, Truncated; with
H known and none in flight its record reports Truncated; with H absent it completes without the flag. Its Rendered
slots become Free, and every other slot stays, one in Rendering until its render completes; the rasterizer may begin
one at the lead's tail. A TOF in ACTIVE while unsynchronised consumes nothing and sets Unexpected TOF (R10); in
another state it has no effect. -/
def Obligations.TofEndsRunning : Prop :=
  (∀ (s : State) (i : CtxId),
    s.station = .active → s.seq.lc ≠ 0 → s.runningCtx = some i →
    ∃ t, exec .topOfForm s = .next t
      ∧ ((s.ctx i).h ≠ none → (∃ p, s.plan = some p ∧ p.seq = (s.ctx i).seq) →
          (∀ e ∈ s.seq.queue, e.seq ≠ (s.ctx i).seq) → nextSeq s.seq.lc ≠ (s.ctx i).seq →
          t.ctx i = { s.ctx i with state := .ending, truncated := true } ∧ t.report.queue = s.report.queue)
      ∧ ((s.ctx i).h ≠ none → (∀ p, s.plan = some p → p.seq ≠ (s.ctx i).seq) →
          RecordPlaced s ({ s.ctx i with truncated := true } : Context).completedRecord t)
      ∧ ((s.ctx i).h = none → RecordPlaced s (s.ctx i).completedRecord t)
      ∧ (∃ new, new.length ≤ 1 ∧ (∀ x ∈ new, x.state = .rendering)
          ∧ t.ring.lead = s.ring.lead.filter (fun x =>
              !(decide (x.state = .rendered) && decide (x.seq = (s.ctx i).seq))) ++ new)
      ∧ t = { s with
          seq := t.seq, ctxA := t.ctxA, ctxB := t.ctxB, loader := t.loader, raster := t.raster,
          ring := { s.ring with lead := t.ring.lead },
          lines := { s.lines with rdyReleased := t.lines.rdyReleased }, link := s.link.withLabelTraffic t.link,
          peers := t.peers, report := t.report, store := { t.store with
          memory := s.store.memory, catalog := s.store.catalog, sectors := s.store.sectors, write := s.store.write } })
  ∧ ∀ s : State,
    (s.station = .active → s.seq.lc = 0 → s.seq.queue = [] → ∃ t, exec .topOfForm s = .next t
      ∧ Cond.unexpectedTof.isIn t.report.values = true
      ∧ t = { s with
          link := { s.link with demand := t.link.demand, backlog := t.link.backlog, tx := t.link.tx },
          peers := t.peers, report := t.report }
      ∧ t.report.queue = s.report.queue)
    ∧ (s.station ≠ .active → exec .topOfForm s = .next s)

/-! ## The ends of a load and of a render -/

/-- LOAD_COMPLETE (R22, R51). While a lookup or a read of the load waits, or one is still to be asked for, the load
does not end (R52, log 20). On success the context takes H, the table and the flags; on failure the label is voided
with the reason and VOID is sent (at a full VOID queue it is dropped and counted, R139). The mark stands on its
entry in the queue as on its context, and no other entry, Lc or pre-void seq changes (R11); a label that carries
Voided keeps its reason and sends none. The loader is then idle and its read hold has ended (R165). -/
def Obligations.LoadCompletes : Prop :=
  ∀ (s : State) (l : Load), s.loader = some l →
    let waits := s.store.waitLoader = true ∨ l.lookupWaits = true
    ((waits ∨ (∃ n, l.status = .lookup n) ∨ ∃ n, l.status = .read n) → exec .loadComplete s = .next s)
    ∧ (∀ body, ¬waits → l.status = .done → formOf (s.loadForm l) l.found = .ok body →
      ∃ t, exec .loadComplete s = .next t
      ∧ t.ctx l.ctx = { s.ctx l.ctx with
          h := some body.height, table := l.table, fieldClipped := l.fieldClipped, substituted := l.substituted }
      ∧ t.ctx l.ctx.other = s.ctx l.ctx.other ∧ t.store.holdLoader = false
      ∧ t = { s with ctxA := t.ctxA, ctxB := t.ctxB, loader := none, raster := t.raster,
                     ring := { s.ring with lead := t.ring.lead }, store := t.store }
      ∧ t.store.memory = s.store.memory ∧ t.store.catalog = s.store.catalog
      ∧ t.store.sectors = s.store.sectors ∧ t.store.write = s.store.write)
    ∧ (∀ reason, ¬waits → l.status = .failed reason → (s.ctx l.ctx).state ≠ .free →
        s.labelVoided (s.ctx l.ctx).seq = false →
        ∃ t, exec .loadComplete s = .next t
          ∧ t.ctx l.ctx = { s.ctx l.ctx with voided := some reason } ∧ t.loader = none
          ∧ t.store.holdLoader = false
          ∧ VoidPlaced s { seq := (s.ctx l.ctx).seq, reason := reason } t
          ∧ (s.link.voidQueue.length < 4 → t.report = s.report) ∧ t.report.queue = s.report.queue
          ∧ ((s.ctx l.ctx.other).holds (s.ctx l.ctx).seq = false → t.ctx l.ctx.other = s.ctx l.ctx.other)
          ∧ t.seq = { s.seq with queue := s.seq.queue.map fun e =>
              if e.seq = (s.ctx l.ctx).seq ∧ e.voided = none then { e with voided := some reason } else e }
          ∧ t = { s with
              seq := t.seq, ctxA := t.ctxA, ctxB := t.ctxB, loader := none, raster := t.raster, ring := t.ring,
              link := { s.link with voidQueue := t.link.voidQueue, tx := t.link.tx, counts := t.link.counts },
              report := t.report, store := { t.store with
          memory := s.store.memory, catalog := s.store.catalog, sectors := s.store.sectors, write := s.store.write } })
    ∧ ∀ reason, ¬waits → l.status = .failed reason → s.labelVoided (s.ctx l.ctx).seq = true →
        ∃ t, exec .loadComplete s = .next t ∧ t.store.holdLoader = false
          ∧ t = { s with
              loader := none, raster := t.raster, ring := { s.ring with lead := t.ring.lead }, store := { t.store with
          memory := s.store.memory, catalog := s.store.catalog, sectors := s.store.sectors, write := s.store.write } }

/-- RENDER_COMPLETE. A row that reads the store does not complete before its reads are served under its hold (R73). A
completed row that is kept (R23, R63, R64, R66, R103): its slot is Rendered with its image and its demand; it counts
as rendered; its demand (0 for a marked label) is handed on; the position moves to the next row, or from the label's
last row to a next context; and a context in Loading at its arming count with no load in progress becomes Armed. A row
that was passed, or whose label has ended, is dropped: its slot is Free and nothing is counted or handed (R62). The
rasterizer then goes on. The image is blank, or drawn from the active list. That it is drawn at the completion from
the store as it then stands, that the completion waits for a standing hold with no read waiting, and that a render
whose reads were cut off is drawn with no object found, are the model's reading of R63, R64 and R73 (log 19, DEDUCED).
-/
def Obligations.RenderCompletes : Prop :=
  ∀ (s : State) (r : Render), s.raster.rendering = some r →
    let c := s.ctx r.ctx
    let isRead := r.reads = true → s.store.holdRaster = true ∧ s.store.waitRaster = false
    let image := if r.drawn then
        drawRow s.store.memory (if r.cut then [] else s.store.catalog) s.number r.row s.raster.active
      else 0
    (¬isRead → exec .renderComplete s = .next s)
    ∧ (isRead → c.seq = r.seq → (c.state = .loading ∨ c.state = .armed ∨ (c.state = .running ∧ c.taken ≤ r.row)) →
      ∃ u, exec .renderComplete s = .next (advanceRaster u)
        ∧ u.ctx r.ctx = { c with
            rendered := c.rendered + 1,
            state := if c.state = .loading ∧ s.loadingCtx r.ctx = false
                ∧ (match c.h with | some h => min 5 h | none => 5) ≤ c.rendered + 1 then .armed else c.state }
        ∧ u.ctx r.ctx.other = s.ctx r.ctx.other
        ∧ u.ring = { s.ring with lead := s.ring.lead.map fun x => if x.state = .rendering then
            { x with state := .rendered, image := image, demand := Dots.count image } else x }
        ∧ u.link = (handDemand s { seq := r.seq, row := r.row, demand :=
            if c.voided.isSome || c.cancelled then 0 else Dots.count image }).link
        ∧ u.raster = (if s.raster.position = some ⟨r.ctx, r.row⟩ then
              if r.row + 1 ≤ (match c.h with | some h => h - 1 | none => 4) then
                { s.raster with rendering := none, position := some ⟨r.ctx, r.row + 1⟩ }
              else { rendering := none, pending := [], active := [],
                     position := if (s.ctx r.ctx.other).isNext then some ⟨r.ctx.other, 0⟩ else none }
            else { s.raster with rendering := none })
        ∧ u.lines.rdyReleased = u.rdyCondition ∧ u.store.holdRaster = false
        ∧ u = { s with
            ctxA := u.ctxA, ctxB := u.ctxB, raster := u.raster, ring := u.ring,
            lines := { s.lines with rdyReleased := u.lines.rdyReleased }, link := u.link, store := { u.store with
          memory := s.store.memory, catalog := s.store.catalog, sectors := s.store.sectors, write := s.store.write } })
    ∧ (isRead → (c.seq ≠ r.seq ∨ c.state = .free ∨ c.state = .ending ∨ (c.state = .running ∧ r.row < c.taken)) →
      ∃ u, exec .renderComplete s = .next (advanceRaster u) ∧ u.store.holdRaster = false
        ∧ u = { s with
            raster := { s.raster with rendering := none },
            ring := { s.ring with lead := s.ring.lead.filter fun x => x.state ≠ .rendering },
            lines := { s.lines with rdyReleased := s.rdyCondition }, store := { u.store with
          memory := s.store.memory, catalog := s.store.catalog, sectors := s.store.sectors, write := s.store.write } })

/-! ## Row pulses -/

/-- Every rising edge of RWP is timed, in every station state (R118, with the operand of log 1 and the least T_pred
of log 25), and the quiet count moves on by the time that has passed (R136, log 3); outside ACTIVE it does nothing
else. In ACTIVE a pulse with no row to take fires nothing and enters a gap record in history (R30, R59, R120). -/
def Obligations.RowPulseTimesAndGaps : Prop :=
  ∀ (dt : Nat) (s : State), ∃ t, exec (.rowPulse dt) s = .next t
    ∧ t.timer = { tPred := if s.timer.seen then max 1 (min 65535 (s.timer.elapsed + dt)) else s.timer.tPred,
                  elapsed := 0, seen := true }
    ∧ t.link.quiet = (if s.link.tx.state = .sending ∨ s.link.tx.state = .jamming ∨ s.link.receiver = .receiving then
          s.link.quiet
        else if s.link.quiet < 16 ∧ s.link.held = false then min 15 (s.link.quiet + 2 * dt)
        else min 24 (s.link.quiet + 2 * dt))
    ∧ (s.station ≠ .active → t = { s with timer := t.timer, link := { s.link with quiet := t.link.quiet } })
    ∧ (s.station = .active → s.plan = none →
        (∀ i, s.runningCtx = some i → (s.ctx i).h.getD 4800 ≤ (s.ctx i).taken) →
        t.ring.history = (s.ring.history ++ [gapRecord]).drop (s.ring.history.length - 1)
        ∧ gapRecord.seq = 0 ∧ gapRecord.fired = 0
        ∧ t.thermal = { s.thermal with hold := s.thermal.hold - 1 }
        ∧ t = { s with timer := t.timer, ctxA := t.ctxA, ctxB := t.ctxB, loader := t.loader, raster := t.raster,
                       ring := { s.ring with history := t.ring.history, lead := t.ring.lead },
                       thermal := t.thermal, lines := t.lines,
                       link := { s.link with
                         quiet := t.link.quiet,
                         demand := t.link.demand, backlog := t.link.backlog, tx := t.link.tx },
                       peers := t.peers, report := t.report }
        ∧ t.report.queue = s.report.queue
        ∧ ∀ i, (s.ctx i).state ≠ .free → t.ctx i = s.ctx i)

/-- The rows of a running label that begin no pulse (R31, R32, R120, R121): a late row, an open blank row, and a row
with an empty plan (a marked label, Hot, demand 0). Each ends at its own pulse, counts one row taken and completed and
none trimmed or missed, and enters a record with no dot fired. A late row voids the label Late row with its VOID; the
label that carries Voided keeps its reason and sends none, and a cancelled one is voided as well. At the label's last
row, row H-1 of a known H and row 4,799 of an unknown one, the label completes in the same event (R31, R34): its record
joins the report queue with the outcome and the reason of R35 and R36, or is dropped at a full one (R37), and its
context is Free or armed with the queue's head (R21). -/
def Obligations.RowsWithoutPlan : Prop :=
  ∀ (dt : Nat) (s : State) (i : CtxId),
    s.station = .active → s.plan = none → s.runningCtx = some i → s.runningLabelCtx (s.ctx i).seq = some i →
    let c := s.ctx i
    c.taken < c.h.getD 4800 →
    let isOpen := c.h = none ∧ 5 ≤ c.taken
    (isOpen ∨ ∀ x, s.ring.findRow c.seq c.taken = some x →
      c.voided ≠ none ∨ c.cancelled = true ∨ s.thermal.hot = true ∨ x.demand = 0) →
    let voids := ¬isOpen ∧ s.ring.findRow c.seq c.taken = none ∧ s.labelVoided c.seq = false
    let ended : Context := { c with
      taken := c.taken + 1, completed := c.completed + 1, voided := if voids then some .lateRow else c.voided }
    let row := match s.ring.findRow c.seq c.taken with
      | some x => if isOpen then gapRecord else { x with state := .history, fired := 0 }
      | none => gapRecord
    ∃ t, exec (.rowPulse dt) s = .next t
      ∧ (voids → VoidPlaced s { seq := c.seq, reason := .lateRow } t)
      ∧ (¬voids → t.link.voidQueue = s.link.voidQueue ∧ t.link.counts = s.link.counts)
      ∧ t.seq = { s.seq with queue := s.seq.queue.map fun e =>
          if voids ∧ e.seq = c.seq ∧ e.voided = none then { e with voided := some .lateRow } else e }
      ∧ t.ring.history = (s.ring.history ++ [row]).drop (s.ring.history.length - 1)
      ∧ (c.taken + 1 < c.h.getD 4800 → t.ctx i = ended ∧ t.report.queue = s.report.queue)
      ∧ (c.taken + 1 = c.h.getD 4800 →
          RecordPlaced s ended.completedRecord t
          ∧ (s.seq.queue = [] → t.ctx i = Context.free)
          ∧ ((s.ctx i.other).holds c.seq = false → (s.setCtx i Context.free).ArmsHead t.seq.queue t))
      ∧ t = { s with
          seq := t.seq, ctxA := t.ctxA, ctxB := t.ctxB, loader := t.loader, raster := t.raster, ring := t.ring,
          timer := t.timer, thermal := { s.thermal with hold := t.thermal.hold },
          lines := { s.lines with slwAsserted := t.lines.slwAsserted },
          link := { s.link.withLabelTraffic t.link with quiet := t.link.quiet },
          peers := t.peers, report := t.report }

/-- A Rendered row of an unmarked label with demand, not Hot, fires (R116, R120 to R125): its plan is formed
from the class map, the widths of this moment and the allowance, and trimmed; before the trim its phases drive the
dots, main and boost, that the classes call for (R93, R99, R115); it is a miss when a configured peer's table has no
entry for the row (R110). Its slot is Firing; the load of the first phase's main data begins; a trimmed plan reloads
the hold count (R133). -/
def Obligations.RowFires : Prop :=
  ∀ (dt : Nat) (s : State) (i : CtxId) (x : Slot),
    s.station = .active → s.plan = none → s.runningCtx = some i →
    let c := s.ctx i
    c.taken < c.h.getD 4800 → ¬(c.h = none ∧ 5 ≤ c.taken) → s.ring.findRow c.seq c.taken = some x →
    c.voided = none → c.cancelled = false → s.thermal.hot = false → 1 ≤ x.demand →
    256 ≤ s.setup.p → 1 ≤ s.setup.n → s.setup.n ≤ 4 →
    let w0 := mainWidth s.setup.bm (c.darkness.getD 0) s.thermal.t
    let ps := s.phasesFor w0 x c.seq c.taken
    ∃ t p, exec (.rowPulse dt) s = .next t ∧ t.plan = some p
      ∧ p = { seq := c.seq, row := c.taken, phases := trimTo p.trim ps, w0 := w0,
              trim := trimLevel w0 (t.timer.tPred - 20) ps, miss := s.rowMiss c.seq c.taken,
              step := { phase := 0, boost := none, stage := .load }, fired := 0, stopping := false }
      ∧ s.PhasesOf w0 x c.seq c.taken ps ∧ 1 ≤ ps.length
      ∧ (p.miss = true ↔ ∃ v ∈ s.peers, ∀ e ∈ v.entries, ¬(e.seq = c.seq ∧ e.row = c.taken))
      ∧ t.head = { shifting := (ps.head?).map Phase.main, hlt := false, hsb := false }
      ∧ t.ring.firing = some { x with state := .firing } ∧ t.ring.history = s.ring.history
      ∧ t.thermal.hold = (if 1 ≤ p.trim then 32 else s.thermal.hold - 1)
      ∧ t.ctx i = { c with taken := c.taken + 1,
                           state := if c.h = some (c.taken + 1) then .ending else c.state }
      ∧ t.link.voidQueue = s.link.voidQueue ∧ t.report.queue = s.report.queue
      ∧ t = { s with
          ctxA := t.ctxA, ctxB := t.ctxB, loader := t.loader, raster := t.raster, ring := t.ring, timer := t.timer,
          plan := t.plan, head := t.head, thermal := { s.thermal with hold := t.thermal.hold },
          lines := { s.lines with slwAsserted := t.lines.slwAsserted },
          link := { s.link with
            quiet := t.link.quiet,
            demand := t.link.demand, backlog := t.link.backlog, tx := t.link.tx },
          peers := t.peers,
          report := t.report }

/-- A row pulse cuts a row in flight of an unmarked label (R127): the strobe is off, the slot enters History with
the dots delivered so far, and the hold count is 32 (R133). A lost main pulse voids the label Fired short with its
VOID: a Running label under the head keeps the mark, and the record of one in Ending reports it. With boosts alone
lost the row is trimmed and the label not voided: no holder takes Fired short and no such VOID is placed, a Running
label is Light with one more trimmed row, and the record of one in Ending is Light or Truncated (R32, R35, R36); the
row that the pulse takes next may be late all the same. A row whose label carries a mark, or which Hot has stopped,
reports neither short nor a lost boost: the pulse's dots stay out of the fired map, the label keeps its mark, and
its trimmed and miss findings are the plan's (R127, R128); such a row reloads the hold count only when its plan was
trimmed (log 17). A label in Ending completes: its record joins the report queue, or is dropped at a full one (R37),
and its context is Free or armed with the queue's head (R34, R21); the row that the pulse takes may bring one more
record. -/
def Obligations.RowPulseCuts : Prop :=
  (∀ (dt : Nat) (s : State) (i : CtxId) (p : Plan) (x : Slot),
    s.station = .active → s.plan = some p → s.ring.firing = some x → p.stopping = false →
    s.runningLabelCtx p.seq = some i → (s.ctx i).voided = none → (s.ctx i).cancelled = false →
    let c := s.ctx i
    let lost := p.step.boost = none ∨ p.step.phase + 1 < p.phases.length
    let goesOn := s.runningCtx = some i ∧ c.taken + 1 < c.h.getD 4800
    ∃ t, exec (.rowPulse dt) s = .next t
      ∧ t.head.hsb = false ∧ t.thermal.hold = 32
      ∧ { x with state := .history, fired := p.fired } ∈ t.ring.history
      ∧ (lost → s.labelVoided p.seq = false →
          (s.link.voidQueue.length < 4 → ∃ late,
            t.link.voidQueue = s.link.voidQueue ++ { seq := p.seq, reason := .firedShort } :: late
            ∧ late.length ≤ 1 ∧ ∀ f ∈ late, f.reason = .lateRow)
          ∧ (4 ≤ s.link.voidQueue.length → t.link.voidQueue = s.link.voidQueue
              ∧ Cond.framesDropped.isIn t.report.values = true)
          ∧ (goesOn → (t.ctx i).seq = p.seq ∧ (t.ctx i).voided = some .firedShort)
          ∧ (c.state = .ending → s.report.queue.length < 8 → ∃ more, more.length ≤ 1
              ∧ t.report.queue = s.report.queue ++ ({ c with
                  voided := some .firedShort, completed := c.completed + 1,
                  trimmed := c.trimmed + (if 1 ≤ p.trim then 1 else 0), light := c.light || decide (1 ≤ p.trim),
                  miss := c.miss + (if p.miss then 1 else 0) } : Context).completedRecord :: more))
      ∧ (¬lost →
          (goesOn → (t.ctx i).seq = p.seq ∧ (t.ctx i).light = true ∧ (t.ctx i).trimmed = c.trimmed + 1
            ∧ ((t.ctx i).voided = none ∨ (t.ctx i).voided = some .lateRow))
          ∧ (∃ late, t.link.voidQueue = s.link.voidQueue ++ late ∧ late.length ≤ 1 ∧ ∀ f ∈ late, f.reason = .lateRow)
          ∧ (∀ e ∈ t.seq.queue, e.voided = some .firedShort → e ∈ s.seq.queue)
          ∧ (∀ j, (t.ctx j).voided = some .firedShort → (s.ctx j).voided = some .firedShort
              ∨ ∃ e ∈ s.seq.queue, e.seq = (t.ctx j).seq ∧ e.voided = some .firedShort)
          ∧ (c.state = .ending → s.report.queue.length < 8 → ∃ more, more.length ≤ 1
              ∧ t.report.queue = s.report.queue ++ ({ c with
                  completed := c.completed + 1, trimmed := c.trimmed + 1, light := true,
                  miss := c.miss + (if p.miss then 1 else 0) } : Context).completedRecord :: more))
      ∧ (c.state = .ending → s.FreedThenArmed i t ∧ (8 ≤ s.report.queue.length →
          t.report.queue = s.report.queue ∧ Cond.reportsDropped.isIn t.report.values = true))
      ∧ t = { s with
          seq := { s.seq with queue := t.seq.queue }, ctxA := t.ctxA, ctxB := t.ctxB, loader := t.loader,
          raster := t.raster, ring := t.ring, timer := t.timer, plan := t.plan, head := t.head,
          thermal := { s.thermal with hold := t.thermal.hold },
          lines := { s.lines with slwAsserted := t.lines.slwAsserted },
          link := { s.link.withLabelTraffic t.link with quiet := t.link.quiet },
          peers := t.peers, report := t.report })
  ∧ ∀ (dt : Nat) (s : State) (i : CtxId) (p : Plan) (x : Slot),
    s.station = .active → s.plan = some p → s.ring.firing = some x → s.runningLabelCtx p.seq = some i →
    (p.stopping = true ∨ (s.ctx i).voided ≠ none ∨ (s.ctx i).cancelled = true) →
    let c := s.ctx i
    ∃ t late, exec (.rowPulse dt) s = .next t
      ∧ t.head.hsb = false
      ∧ { x with state := .history, fired := p.fired } ∈ t.ring.history
      ∧ t.thermal.hold = (if 1 ≤ p.trim ∨ ∃ q ∈ t.plan, 1 ≤ q.trim then 32 else s.thermal.hold - 1)
      ∧ (t.link.voidQueue = s.link.voidQueue ++ late ∧ late.length ≤ 1 ∧ ∀ f ∈ late, f.reason = .lateRow)
      ∧ (s.runningCtx = some i → c.taken + 1 < c.h.getD 4800 →
          (t.ctx i).seq = p.seq ∧ (t.ctx i).cancelled = c.cancelled
          ∧ (t.ctx i).trimmed = c.trimmed + (if 1 ≤ p.trim then 1 else 0)
          ∧ (t.ctx i).light = (c.light || decide (1 ≤ p.trim))
          ∧ (t.ctx i).miss = c.miss + (if p.miss then 1 else 0)
          ∧ (∀ r, c.voided = some r → (t.ctx i).voided = some r)
          ∧ (c.voided = none → (t.ctx i).voided ≠ some .firedShort))
      ∧ (c.state = .ending → s.report.queue.length < 8 → ∃ more, more.length ≤ 1
          ∧ t.report.queue = s.report.queue ++ ({ c with
            completed := c.completed + 1, trimmed := c.trimmed + (if 1 ≤ p.trim then 1 else 0),
            light := c.light || decide (1 ≤ p.trim), miss := c.miss + (if p.miss then 1 else 0) }
            : Context).completedRecord :: more)
      ∧ (c.state = .ending → s.FreedThenArmed i t ∧ (8 ≤ s.report.queue.length →
          t.report.queue = s.report.queue ∧ Cond.reportsDropped.isIn t.report.values = true))
      ∧ t = { s with
          seq := { s.seq with queue := t.seq.queue }, ctxA := t.ctxA, ctxB := t.ctxB, loader := t.loader,
          raster := t.raster, ring := t.ring, timer := t.timer, plan := t.plan, head := t.head,
          thermal := { s.thermal with hold := t.thermal.hold },
          lines := { s.lines with slwAsserted := t.lines.slwAsserted },
          link := { s.link.withLabelTraffic t.link with quiet := t.link.quiet },
          peers := t.peers, report := t.report }

/-! ## The steps of a plan -/

/-- Each completed step of a plan begins the next (R125, R126): a load its latch, a latch its pulse, a pulse the
load of the next boost's data, or of the main data of the next phase. A completed main pulse adds its dots to the
fired map; a completed boost adds nothing. Only the plan and the head lines change. -/
def Obligations.PlanGoesOn : Prop :=
  ∀ (s : State) (p : Plan), s.plan = some p →
    (p.step.stage = .load → exec .dataLoadComplete s = .next { s with
      plan := some { p with step := { p.step with stage := .latch } },
      head := { shifting := none, hlt := true, hsb := false } })
    ∧ (p.step.stage = .latch → exec .latchComplete s = .next { s with
      plan := some { p with step := { p.step with stage := .strobe } },
      head := { shifting := none, hlt := false, hsb := true } })
    ∧ ∀ st ph data, p.step.stage = .strobe → p.stopping = false → p.phases[p.step.phase]? = some ph →
        (let k := (p.step.boost.map fun k => k + 1).getD 0
         (∃ b, ph.boosts[k]? = some b ∧ st = { phase := p.step.phase, boost := some k, stage := .load }
            ∧ data = b.data)
         ∨ (ph.boosts.length ≤ k ∧ ∃ nextPhase, p.phases[p.step.phase + 1]? = some nextPhase
            ∧ st = { phase := p.step.phase + 1, boost := none, stage := .load } ∧ data = nextPhase.main)) →
        (p.step.boost = none → exec .mainPulseComplete s = .next { s with
          plan := some { p with step := st, fired := p.fired ||| ph.main },
          head := { shifting := some data, hlt := false, hsb := false } })
        ∧ (p.step.boost ≠ none → exec .boostPulseComplete s = .next { s with
          plan := some { p with step := st },
          head := { shifting := some data, hlt := false, hsb := false } })

/-- The last pulse of a plan, or the pulse that a mark left running (R126, R128), ends the row: no plan, the lines
idle, the slot in History with its fired map, and the row's findings on its label, which completes when the row was
its last (R32, R34): its record joins the report queue, or is dropped at a full one (R35 to R37), and its context is
Free or armed with the queue's head (R21). -/
def Obligations.PulseEndsRow : Prop :=
  ∀ (s : State) (p : Plan) (i : CtxId) (x : Slot) (c : Instr) (fired : Dots),
    s.plan = some p → p.step.stage = .strobe → (p.stopping = true ∨ (p.phases.length ≤ p.step.phase + 1
      ∧ ∀ ph, p.phases[p.step.phase]? = some ph → ph.boosts.length ≤ (p.step.boost.map fun k => k + 1).getD 0)) →
    s.runningLabelCtx p.seq = some i → s.ring.firing = some x →
    ((p.step.boost = none ∧ c = .mainPulseComplete ∧ fired = p.fired ||| ((p.phases[p.step.phase]?).map Phase.main).getD 0)
      ∨ (p.step.boost ≠ none ∧ c = .boostPulseComplete ∧ fired = p.fired)) →
    let ended : Context := { s.ctx i with
      completed := (s.ctx i).completed + 1,
      trimmed := (s.ctx i).trimmed + (if 1 ≤ p.trim then 1 else 0),
      light := (s.ctx i).light || decide (1 ≤ p.trim), miss := (s.ctx i).miss + (if p.miss then 1 else 0) }
    ∃ t, exec c s = .next t ∧ t.plan = none ∧ t.head = { shifting := none, hlt := false, hsb := false }
      ∧ t.ring.firing = none
      ∧ t.ring.history = (s.ring.history ++ [{ x with state := .history, fired := fired }]).drop
          (s.ring.history.length - 1)
      ∧ ((s.ctx i).state = .running → ((s.ctx i).h ≠ none ∨ (s.ctx i).taken < 4800) →
          t.ctx i = ended ∧ t.report = s.report ∧ t.link = s.link)
      ∧ ((s.ctx i).state = .ending → RecordPlaced s ended.completedRecord t
          ∧ (s.seq.queue = [] ∨ s.station ≠ .active → t.ctx i = Context.free)
          ∧ (s.station = .active → (s.setCtx i Context.free).ArmsHead s.seq.queue t))
      ∧ t = { s with
          ctxA := t.ctxA, ctxB := t.ctxB, loader := t.loader, raster := t.raster, ring := t.ring, plan := none,
          head := t.head, link := { s.link with tx := t.link.tx }, report := t.report }

/-! ## Temperature and SLW -/

/-- A completed conversion (R129 to R134): T takes the reading within its limits; Warm is evaluated in ACTIVE and
OUTSIDE, Hot in ACTIVE. Entry into Hot lets no further pulse begin and voids each running label, in Running or in
Ending, that is not voided yet, with its VOID at the VOID queue's tail, the one in Ending first (log 10): a label
that goes on is marked, and the row in its load or latch ends at once, its slot in History and its findings on its
label, which completes with its record when in Ending, Voided, Hot, or Cancelled (R32, R34, R35, R128). A queue
entry of a label so voided takes the mark (R11); Lc, the pre-void seq and every other entry stay. RDY and SLW
follow. A change of Warm, Hot or Slow sets its changed latch and makes the condition slot pending when the mask has
it (R134, R173). The hold count's expiry leaves SLW to Warm and Hot (R133, log 16). -/
def Obligations.ReadingsAndSlw : Prop :=
  (∀ (reading : Int) (s : State), ∃ t, exec (.conversionComplete reading) s = .next t
    ∧ t.thermal.t = max (-20) (min 100 reading) ∧ t.thermal.hold = s.thermal.hold
    ∧ (s.station = .starting ∨ s.station = .unset → t = { s with thermal := { s.thermal with t := t.thermal.t } })
    ∧ (s.station = .active ∨ s.station = .outside →
        t.thermal.warm = (if s.setup.tSlow ≤ t.thermal.t then true
          else if t.thermal.t ≤ s.setup.tSlow - 3 then false else s.thermal.warm)
        ∧ t.lines.slwAsserted = t.thermal.slwCondition ∧ t.lines.rdyReleased = t.rdyCondition)
    ∧ (s.station = .outside → t.thermal.hot = s.thermal.hot)
    ∧ (s.station = .active → t.thermal.hot
        = (if s.thermal.hot then !decide (t.thermal.t ≤ s.setup.tStop - 5)
           else decide (s.setup.tStop ≤ t.thermal.t)))
    ∧ (s.station = .active → s.thermal.hot = false → t.thermal.hot = true →
        let voids := fun (st : CtxState) => ([.a, .b].filter fun i =>
          decide ((s.ctx i).state = st) && !s.labelVoided (s.ctx i).seq).map fun i =>
            (⟨(s.ctx i).seq, .hot⟩ : VoidFrame)
        (∀ p, t.plan = some p → p.step.stage = .strobe ∧ p.stopping = true)
        ∧ (s.link.voidQueue.length ≤ 4 →
            t.link.voidQueue = (s.link.voidQueue ++ (voids .ending ++ voids .running).dedup).take 4)
        ∧ (∀ i, (s.ctx i).voided ≠ none → s.RowEndsAtOnce i (s.ctx i) t)
        ∧ ∀ i, ((s.ctx i).state = .running ∨ (s.ctx i).state = .ending) → s.labelVoided (s.ctx i).seq = false →
            ((∀ p, s.plan = some p → p.seq = (s.ctx i).seq → p.step.stage = .strobe) →
              t.ctx i = { s.ctx i with voided := some .hot })
            ∧ ((s.ctx i).state = .running → (s.ctx i).h ≠ none → (t.ctx i).voided = some .hot)
            ∧ s.RowEndsAtOnce i { s.ctx i with voided := some ((s.ctx i).voided.getD .hot) } t)
    ∧ (t.seq = { s.seq with queue := s.seq.queue.map fun e =>
        if s.station = .active ∧ s.thermal.hot = false ∧ t.thermal.hot = true ∧ s.labelVoided e.seq = false
          ∧ ∃ i ∈ [CtxId.a, CtxId.b],
              ((s.ctx i).state = .running ∨ (s.ctx i).state = .ending) ∧ (s.ctx i).seq = e.seq
        then { e with voided := some .hot } else e })
    ∧ (∀ c : Cond, c.isIn t.report.values ≠ c.isIn s.report.values →
        c.isIn t.report.latches = true ∧ (c.isIn s.setup.mask = true → t.report.pending = true))
    ∧ t = { s with
        seq := t.seq, ctxA := t.ctxA, ctxB := t.ctxB, loader := t.loader, raster := t.raster, ring := t.ring,
        plan := t.plan, head := t.head, thermal := t.thermal, lines := t.lines,
        link := { s.link with voidQueue := t.link.voidQueue, tx := t.link.tx,
                              counts := { s.link.counts with dropped := t.link.counts.dropped } },
        report := t.report })
  ∧ ∀ s : State,
    (s.thermal.hold = 0 → ∃ t, exec .slwHoldExpiry s = .next t
      ∧ t.lines.slwAsserted = (s.thermal.warm || s.thermal.hot)
      ∧ Cond.slow.isIn t.report.values = t.lines.slwAsserted
      ∧ (∀ c : Cond, c.isIn t.report.values ≠ c.isIn s.report.values →
          c = .slow ∧ c.isIn t.report.latches = true ∧ (c.isIn s.setup.mask = true → t.report.pending = true))
      ∧ t = { s with lines := { s.lines with slwAsserted := t.lines.slwAsserted },
                     link := { s.link with tx := t.link.tx }, report := t.report })
    ∧ (s.thermal.hold ≠ 0 → exec .slwHoldExpiry s = .next s)

/-! ## SETUP, QUERY and CLEAR -/

/-- SETUP taken in UNSET (R167, R169, R170), where no label is held: the values clamped in order, ACTIVE when
the number is below N and OUTSIDE otherwise, the peer tables, Warm, Hot and the lines; the condition slot is pending
when a changed latch that the mask has is set, and each condition that changes sets its latch, and the slot when the
mask has it (R173); nothing else changes. The premises hold in every state from reset on (StepKeepsStrobe). In ACTIVE
and OUTSIDE a SETUP is ignored (R168). -/
def Obligations.SetupTaken : Prop :=
  ∀ (s : State) (n p bm ka kb kc tSlow tStop mask : Nat) (rest : List CommandFrame),
    s.link.commandQueue = .setup n p bm ka kb kc tSlow tStop mask :: rest →
    (s.station = .unset → s.ctxA = Context.free → s.ctxB = Context.free → s.seq.queue = [] → s.plan = none →
      s.thermal.warm = false → s.thermal.hot = false → ∃ t, exec .setup s = .next t
      ∧ t.setup = { n := max 1 (min 4 n), p := max 256 (min 2560 p), bm := max 100 (min 1500 bm),
                    ka := min 63 ka, kb := min 63 kb, kc := min 63 kc,
                    tSlow := (max 30 (min 85 tSlow) : Nat),
                    tStop := (max (max 30 (min 85 tSlow) + 5) (min 90 tStop) : Nat), mask := BitVec.ofNat 7 mask }
      ∧ t.station = (if s.number < t.setup.n then .active else .outside)
      ∧ (t.station = .outside → t.peers = s.peers)
      ∧ (t.station = .active → t.peers = ((List.range t.setup.n).filter fun j => decide (j ≠ s.number)).map
          fun j => { peer := j, entries := [] })
      ∧ t.thermal = { s.thermal with
          warm := decide (t.setup.tSlow ≤ s.thermal.t),
          hot := decide (t.station = .active) && decide (t.setup.tStop ≤ s.thermal.t) }
      ∧ t.lines.rdyReleased = decide (t.station = .outside) ∧ t.lines.slwAsserted = t.thermal.slwCondition
      ∧ (s.report.latches &&& t.setup.mask ≠ 0 → t.report.pending = true)
      ∧ (∀ c : Cond, c.isIn t.report.values ≠ c.isIn s.report.values →
          c.isIn t.report.latches = true ∧ (c.isIn t.setup.mask = true → t.report.pending = true))
      ∧ t = { s with station := t.station, setup := t.setup, thermal := t.thermal, lines := t.lines,
                     link := { s.link with commandQueue := rest, tx := t.link.tx }, peers := t.peers,
                     report := t.report })
    ∧ (s.station = .active ∨ s.station = .outside →
        exec .setup s = .next { s with link := { s.link with commandQueue := rest } })

/-- QUERY queues the IDENT record of this moment, or drops it at a full queue with Reports dropped (R171,
R175). CLEAR clears the sticky conditions and the five counts, with the latches of those that were set and the
condition slot when the mask has one of them, and leaves the current conditions, the report queue and every other
block (R172, R173). A change of a condition, in whatever event, gives it the value, sets its changed latch and no
other, and makes the slot pending when the mask has the condition; otherwise the slot stays as it was. The idle
transmitter wakes to a pending slot (R140), and a condition record being attempted notes the change (R174). Giving a
condition the value it has changes nothing (R173). -/
def Obligations.QueryAndClear : Prop :=
  (∀ (s : State) (c : Cond) (v : Bool),
    let t := setCond s c v
    (c.isIn s.report.values = v → t = s)
    ∧ (c.isIn s.report.values ≠ v →
        c.isIn t.report.values = v ∧ c.isIn t.report.latches = true
        ∧ (∀ d : Cond, d ≠ c → d.isIn t.report.values = d.isIn s.report.values
            ∧ d.isIn t.report.latches = d.isIn s.report.latches)
        ∧ t.report.pending = (s.report.pending || c.isIn s.setup.mask) ∧ t.report.queue = s.report.queue
        ∧ t.link.tx.state = (if s.link.tx.state = .idle ∧ t.report.pending = true then .deferring
            else s.link.tx.state)
        ∧ t.link.tx.attempts = s.link.tx.attempts
        ∧ t.link.tx.inHand = (match s.link.tx.state, s.link.tx.inHand with
            | .sending, some (.condition values changed since) => some (.condition values changed (since ||| c.bit))
            | _, h => h)
        ∧ t = { s with link := { s.link with tx := t.link.tx }, report := t.report }))
  ∧ ∀ (s : State) (rest : List CommandFrame), s.station ≠ .starting →
    (s.link.commandQueue = .query :: rest → ∃ t, exec .query s = .next t
      ∧ t = { s with link := { s.link with commandQueue := rest, tx := t.link.tx }, report := t.report }
      ∧ (s.report.queue.length < 8 → t.report = { s.report with queue := s.report.queue ++
          [.ident { number := s.number, state := s.station, n := s.setup.n,
                    sectorsFree := freeSectors s.store.sectors, objects := s.store.catalog.length,
                    t := s.thermal.t, lc := s.seq.lc, queueDepth := s.seq.queue.length,
                    counts := s.link.counts }] })
      ∧ (8 ≤ s.report.queue.length →
          t.report.queue = s.report.queue ∧ Cond.reportsDropped.isIn t.report.values = true))
    ∧ (s.link.commandQueue = .clear :: rest → ∃ t, exec .clear s = .next t
      ∧ t = { s with link := { s.link with commandQueue := rest, tx := t.link.tx, counts := t.link.counts },
                     report := t.report }
      ∧ t.link.counts = { badFrames := 0, collisions := 0, excessive := 0, dropped := 0, stale := 0 }
      ∧ t.report.values = s.report.values &&& 7#7
      ∧ t.report.latches = s.report.latches ||| (s.report.values &&& 120#7)
      ∧ t.report.pending = (s.report.pending || decide (s.report.values &&& 120#7 &&& s.setup.mask ≠ 0))
      ∧ t.report.queue = s.report.queue)

/-! ## The receiver -/

/-- A complete frame that the receiver is reading (R146 to R149): the receiver is then between frames, the quiet count
that of the frame's last edge (log 3, log 15, log 24). A wrong check, an unknown kind, or a payload that does not fit
its kind is a bad frame, counted but in STARTING; a frame for another destination, every good frame in STARTING, and a
REPORT or IDENT, is discarded; a command frame or a store frame joins its queue at the tail, or is dropped at a full
one, counted, with Frames dropped set. A payload above 480 bytes never comes to a last check bit (log 27). -/
def Obligations.FramesRouted : Prop :=
  ∀ (f : RxFrame) (s : State), s.link.canReceive = true →
    (480 < f.payload.length → exec (.frameAccepted f) s = .next s)
    ∧ (f.payload.length ≤ 480 →
    let quiet : State := { s with link := { s.link with receiver := .ready, quiet := frameEndQuiet f } }
    let bad : State := if s.station = .starting then quiet else { quiet with link := { quiet.link with
      counts := { s.link.counts with badFrames := min (s.link.counts.badFrames + 1) 65535 } } }
    let good := f.check = checkOf (f.address :: f.kind :: be16 f.payload.length ++ f.payload)
    let mine := f.address.toNat / 16 = s.number ∨ f.address.toNat / 16 = 15
    (¬good → exec (.frameAccepted f) s = .next bad)
    ∧ (good → ¬mine → exec (.frameAccepted f) s = .next quiet)
    ∧ (good → mine → parsePayload f.kind f.payload = none → exec (.frameAccepted f) s = .next bad)
    ∧ (good → mine → parsePayload f.kind f.payload ≠ none → s.station = .starting →
        exec (.frameAccepted f) s = .next quiet)
    ∧ (good → mine → (f.kind = 0x50#8 ∨ f.kind = 0x51#8) → exec (.frameAccepted f) s = .next quiet)
    ∧ (∀ c, good → mine → s.station ≠ .starting → parsePayload f.kind f.payload = some (.command c) →
        (s.link.commandQueue.length < 4 → exec (.frameAccepted f) s = .next { quiet with
          link := { quiet.link with commandQueue := s.link.commandQueue ++ [c] } })
        ∧ (4 ≤ s.link.commandQueue.length → ∃ t, exec (.frameAccepted f) s = .next t
          ∧ t = { quiet with report := t.report, link := { quiet.link with
              tx := t.link.tx, counts := { s.link.counts with dropped := min (s.link.counts.dropped + 1) 65535 } } }
          ∧ Cond.framesDropped.isIn t.report.values = true ∧ t.report.queue = s.report.queue))
    ∧ ∀ c, good → mine → s.station ≠ .starting → parsePayload f.kind f.payload = some (.store c) →
        (s.link.storeQueue.length < 4 → exec (.frameAccepted f) s = .next { quiet with
          link := { quiet.link with storeQueue := s.link.storeQueue ++ [c] } })
        ∧ (4 ≤ s.link.storeQueue.length → ∃ t, exec (.frameAccepted f) s = .next t
          ∧ t = { quiet with report := t.report, link := { quiet.link with
              tx := t.link.tx, counts := { s.link.counts with dropped := min (s.link.counts.dropped + 1) 65535 } } }
          ∧ Cond.framesDropped.isIn t.report.values = true ∧ t.report.queue = s.report.queue))

/-- A reception that ends early leaves the receiver ignoring the line; it is a bad frame unless it is a
collision's fragment. A quiet line makes the receiver ready, and ends a frame still being received as bad. A
falling edge on a quiet line begins a frame; any other edge sets the quiet count to 0 (R136, R146). After a
collision's fragment the line is held dominant, and is quiet again 16 bit times after its rising edge. With no frame
begun, or while the station itself drives the line, no reception ends. The quiet count's values between edges are
the model's choice (log 3). -/
def Obligations.ReceiverEvents : Prop :=
  ∀ s : State,
    let driving := s.link.tx.state = .sending ∨ s.link.tx.state = .jamming
    (∀ e, ¬driving → s.link.receiver = .receiving →
      exec (.frameReceiveError e) s = .next { s with link := { s.link with
        receiver := .ignoring,
        quiet := match e with
          | .badDelimiter n => n.toNat
          | .stuffDominant | .stuffRecessive => 8
          | .lengthAbove480 n => n.toNat
        held := s.link.held || decide (e = .stuffDominant),
        counts := if s.station = .starting ∨ e = .stuffDominant then s.link.counts
                  else { s.link.counts with badFrames := min (s.link.counts.badFrames + 1) 65535 } } })
    ∧ ((driving ∨ s.link.receiver ≠ .receiving) →
        (∀ e, exec (.frameReceiveError e) s = .next s) ∧ ∀ f, exec (.frameAccepted f) s = .next s)
    ∧ (¬driving →
        exec .lineQuiet s = .next { s with link := { s.link with
          receiver := .ready, quiet := if s.link.held then 16 else max s.link.quiet 16, held := false,
          counts := if s.station ≠ .starting ∧ s.link.receiver = .receiving then
                      { s.link.counts with badFrames := min (s.link.counts.badFrames + 1) 65535 }
                    else s.link.counts } }
        ∧ exec .frameBegins s = .next { s with link := { s.link with
          receiver := if 16 ≤ s.link.quiet ∧ s.link.held = false then .receiving else s.link.receiver, quiet := 0,
          held := false } })
    ∧ (driving → exec .lineQuiet s = .next s ∧ exec .frameBegins s = .next s)

/-! ## Peer demands -/

/-- A DEMAND frame for this station of 1 to 4 demands (R108, R109): in ACTIVE its demands enter the table of
its source alone, in row order; in UNSET and OUTSIDE they do nothing. One entry of seq 0, of a row above 4,799,
or stale changes no table; one whose key the table holds replaces that demand, clamped to 640 by the model's
choice (log 21); a new one joins the tail while the table holds fewer than 8, and is dropped at 8. The command
DEMAND is the acceptance of such a frame (log 27), which leaves the receiver between frames with the quiet count of
the frame's last edge (log 3, log 15, log 24). -/
def Obligations.DemandEntered : Prop :=
  (∀ (dest src : BitVec 4) (seq first : BitVec 16) (ds : List (BitVec 16)) (s : State),
    let f := checkedFrame (dest ++ src) 0x40#8 (encodeDemand seq.toNat first.toNat (ds.map BitVec.toNat))
    exec (.demand dest src seq first ds) s = exec (.frameAccepted f) s
    ∧ (s.link.canReceive = true → (dest.toNat = s.number ∨ dest = 15#4) → s.station ≠ .starting →
    1 ≤ ds.length → ds.length ≤ 4 →
    exec (.demand dest src seq first ds) s = .next { s with
      link := { s.link with receiver := .ready, quiet := frameEndQuiet f },
      peers := if s.station = .active then s.peers.map fun t => if t.peer = src.toNat then
          { t with entries := ((List.range ds.length).zip ds).foldl (fun es p => enterDemand
              (s.isStale seq.toNat (first.toNat + p.1)) es
              { seq := seq.toNat, row := first.toNat + p.1, demand := p.2.toNat }) t.entries }
        else t else s.peers }))
  ∧ ∀ (stale : Bool) (es : List DemandEntry) (e : DemandEntry),
    (e.seq = 0 ∨ 4800 ≤ e.row ∨ stale = true → enterDemand stale es e = es)
    ∧ (1 ≤ e.seq → e.row ≤ 4799 → stale = false →
        (∀ x ∈ es, x.seq = e.seq → x.row = e.row → enterDemand stale es e = es.map fun y =>
          if y.seq = e.seq ∧ y.row = e.row then { y with demand := min e.demand 640 } else y)
        ∧ ((∀ x ∈ es, x.seq = e.seq → x.row ≠ e.row) →
            (es.length < 8 → enterDemand stale es e = es ++ [{ e with demand := min e.demand 640 }])
            ∧ (8 ≤ es.length → enterDemand stale es e = es)))

/-! ## The transmitter -/

/-- A transmit opportunity, Deferring with the quiet count at 24 (R136, R140), selects VOID, then DEMAND, then a
pending condition record, then a report record, and begins its first attempt; with nothing to send the transmitter
becomes Idle. A frame in hand is attempted again, a condition record read afresh (R174). A DEMAND loses its stale
front rows and is frozen; one left empty is discarded and the next formed, and the selection goes on (R105, R106). A
frame sent leaves its source, and the transmitter is Deferring or Idle as sources are left (R144); the quiet count is
then that of the frame's last edge (R136, log 3, log 24). Every frame carries the station's number as source (R138,
R177), and the payload of section 12.2 for its record, with the codes of section 12.3. -/
def Obligations.TransmitAttempts : Prop :=
  (∀ s : State, (s.link.tx.state ≠ .deferring ∨ s.link.quiet ≠ 24 ∨ s.link.held = true) →
      exec .transmitOpportunity s = .next s)
  ∧ (∀ s : State, s.link.tx.state = .deferring → s.link.quiet = 24 → s.link.held = false →
    let record := InHand.condition s.report.values (s.report.latches &&& s.setup.mask) 0
    let attempt := fun (h : InHand) (n : Nat) => ({ s with link := { s.link with
      quiet := 0, tx := { state := .sending, inHand := some h, attempts := n } } } : State)
    let demandAttempt := fun (f : DemandFrame) (k n : Nat) => ({ s with link := { (attempt .demand n).link with
      demand := some { f with first := f.first + k, demands := f.demands.drop k, frozen := true } } } : State)
    let staleTo := fun (f : DemandFrame) (k : Nat) => ∀ j, j < k → s.isStale f.seq (f.first + j) = true
    (s.link.tx.inHand = none →
      (∀ f rest, s.link.voidQueue = f :: rest → exec .transmitOpportunity s = .next (attempt (.void f) 0))
      ∧ (s.link.voidQueue = [] →
          (∀ f, s.link.demand = some f →
            (∀ k, k < f.demands.length → staleTo f k → s.isStale f.seq (f.first + k) = false →
              exec .transmitOpportunity s = .next (demandAttempt f k 0))
            ∧ (staleTo f f.demands.length → exec .transmitOpportunity s = exec .transmitOpportunity
                (formDemand { s with link := { s.link with demand := none } })))
          ∧ (s.link.demand = none →
              (s.report.pending = true → exec .transmitOpportunity s = .next (attempt record 0))
              ∧ (s.report.pending = false → ∀ r rest, s.report.queue = r :: rest →
                  exec .transmitOpportunity s = .next (attempt (.report r) 0))
              ∧ (s.report.pending = false → s.report.queue = [] →
                  exec .transmitOpportunity s = .next { s with link := { s.link with
                    tx := { state := .idle, inHand := none, attempts := 0 } } }))))
    ∧ (∀ h, s.link.tx.inHand = some h → ((∃ f, h = .void f) ∨ ∃ r, h = .report r) →
        exec .transmitOpportunity s = .next (attempt h s.link.tx.attempts))
    ∧ (∀ v c x, s.link.tx.inHand = some (.condition v c x) →
        exec .transmitOpportunity s = .next (attempt record s.link.tx.attempts))
    ∧ ∀ f, s.link.tx.inHand = some .demand → s.link.demand = some f →
      (∀ k, k < f.demands.length → staleTo f k → s.isStale f.seq (f.first + k) = false →
        exec .transmitOpportunity s = .next (demandAttempt f k s.link.tx.attempts))
      ∧ (staleTo f f.demands.length → exec .transmitOpportunity s = exec .transmitOpportunity
          (formDemand { s with link := { s.link with
            demand := none, tx := { s.link.tx with inHand := none, attempts := 0 } } })))
  ∧ (∀ s : State, s.link.tx.state = .sending → ∀ h, s.link.tx.inHand = some h →
    let next := formDemand { s with link := { s.link with demand := none } }
    ∃ t, exec .frameSent s = .next t
      ∧ t.link.tx = { state := if t.link.voidQueue = [] ∧ t.link.demand = none ∧ t.report.pending = false
                                  ∧ t.report.queue = [] then .idle else .deferring,
                      inHand := none, attempts := 0 }
      ∧ t.link.quiet = s.sentQuiet
      ∧ (∀ f, h = .void f → t = { s with link := { s.link with
          quiet := t.link.quiet, voidQueue := s.link.voidQueue.tail, tx := t.link.tx } })
      ∧ (h = .demand → t = { s with link := { s.link with
          quiet := t.link.quiet, demand := next.link.demand, backlog := next.link.backlog, tx := t.link.tx } })
      ∧ (∀ v c x, h = .condition v c x → t = { s with
          link := { s.link with quiet := t.link.quiet, tx := t.link.tx },
          report := { s.report with
            latches := s.report.latches &&& ~~~(c &&& ~~~x),
            pending := decide (s.report.latches &&& ~~~(c &&& ~~~x) &&& s.setup.mask ≠ 0) } })
      ∧ ∀ r, h = .report r → t = { s with
          link := { s.link with quiet := t.link.quiet, tx := t.link.tx },
          report := { s.report with queue := s.report.queue.tail } })
  ∧ ∀ (s : State) (g : SentFrame), s.number ≤ 3 → s.sentFrame = some g →
    g.source = s.number ∧ g.toRx.address.toNat = 16 * g.dest + s.number ∧ g.toRx.payload = g.payload
    ∧ g.toRx.kind = g.kind ∧ g.toRx.check = checkOf (g.toRx.address :: g.kind :: be16 g.payload.length ++ g.payload)
    ∧ s.sentQuiet = frameEndQuiet g.toRx
    ∧ (∀ f, s.link.tx.inHand = some (.void f) →
        g.dest = 15 ∧ g.kind = 0x41#8 ∧ g.payload = be16 f.seq ++ [byteOf f.reason.code])
    ∧ (∀ f, s.link.tx.inHand = some .demand → s.link.demand = some f → g.dest = 15 ∧ g.kind = 0x40#8
        ∧ g.payload = be16 f.seq ++ be16 f.first ++ [byteOf f.demands.length] ++ f.demands.flatMap be16)
    ∧ (∀ v c x, s.link.tx.inHand = some (.condition v c x) →
        g.dest = 14 ∧ g.kind = 0x50#8 ∧ g.payload = [1#8, v.setWidth 8, c.setWidth 8])
    ∧ (∀ q, s.link.tx.inHand = some (.report (.label q)) → g.dest = 14 ∧ g.kind = 0x50#8
        ∧ g.payload = [2#8] ++ be16 q.seq
          ++ [match q.outcome with
              | .printed => 1#8 | .light => 2#8 | .truncated => 3#8 | .voided => 4#8 | .missed => 5#8
              | .cancelled => 6#8 | .refused => 7#8]
          ++ [match q.reason with
              | none => 0#8 | some .missed => 1#8 | some .missingObject => 2#8 | some .badForm => 3#8
              | some .badBars => 4#8 | some .notArmed => 5#8 | some .noJob => 6#8 | some .lateRow => 7#8
              | some .firedShort => 8#8 | some .hot => 9#8 | some .peerVoid => 10#8 | some .queueFull => 11#8
              | some .notSetUp => 12#8]
          ++ be16 q.completed ++ be16 q.trimmed ++ be16 q.miss
          ++ [(if q.light then 1#8 else 0) ||| (if q.fieldClipped then 2#8 else 0)
              ||| (if q.substituted then 4#8 else 0) ||| (if q.truncated then 8#8 else 0)])
    ∧ (∀ q, s.link.tx.inHand = some (.report (.store q)) → g.dest = 14 ∧ g.kind = 0x50#8
        ∧ g.payload = [3#8]
          ++ [match q.cmd with | .begin => 0x30#8 | .data => 0x31#8 | .stop => 0x32#8 | .delete => 0x33#8]
          ++ [byteOf q.number]
          ++ [match q.result with
              | .done => 1#8 | .badRequest => 2#8 | .inUse => 3#8 | .noSpace => 4#8 | .noWrite => 5#8 | .busy => 6#8
              | .notFound => 7#8 | .orderError => 8#8 | .checkMismatch => 9#8 | .abandoned => 10#8 | .failed => 11#8]
          ++ be16 q.generation ++ be32 q.received)
    ∧ ∀ q, s.link.tx.inHand = some (.report (.ident q)) → q.state ≠ .starting → -128 ≤ q.t → q.t ≤ 127 →
        g.dest = 14 ∧ g.kind = 0x51#8
        ∧ ∃ tByte : Byte, tByte.toNat = (if 0 ≤ q.t then q.t.toNat else (q.t + 256).toNat)
          ∧ g.payload = [byteOf q.number]
            ++ [match q.state with | .starting => 0#8 | .unset => 1#8 | .active => 2#8 | .outside => 3#8]
            ++ [byteOf q.n] ++ be16 640 ++ [64#8, byteOf q.sectorsFree, byteOf q.objects, tByte]
            ++ be16 q.lc ++ [byteOf q.queueDepth] ++ be16 q.counts.badFrames ++ be16 q.counts.collisions
            ++ be16 q.counts.excessive ++ be16 q.counts.dropped ++ be16 q.counts.stale

/-- A collision while sending jams and counts the attempt (R141); the quiet count is the time since the line's last
edge at that sample (R136). A DEMAND in hand below the limit is unfrozen, loses its stale front rows and takes the
backlog's entries that follow; one left empty is discarded and the next formed (R107). After the jam a frame of fewer
than 12 collisions waits a drawn number of slots, 0 to 31, fewer after fewer collisions; one of 12 is given up with
its source's table entry: a VOID or report record leaves its queue, a report with Reports dropped (R142, R143). With
the frame discarded the wait is drawn and none is in hand (log 12). The jam's release is an edge, and the count 0,
unless another station still holds the line dominant: then no edge has come since the collision, 17 bit times before
(R136, R142). The two operands are the model's way to bring the line's level in (log 3). The wait over, or a frame
given up with a source still holding something, the transmitter defers. -/
def Obligations.Collisions : Prop :=
  (∀ (s : State) (sinceEdge : BitVec 4), s.link.tx.state = .sending →
    let hit : State := { s with link := { s.link with
      quiet := sinceEdge.toNat, counts := { s.link.counts with collisions := min (s.link.counts.collisions + 1) 65535 },
      tx := { s.link.tx with state := .jamming, attempts := s.link.tx.attempts + 1 } } }
    ((s.link.tx.inHand ≠ some .demand ∨ 12 ≤ s.link.tx.attempts + 1) → exec (.collision sinceEdge) s = .next hit)
    ∧ ∀ f, s.link.tx.inHand = some .demand → s.link.demand = some f → s.link.tx.attempts + 1 < 12 →
        (∀ k, k < f.demands.length → (∀ j, j < k → s.isStale f.seq (f.first + j) = true) →
          s.isStale f.seq (f.first + k) = false →
          let g := gatherDemands f.seq (f.first + k) (f.demands.drop k) s.link.backlog
          exec (.collision sinceEdge) s = .next { hit with link := { hit.link with
            demand := some { f with first := f.first + k, demands := g.1, frozen := false }, backlog := g.2 } })
        ∧ ((∀ j, j < f.demands.length → s.isStale f.seq (f.first + j) = true) →
          exec (.collision sinceEdge) s = .next (formDemand { hit with link := { hit.link with
            demand := none, tx := { hit.link.tx with inHand := none } } })))
  ∧ (∀ (s : State) (held : Bool), s.link.tx.state = .jamming →
    let quiet := if held then min 24 (s.link.quiet + 17) else 0
    let r := (25173 * s.link.rng + 13849) % 65536
    let k := r / 2 ^ (16 - min s.link.tx.attempts 5)
    (k < 2 ^ min s.link.tx.attempts 5)
    ∧ (s.link.tx.inHand = none → exec (.jamEnd held) s = .next { s with link := { s.link with
        quiet := quiet, held := held, rng := r,
        tx := { state := if k = 0 then .deferring else .backingOff k, inHand := none, attempts := 0 } } })
    ∧ ∀ h, s.link.tx.inHand = some h →
      (s.link.tx.attempts < 12 → exec (.jamEnd held) s = .next { s with link := { s.link with
        quiet := quiet, held := held, rng := r,
        tx := { s.link.tx with state := if k = 0 then .deferring else .backingOff k } } })
      ∧ (12 ≤ s.link.tx.attempts → ∃ t, exec (.jamEnd held) s = .next t
        ∧ t.link.tx.inHand = none ∧ t.link.tx.attempts = 0
        ∧ t.link.tx.state = (if t.link.voidQueue = [] ∧ t.link.demand = none ∧ t.report.pending = false
            ∧ t.report.queue = [] then .idle else .deferring)
        ∧ t = { s with report := t.report, link := { s.link with
            quiet := quiet, held := held, tx := t.link.tx, voidQueue := t.link.voidQueue, demand := t.link.demand,
            backlog := t.link.backlog,
            counts := { s.link.counts with excessive := min (s.link.counts.excessive + 1) 65535 } } }
        ∧ (t.link.voidQueue = match h with | .void _ => s.link.voidQueue.tail | _ => s.link.voidQueue)
        ∧ (h = .demand → let next := formDemand { s with link := { s.link with demand := none } }
            t.link.demand = next.link.demand ∧ t.link.backlog = next.link.backlog)
        ∧ (h ≠ .demand → t.link.demand = s.link.demand ∧ t.link.backlog = s.link.backlog)
        ∧ ((∀ q, h ≠ .report q) → t.report = s.report)
        ∧ ∀ q, h = .report q → t.report.queue = s.report.queue.tail
            ∧ Cond.reportsDropped.isIn t.report.values = true))
  ∧ ∀ (s : State) (k : Nat), s.link.tx.state = .backingOff k →
      exec .backoffEnd s = .next { s with link := { s.link with tx := { s.link.tx with state := .deferring } } }

/-! ## The form store -/

/-- What the waiting controller makes of the command at the head of the store queue (R156 to R161). Each accepted
command begins its first operation; while a read hold stands it begins none, and all of them are due (R163, R164).
Each refused one makes the record its rule gives, and an out-of-order STORE-DATA or a STORE-END that does not match
abandons the write. A STORE-BEGIN over an open write first abandons it with a record Abandoned, and is then tested
(R158). That a refused command's successor waits for its own event is DEDUCED (log 13); the number 0 in the records
of No write, and the command and number of the record Abandoned, are the model's (log 14). A number is In use as the
form of a label held or of a Job in the queue, or through an entry of a context's element table or of the table of
the load in progress (R156). A length needs the sectors of Equation (10-1); their run begins at the lowest sector
from which as many are all Free or Dirty, and the Dirty ones of it are erased in ascending order. -/
def Obligations.StoreCommandsTaken : Prop :=
  (∀ (s : State) (number : Nat),
    let names := fun (e : TableEntry) =>
      (∃ rot mx my ref gh w h chars, e.part = .text rot mx my ref gh w h chars ∧ ref.number = number)
      ∨ ∃ ref w h, e.part = .graphic ref w h ∧ ref.number = number
    s.inUse number = true ↔
      (∃ i, (s.ctx i).state ≠ .free ∧ (s.ctx i).form = some number)
      ∨ (∃ e ∈ s.seq.queue, e.kind = .job ∧ e.form = some number)
      ∨ (∃ i, ∃ e ∈ (s.ctx i).table, names e) ∨ ∃ l, s.loader = some l ∧ ∃ e ∈ l.table, names e)
  ∧ (∀ len, sectorsFor len = (len + 64 + 16383) / 16384)
  ∧ (∀ (m : List SectorState) (count : Nat), m.length = 64 → 1 ≤ count →
    let fits := fun i => i + count ≤ 64 ∧ ∀ j, j < count → m.getD (i + j) .used ≠ .used
    (∀ first, findRun m count = some first ↔ fits first ∧ ∀ i, i < first → ¬fits i)
    ∧ (findRun m count = none ↔ ∀ i, ¬fits i)
    ∧ ∀ first st,
      dirtyOf m first count = (List.range' first count).filter (fun i => decide (m.getD i .used = .dirty))
      ∧ (setSectors m first count st).length = 64
      ∧ ∀ i, i < 64 → (setSectors m first count st).getD i .used =
          if first ≤ i ∧ i < first + count then st else m.getD i .used)
  ∧ ∀ (s : State) (rest : List StoreFrame), s.station ≠ .starting → s.store.serving = none →
    s.store.phase = .idle → s.store.current = none → s.report.queue.length < 8 →
    let took : State := { s with link := { s.link with storeQueue := rest } }
    let told := fun (st : Store) (cmd : StoreCmd) (n : Nat) (res : StoreResult) (g k : Nat) =>
      ({ took with store := st, link := { took.link with tx := s.link.tx.wake },
                   report := { s.report with queue := s.report.queue
                     ++ [.store ⟨cmd, n, res, g, k⟩] } } : State)
    let begun := fun (st : Store) (op : StoreOp) (due : List StoreOp) =>
      if s.store.holdLoader = true ∨ s.store.holdRaster = true then
        ({ took with store := { st with current := none, due := op :: due, phase := .idle } } : State)
      else { took with store := { st with current := some op, due := due, phase := .running false } }
    let closed := fun (w : WriteCtx) =>
      ({ s.store with write := none, sectors := setSectors s.store.sectors w.first w.count .dirty } : Store)
    (∀ number kind len w, s.link.storeQueue = .begin number kind len :: rest → s.store.write = some w →
      exec .storeBegin s = exec .storeBegin { s with
        store := closed w, link := { s.link with tx := s.link.tx.wake },
        report := { s.report with queue := s.report.queue
          ++ [.store ⟨.begin, w.number, .abandoned, w.generation, w.received⟩] } })
    ∧ (∀ number kind len, s.link.storeQueue = .begin number kind len :: rest → s.store.write = none →
      ((number = 0 ∨ 255 < number ∨ ¬(1 ≤ kind ∧ kind ≤ 3)) →
        exec .storeBegin s = .next (told s.store .begin number .badRequest 0 0))
      ∧ (1 ≤ number → number ≤ 255 → 1 ≤ kind → kind ≤ 3 →
          (s.inUse number = true → exec .storeBegin s = .next (told s.store .begin number .inUse 0 0))
          ∧ (s.inUse number = false → findRun s.store.sectors (sectorsFor len) = none →
              exec .storeBegin s = .next (told s.store .begin number .noSpace 0 0))
          ∧ ∀ first k, s.inUse number = false → findRun s.store.sectors (sectorsFor len) = some first →
              ObjKind.ofCode kind = some k →
              let w : WriteCtx := {
                number := number, kind := k, length := len,
                generation := match catFind s.store.catalog number with
                  | some e => nextSeq e.generation
                  | none => 1
                first := first, count := sectorsFor len, received := 0, check := 65535#16 }
              let dirty := dirtyOf s.store.sectors first (sectorsFor len)
              ∃ op due, op :: due = dirty.map StoreOp.erase
                  ++ [.line (16384 * first) ([byteOf number, byteOf kind] ++ be32 len ++ be16 w.generation
                        ++ [255, 255, 252])]
                ∧ exec .storeBegin s = .next (begun { s.store with
                    sectors := setSectors s.store.sectors first w.count .used,
                    serving := some (.begin w dirty) } op due)))
    ∧ (∀ offset bytes, s.link.storeQueue = .data offset bytes :: rest →
      (s.store.write = none → exec .storeData s = .next (told s.store .data 0 .noWrite 0 0))
      ∧ ∀ w, s.store.write = some w →
          ((offset ≠ w.received ∨ w.length < offset + bytes.length) →
            exec .storeData s = .next (told (closed w) .data w.number .orderError w.generation w.received))
          ∧ (offset = w.received → offset + bytes.length ≤ w.length →
              let a := 16384 * w.first + 64 + offset
              let room := 256 - a % 256
              exec .storeData s = .next (begun { s.store with serving := some (.data bytes) }
                (.line a (bytes.take room)) (if bytes.length ≤ room then [] else [.line (a + room) (bytes.drop room)]))))
    ∧ (∀ check, s.link.storeQueue = .stop check :: rest →
      (s.store.write = none → exec .storeEnd s = .next (told s.store .stop 0 .noWrite 0 0))
      ∧ ∀ w, s.store.write = some w →
          ((w.received ≠ w.length ∨ check ≠ w.check) →
            exec .storeEnd s = .next (told (closed w) .stop w.number .checkMismatch w.generation w.received))
          ∧ (w.received = w.length → check = w.check →
              (s.inUse w.number = true →
                exec .storeEnd s = .next (told s.store .stop w.number .inUse w.generation w.received))
              ∧ (s.inUse w.number = false → exec .storeEnd s = .next (begun
                  { s.store with serving := some (.stop false) }
                  (.mark (16384 * w.first + 8) (be16 check.toNat ++ [240]))
                  (match catFind s.store.catalog w.number with
                   | some old => [.mark (16384 * old.first + 10) [0]]
                   | none => [])))))
    ∧ ∀ number, s.link.storeQueue = .delete number :: rest →
      (∀ w, s.store.write = some w → w.number = number →
        exec .storeDelete s = .next (told s.store .delete number .busy w.generation 0))
      ∧ ((∀ w ∈ s.store.write, w.number ≠ number) →
          (catFind s.store.catalog number = none →
            exec .storeDelete s = .next (told s.store .delete number .notFound 0 0))
          ∧ ∀ e, catFind s.store.catalog number = some e →
              (s.inUse number = true →
                exec .storeDelete s = .next (told s.store .delete number .inUse e.generation 0))
              ∧ (s.inUse number = false → exec .storeDelete s = .next (begun
                  { s.store with serving := some (.delete number) } (.mark (16384 * e.first + 10) [0]) [])))

/-- A completed operation of a command (R151, R156 to R165), first with no other command waiting and no lookup
waiting: every byte of an erased sector reads 255, a programmed byte keeps only the bits set both before and in the
data, and every other byte reads as before; waiting reads are served; the next operation begins, or stays due while
a read hold stands (R163, R164); or the command ends with its record (command, number, result, generation, bytes
received), its catalog entry and sectors, and the controller waits. A load in progress looks an object whose entry
has changed up again (R52, log 22). A failure sets Store fault, leaves the bytes outside the operation as they were
and ends the command with its table entry's record and sectors (R162). The bytes under a failed operation are free
(log 7): nothing is said of them. With a command waiting in the store queue, the event that ends a command also
takes the next: it does what the same event does with the queue empty, and then what the taking of the queue's head
does (R156, log 13; a lookup that waited is served before it, log 33). -/
def Obligations.StoreOperations : Prop :=
  (∀ (s : State) (op : StoreOp) (sv : Serving) (c : Instr),
    s.MemoryOk → s.store.current = some op → s.store.executing = true → s.store.serving = some sv →
    op.endAddress ≤ 1048576 → s.link.storeQueue = [] → (∀ l ∈ s.loader, l.lookupWaits = false) →
    s.report.queue.length < 8 →
    (c = match op with
      | .erase _ => .sectorEraseComplete
      | .line _ _ => .lineProgramComplete
      | .mark _ _ => .markProgramComplete) →
    let now := match sv, op with
      | .begin w dirty, .erase i => .begin w (dirty.filter fun x => !decide (x = i))
      | .stop _, .mark _ _ => .stop true
      | _, _ => sv
    let held := s.store.holdLoader = true ∨ s.store.holdRaster = true
    let reads := fun (m : Memory) =>
      if s.store.waitLoader then (serveLoaderRead { s with store := { s.store with memory := m } }).loader else s.loader
    let forgets := fun (m : Memory) n =>
      (reads m).map fun l => { l with found := l.found.filter fun f => !decide (f.number = n) }
    (∃ t, exec c s = .next t
      ∧ (∀ a, t.store.memory.read a = match op with
          | .erase i => if 16384 * i ≤ a ∧ a < 16384 * (i + 1) then 255 else s.store.memory.read a
          | .line first bs | .mark first bs =>
            if first ≤ a ∧ a < first + bs.length then s.store.memory.read a &&& bs.getD (a - first) 255
            else s.store.memory.read a)
      ∧ (∀ nextOp due, s.store.due = nextOp :: due → t = { s with
          loader := reads t.store.memory
          store := { s.store with
            memory := t.store.memory, serving := some now, waitLoader := false, waitRaster := false,
            current := if held then none else some nextOp, due := if held then nextOp :: due else due,
            phase := if held then .idle else .running false } })
      ∧ (s.store.due = [] →
          t.store.serving = none ∧ t.store.current = none ∧ t.store.due = [] ∧ t.store.phase = .idle
          ∧ t.store.holdLoader = s.store.holdLoader ∧ t.store.holdRaster = s.store.holdRaster
          ∧ t.store.waitLoader = false ∧ t.store.waitRaster = false
          ∧ t = { s with
              loader := t.loader, store := t.store, link := { s.link with tx := t.link.tx }, report := t.report }
          ∧ (((∃ w dirty, sv = .begin w dirty) ∨ ∃ bytes, sv = .data bytes) → t.loader = reads t.store.memory)
          ∧ (∀ w dirty, sv = .begin w dirty → t.store.write = some w ∧ t.store.catalog = s.store.catalog
              ∧ t.store.sectors = s.store.sectors
              ∧ t.report.queue = s.report.queue ++ [.store ⟨.begin, w.number, .done, w.generation, 0⟩])
          ∧ (∀ bytes w, sv = .data bytes → s.store.write = some w →
              t.store.write = some { w with received := w.received + bytes.length, check := checkFrom w.check bytes }
              ∧ t.store.catalog = s.store.catalog ∧ t.store.sectors = s.store.sectors
              ∧ t.report.queue = s.report.queue ++ [.store ⟨.data, w.number, .done, w.generation, w.received + bytes.length⟩])
          ∧ (∀ b w, sv = .stop b → s.store.write = some w → t.store.write = none ∧ t.loader = forgets t.store.memory w.number
              ∧ ({ number := w.number, kind := w.kind, first := w.first, count := w.count, length := w.length,
                   generation := w.generation } : CatEntry) ∈ t.store.catalog
              ∧ (∀ e, e.number ≠ w.number → (e ∈ t.store.catalog ↔ e ∈ s.store.catalog))
              ∧ t.store.sectors = (match catFind s.store.catalog w.number with
                  | some old => setSectors s.store.sectors old.first old.count .dirty
                  | none => s.store.sectors)
              ∧ t.report.queue = s.report.queue ++ [.store ⟨.stop, w.number, .done, w.generation, w.received⟩])
          ∧ ∀ number e, sv = .delete number → catFind s.store.catalog number = some e →
              (t.store.catalog = s.store.catalog.filter fun x => !decide (x.number = number))
              ∧ t.loader = forgets t.store.memory number ∧ t.store.sectors = setSectors s.store.sectors e.first e.count .dirty
              ∧ t.report.queue = s.report.queue ++ [.store ⟨.delete, number, .done, e.generation, 0⟩]))
    ∧ ∃ t, exec .operationFailed s = .next t ∧ Cond.storeFault.isIn t.report.values = true
      ∧ (∀ a, (match op with
          | .erase i => inSector i a = false
          | .line first bs | .mark first bs => a < first ∨ first + bs.length ≤ a) →
          t.store.memory.read a = s.store.memory.read a)
      ∧ t.store.serving = none ∧ t.store.current = none ∧ t.store.due = [] ∧ t.store.phase = .idle
      ∧ t.store.holdLoader = s.store.holdLoader ∧ t.store.holdRaster = s.store.holdRaster
      ∧ t.store.waitLoader = false ∧ t.store.waitRaster = false
      ∧ t = { s with
          loader := t.loader, store := t.store, link := { s.link with tx := t.link.tx }, report := t.report,
          freeCount := t.freeCount }
      ∧ (sv ≠ .stop true → t.loader = reads t.store.memory)
      ∧ (∀ w cmd, s.store.write = some w →
          (((∃ bytes, sv = .data bytes) ∧ cmd = .data) ∨ (sv = .stop false ∧ cmd = .stop)) →
          t.store.write = none ∧ t.store.sectors = setSectors s.store.sectors w.first w.count .dirty
          ∧ t.store.catalog = s.store.catalog
          ∧ t.report.queue = s.report.queue ++ [.store ⟨cmd, w.number, .failed, w.generation, w.received⟩])
      ∧ (∀ w dirty, sv = .begin w dirty → t.store.write = s.store.write ∧ t.store.catalog = s.store.catalog
          ∧ t.store.sectors.length = s.store.sectors.length
          ∧ (let bad := match op with
               | .erase _ => dirty
               | .line _ _ | .mark _ _ => [w.first]
             ∀ i, i < s.store.sectors.length → t.store.sectors.getD i .used =
               if bad.contains i then .dirty else if w.first ≤ i ∧ i < w.first + w.count then .free
               else s.store.sectors.getD i .used)
          ∧ t.report.queue = s.report.queue ++ [.store ⟨.begin, w.number, .failed, 0, 0⟩])
      ∧ (∀ w, s.store.write = some w → sv = .stop true → t.store.write = none ∧ t.loader = forgets t.store.memory w.number
          ∧ ({ number := w.number, kind := w.kind, first := w.first, count := w.count, length := w.length,
               generation := w.generation } : CatEntry) ∈ t.store.catalog
          ∧ (∀ e, e.number ≠ w.number → (e ∈ t.store.catalog ↔ e ∈ s.store.catalog))
          ∧ t.store.sectors = (match catFind s.store.catalog w.number with
              | some old => setSectors s.store.sectors old.first old.count .dirty
              | none => s.store.sectors)
          ∧ t.report.queue = s.report.queue ++ [.store ⟨.stop, w.number, .done, w.generation, w.received⟩])
      ∧ ∀ number e, sv = .delete number → catFind s.store.catalog number = some e →
          t.store.catalog = s.store.catalog ∧ t.store.sectors = s.store.sectors
          ∧ t.report.queue = s.report.queue ++ [.store ⟨.delete, number, .failed, e.generation, 0⟩])
  ∧ ∀ (s : State) (op : StoreOp) (sv : Serving) (c : Instr) (f : StoreFrame) (rest : List StoreFrame),
    s.station ≠ .starting → s.store.current = some op → s.store.executing = true → s.store.serving = some sv →
    op.endAddress ≤ 1048576 → s.link.storeQueue = f :: rest →
    (c = .operationFailed ∨ (s.store.due = [] ∧ c = match op with
      | .erase _ => .sectorEraseComplete
      | .line _ _ => .lineProgramComplete
      | .mark _ _ => .markProgramComplete)) →
    let waiting := fun (u : State) (q : List StoreFrame) =>
      ({ u with link := { u.link with storeQueue := q } } : State)
    let take : Instr := match f with
      | .begin _ _ _ => .storeBegin
      | .data _ _ => .storeData
      | .stop _ => .storeEnd
      | .delete _ => .storeDelete
    ∃ t, exec c (waiting s []) = .next t ∧ t.store.serving = none
      ∧ exec c s = exec take (waiting t (f :: rest))

/-- The reads of the store (R163 to R165, R73). A read is served at once in Idle and Suspended, and waits otherwise,
with a suspend requested when the minimum run is complete or when it completes; its hold stands. At a suspend's
completion every waiting read is served; with no hold left the operation resumes. A loader's read brings the object
its load needs next, a lookup the catalog's entry; a lookup of the number of a STORE-END or STORE-DELETE being
served gives up the hold, waits, and is served at that command's end from the catalog as it then stands: the number
is the STORE-DELETE's, or that of the write that the STORE-END closes, and no other command has one. A hold that
ends with no other standing resumes a Suspended operation or begins the one due. A request of a loader with no load,
of a rasterizer with no row that reads, or of a reader that already waits does nothing (log 2, log 23). The model's
choices in it: one read brings all that a load needs of an object (log 20), and a later lookup of a number keeps
what was found of it when the catalog's entry is the same and replaces it otherwise (log 22). -/
def Obligations.StoreReads : Prop :=
  (∀ st : Store, st.servedNumber = match st.serving, st.write with
    | some (.delete n), _ => some n
    | some (.stop _), some w => some w.number
    | _, _ => none)
  ∧ (∀ s : State,
    let st := s.store
    let waits := st.waitLoader = true ∨ st.waitRaster = true
    let atOnce := st.phase = .idle ∨ st.phase = .suspended
    let asked := if st.phase = .running true then .suspending else st.phase
    exec .minimumRunComplete s = .next { s with store := { st with
      phase := if st.phase = .running false then if waits then .suspending else .running true else st.phase } }
    ∧ (st.phase ≠ .suspending → exec .suspendComplete s = .next s)
    ∧ (st.phase = .suspending → exec .suspendComplete s = .next { s with
        loader := if st.waitLoader then (serveLoaderRead s).loader else s.loader,
        store := { st with
          waitLoader := false, waitRaster := false,
          phase := if st.holdLoader = true ∨ st.holdRaster = true then .suspended else .running false } })
    ∧ (∀ l, s.loader = some l → st.waitLoader = false → l.lookupWaits = false →
        (atOnce → exec (.storeReadRequest .loader .read) s = .next { s with
          loader := (serveLoaderRead s).loader, store := { st with holdLoader := true, waitLoader := false } })
        ∧ (¬atOnce → exec (.storeReadRequest .loader .read) s = .next { s with
          store := { st with holdLoader := true, waitLoader := true, phase := asked } })
        ∧ ∀ n, l.status = .lookup n →
          (st.servedNumber ≠ some n → exec (.storeReadRequest .loader .lookup) s = .next (advanceLoad s l (
              if l.found.any (fun f => decide (f.number = n) && decide (f.entry = catFind st.catalog n)) then l.found
              else (l.found.filter fun f => !decide (f.number = n))
                ++ [{ number := n, entry := catFind st.catalog n, content := none }])))
          ∧ (st.servedNumber = some n → ∃ t, exec (.storeReadRequest .loader .lookup) s = .next t
              ∧ t = { s with loader := some { l with lookupWaits := true }, store := t.store }
              ∧ t.store = st.releaseLoader ∧ t.store.holdLoader = false))
    ∧ ((s.loader = none ∨ st.waitLoader = true ∨ ∃ l, s.loader = some l ∧ l.lookupWaits = true) →
        ∀ what, exec (.storeReadRequest .loader what) s = .next s)
    ∧ (∀ r, s.raster.rendering = some r → r.reads = true → st.waitRaster = false → ∀ what,
        exec (.storeReadRequest .rasterizer what) s = .next { s with store := { st with
          holdRaster := true, waitRaster := !decide atOnce, phase := if atOnce then st.phase else asked } })
    ∧ ((st.waitRaster = true ∨ ∀ r, s.raster.rendering = some r → r.reads = false) → ∀ what,
        exec (.storeReadRequest .rasterizer what) s = .next s))
  ∧ (∀ (s : State) (l : Load), s.loader = some l →
    (∀ n, l.status = .read n → serveLoaderRead s = advanceLoad s l (l.found.map fun f => if f.number = n then
        { f with content := f.entry.map (readContent s.store.memory) } else f))
    ∧ ((∀ n, l.status ≠ .read n) → serveLoaderRead s = s)
    ∧ ∀ found, advanceLoad s l found = { s with
        loader := some (runLoad s.store.servedNumber (s.loadForm l) (s.loadInput l) found l) })
  ∧ (∀ (s : State) (l : Load) (op : StoreOp) (n : Nat),
    s.loader = some l → l.lookupWaits = true → l.status = .lookup n → s.store.servedNumber = some n →
    s.store.current = some op → op.isMark = true → s.store.executing = true → op.endAddress ≤ 1048576 →
    s.store.due = [] → s.store.waitLoader = false → s.link.storeQueue = [] →
    ∃ t k, exec .markProgramComplete s = .next t ∧ t.loader = some k ∧ k.ctx = l.ctx ∧ k.lookupWaits = false
      ∧ t.store.serving = none
      ∧ k.found = (l.found.filter fun f => !decide (f.number = n))
          ++ [{ number := n, entry := catFind t.store.catalog n, content := none }]
      ∧ (s.store.serving = some (.delete n) → catFind t.store.catalog n = none)
      ∧ ∀ w b, s.store.serving = some (.stop b) → s.store.write = some w → catFind t.store.catalog n = some
          { number := n, kind := w.kind, first := w.first, count := w.count, length := w.length,
            generation := w.generation })
  ∧ ∀ st : Store,
    let resumed := fun (u : Store) => match st.phase, st.due with
      | .suspended, _ => { u with phase := .running false }
      | .idle, op :: due => { u with current := some op, due := due, phase := .running false }
      | _, _ => u
    (st.holdLoader = true → st.releaseLoader = (let u := { st with holdLoader := false, waitLoader := false }
        if st.holdRaster then u else resumed u))
    ∧ (st.holdLoader = false → st.releaseLoader = st)
    ∧ (st.holdRaster = true → st.releaseRaster = (let u := { st with holdRaster := false, waitRaster := false }
        if st.holdLoader then u else resumed u))
    ∧ (st.holdRaster = false → st.releaseRaster = st)
end

