-- ==== Sys2Proof/Laws/State.lean ====
section
/-! SUPPORT. One lemma per field per setter, each true by `rfl`: what a block's update does to every
block. -/

namespace Sys2Proof.Machine

@[simp] theorem State.setStation_station (s : State) (v) : (s.setStation v).station = v := rfl
@[simp] theorem State.setStation_number (s : State) (v) : (s.setStation v).number = s.number := rfl
@[simp] theorem State.setStation_setup (s : State) (v) : (s.setStation v).setup = s.setup := rfl
@[simp] theorem State.setStation_seq (s : State) (v) : (s.setStation v).seq = s.seq := rfl
@[simp] theorem State.setStation_ctxA (s : State) (v) : (s.setStation v).ctxA = s.ctxA := rfl
@[simp] theorem State.setStation_ctxB (s : State) (v) : (s.setStation v).ctxB = s.ctxB := rfl
@[simp] theorem State.setStation_loader (s : State) (v) : (s.setStation v).loader = s.loader := rfl
@[simp] theorem State.setStation_raster (s : State) (v) : (s.setStation v).raster = s.raster := rfl
@[simp] theorem State.setStation_ring (s : State) (v) : (s.setStation v).ring = s.ring := rfl
@[simp] theorem State.setStation_timer (s : State) (v) : (s.setStation v).timer = s.timer := rfl
@[simp] theorem State.setStation_plan (s : State) (v) : (s.setStation v).plan = s.plan := rfl
@[simp] theorem State.setStation_head (s : State) (v) : (s.setStation v).head = s.head := rfl
@[simp] theorem State.setStation_thermal (s : State) (v) : (s.setStation v).thermal = s.thermal := rfl
@[simp] theorem State.setStation_lines (s : State) (v) : (s.setStation v).lines = s.lines := rfl
@[simp] theorem State.setStation_link (s : State) (v) : (s.setStation v).link = s.link := rfl
@[simp] theorem State.setStation_peers (s : State) (v) : (s.setStation v).peers = s.peers := rfl
@[simp] theorem State.setStation_store (s : State) (v) : (s.setStation v).store = s.store := rfl
@[simp] theorem State.setStation_report (s : State) (v) : (s.setStation v).report = s.report := rfl
@[simp] theorem State.setStation_freeCount (s : State) (v) : (s.setStation v).freeCount = s.freeCount := rfl
@[simp] theorem State.setStation_pending (s : State) (v) : (s.setStation v).pending = s.pending := rfl
@[simp] theorem State.setSetup_station (s : State) (v) : (s.setSetup v).station = s.station := rfl
@[simp] theorem State.setSetup_number (s : State) (v) : (s.setSetup v).number = s.number := rfl
@[simp] theorem State.setSetup_setup (s : State) (v) : (s.setSetup v).setup = v := rfl
@[simp] theorem State.setSetup_seq (s : State) (v) : (s.setSetup v).seq = s.seq := rfl
@[simp] theorem State.setSetup_ctxA (s : State) (v) : (s.setSetup v).ctxA = s.ctxA := rfl
@[simp] theorem State.setSetup_ctxB (s : State) (v) : (s.setSetup v).ctxB = s.ctxB := rfl
@[simp] theorem State.setSetup_loader (s : State) (v) : (s.setSetup v).loader = s.loader := rfl
@[simp] theorem State.setSetup_raster (s : State) (v) : (s.setSetup v).raster = s.raster := rfl
@[simp] theorem State.setSetup_ring (s : State) (v) : (s.setSetup v).ring = s.ring := rfl
@[simp] theorem State.setSetup_timer (s : State) (v) : (s.setSetup v).timer = s.timer := rfl
@[simp] theorem State.setSetup_plan (s : State) (v) : (s.setSetup v).plan = s.plan := rfl
@[simp] theorem State.setSetup_head (s : State) (v) : (s.setSetup v).head = s.head := rfl
@[simp] theorem State.setSetup_thermal (s : State) (v) : (s.setSetup v).thermal = s.thermal := rfl
@[simp] theorem State.setSetup_lines (s : State) (v) : (s.setSetup v).lines = s.lines := rfl
@[simp] theorem State.setSetup_link (s : State) (v) : (s.setSetup v).link = s.link := rfl
@[simp] theorem State.setSetup_peers (s : State) (v) : (s.setSetup v).peers = s.peers := rfl
@[simp] theorem State.setSetup_store (s : State) (v) : (s.setSetup v).store = s.store := rfl
@[simp] theorem State.setSetup_report (s : State) (v) : (s.setSetup v).report = s.report := rfl
@[simp] theorem State.setSetup_freeCount (s : State) (v) : (s.setSetup v).freeCount = s.freeCount := rfl
@[simp] theorem State.setSetup_pending (s : State) (v) : (s.setSetup v).pending = s.pending := rfl
@[simp] theorem State.setSeq_station (s : State) (v) : (s.setSeq v).station = s.station := rfl
@[simp] theorem State.setSeq_number (s : State) (v) : (s.setSeq v).number = s.number := rfl
@[simp] theorem State.setSeq_setup (s : State) (v) : (s.setSeq v).setup = s.setup := rfl
@[simp] theorem State.setSeq_seq (s : State) (v) : (s.setSeq v).seq = v := rfl
@[simp] theorem State.setSeq_ctxA (s : State) (v) : (s.setSeq v).ctxA = s.ctxA := rfl
@[simp] theorem State.setSeq_ctxB (s : State) (v) : (s.setSeq v).ctxB = s.ctxB := rfl
@[simp] theorem State.setSeq_loader (s : State) (v) : (s.setSeq v).loader = s.loader := rfl
@[simp] theorem State.setSeq_raster (s : State) (v) : (s.setSeq v).raster = s.raster := rfl
@[simp] theorem State.setSeq_ring (s : State) (v) : (s.setSeq v).ring = s.ring := rfl
@[simp] theorem State.setSeq_timer (s : State) (v) : (s.setSeq v).timer = s.timer := rfl
@[simp] theorem State.setSeq_plan (s : State) (v) : (s.setSeq v).plan = s.plan := rfl
@[simp] theorem State.setSeq_head (s : State) (v) : (s.setSeq v).head = s.head := rfl
@[simp] theorem State.setSeq_thermal (s : State) (v) : (s.setSeq v).thermal = s.thermal := rfl
@[simp] theorem State.setSeq_lines (s : State) (v) : (s.setSeq v).lines = s.lines := rfl
@[simp] theorem State.setSeq_link (s : State) (v) : (s.setSeq v).link = s.link := rfl
@[simp] theorem State.setSeq_peers (s : State) (v) : (s.setSeq v).peers = s.peers := rfl
@[simp] theorem State.setSeq_store (s : State) (v) : (s.setSeq v).store = s.store := rfl
@[simp] theorem State.setSeq_report (s : State) (v) : (s.setSeq v).report = s.report := rfl
@[simp] theorem State.setSeq_freeCount (s : State) (v) : (s.setSeq v).freeCount = s.freeCount := rfl
@[simp] theorem State.setSeq_pending (s : State) (v) : (s.setSeq v).pending = s.pending := rfl
@[simp] theorem State.setCtxA_station (s : State) (v) : (s.setCtxA v).station = s.station := rfl
@[simp] theorem State.setCtxA_number (s : State) (v) : (s.setCtxA v).number = s.number := rfl
@[simp] theorem State.setCtxA_setup (s : State) (v) : (s.setCtxA v).setup = s.setup := rfl
@[simp] theorem State.setCtxA_seq (s : State) (v) : (s.setCtxA v).seq = s.seq := rfl
@[simp] theorem State.setCtxA_ctxA (s : State) (v) : (s.setCtxA v).ctxA = v := rfl
@[simp] theorem State.setCtxA_ctxB (s : State) (v) : (s.setCtxA v).ctxB = s.ctxB := rfl
@[simp] theorem State.setCtxA_loader (s : State) (v) : (s.setCtxA v).loader = s.loader := rfl
@[simp] theorem State.setCtxA_raster (s : State) (v) : (s.setCtxA v).raster = s.raster := rfl
@[simp] theorem State.setCtxA_ring (s : State) (v) : (s.setCtxA v).ring = s.ring := rfl
@[simp] theorem State.setCtxA_timer (s : State) (v) : (s.setCtxA v).timer = s.timer := rfl
@[simp] theorem State.setCtxA_plan (s : State) (v) : (s.setCtxA v).plan = s.plan := rfl
@[simp] theorem State.setCtxA_head (s : State) (v) : (s.setCtxA v).head = s.head := rfl
@[simp] theorem State.setCtxA_thermal (s : State) (v) : (s.setCtxA v).thermal = s.thermal := rfl
@[simp] theorem State.setCtxA_lines (s : State) (v) : (s.setCtxA v).lines = s.lines := rfl
@[simp] theorem State.setCtxA_link (s : State) (v) : (s.setCtxA v).link = s.link := rfl
@[simp] theorem State.setCtxA_peers (s : State) (v) : (s.setCtxA v).peers = s.peers := rfl
@[simp] theorem State.setCtxA_store (s : State) (v) : (s.setCtxA v).store = s.store := rfl
@[simp] theorem State.setCtxA_report (s : State) (v) : (s.setCtxA v).report = s.report := rfl
@[simp] theorem State.setCtxA_freeCount (s : State) (v) : (s.setCtxA v).freeCount = s.freeCount := rfl
@[simp] theorem State.setCtxA_pending (s : State) (v) : (s.setCtxA v).pending = s.pending := rfl
@[simp] theorem State.setCtxB_station (s : State) (v) : (s.setCtxB v).station = s.station := rfl
@[simp] theorem State.setCtxB_number (s : State) (v) : (s.setCtxB v).number = s.number := rfl
@[simp] theorem State.setCtxB_setup (s : State) (v) : (s.setCtxB v).setup = s.setup := rfl
@[simp] theorem State.setCtxB_seq (s : State) (v) : (s.setCtxB v).seq = s.seq := rfl
@[simp] theorem State.setCtxB_ctxA (s : State) (v) : (s.setCtxB v).ctxA = s.ctxA := rfl
@[simp] theorem State.setCtxB_ctxB (s : State) (v) : (s.setCtxB v).ctxB = v := rfl
@[simp] theorem State.setCtxB_loader (s : State) (v) : (s.setCtxB v).loader = s.loader := rfl
@[simp] theorem State.setCtxB_raster (s : State) (v) : (s.setCtxB v).raster = s.raster := rfl
@[simp] theorem State.setCtxB_ring (s : State) (v) : (s.setCtxB v).ring = s.ring := rfl
@[simp] theorem State.setCtxB_timer (s : State) (v) : (s.setCtxB v).timer = s.timer := rfl
@[simp] theorem State.setCtxB_plan (s : State) (v) : (s.setCtxB v).plan = s.plan := rfl
@[simp] theorem State.setCtxB_head (s : State) (v) : (s.setCtxB v).head = s.head := rfl
@[simp] theorem State.setCtxB_thermal (s : State) (v) : (s.setCtxB v).thermal = s.thermal := rfl
@[simp] theorem State.setCtxB_lines (s : State) (v) : (s.setCtxB v).lines = s.lines := rfl
@[simp] theorem State.setCtxB_link (s : State) (v) : (s.setCtxB v).link = s.link := rfl
@[simp] theorem State.setCtxB_peers (s : State) (v) : (s.setCtxB v).peers = s.peers := rfl
@[simp] theorem State.setCtxB_store (s : State) (v) : (s.setCtxB v).store = s.store := rfl
@[simp] theorem State.setCtxB_report (s : State) (v) : (s.setCtxB v).report = s.report := rfl
@[simp] theorem State.setCtxB_freeCount (s : State) (v) : (s.setCtxB v).freeCount = s.freeCount := rfl
@[simp] theorem State.setCtxB_pending (s : State) (v) : (s.setCtxB v).pending = s.pending := rfl
@[simp] theorem State.setLoader_station (s : State) (v) : (s.setLoader v).station = s.station := rfl
@[simp] theorem State.setLoader_number (s : State) (v) : (s.setLoader v).number = s.number := rfl
@[simp] theorem State.setLoader_setup (s : State) (v) : (s.setLoader v).setup = s.setup := rfl
@[simp] theorem State.setLoader_seq (s : State) (v) : (s.setLoader v).seq = s.seq := rfl
@[simp] theorem State.setLoader_ctxA (s : State) (v) : (s.setLoader v).ctxA = s.ctxA := rfl
@[simp] theorem State.setLoader_ctxB (s : State) (v) : (s.setLoader v).ctxB = s.ctxB := rfl
@[simp] theorem State.setLoader_loader (s : State) (v) : (s.setLoader v).loader = v := rfl
@[simp] theorem State.setLoader_raster (s : State) (v) : (s.setLoader v).raster = s.raster := rfl
@[simp] theorem State.setLoader_ring (s : State) (v) : (s.setLoader v).ring = s.ring := rfl
@[simp] theorem State.setLoader_timer (s : State) (v) : (s.setLoader v).timer = s.timer := rfl
@[simp] theorem State.setLoader_plan (s : State) (v) : (s.setLoader v).plan = s.plan := rfl
@[simp] theorem State.setLoader_head (s : State) (v) : (s.setLoader v).head = s.head := rfl
@[simp] theorem State.setLoader_thermal (s : State) (v) : (s.setLoader v).thermal = s.thermal := rfl
@[simp] theorem State.setLoader_lines (s : State) (v) : (s.setLoader v).lines = s.lines := rfl
@[simp] theorem State.setLoader_link (s : State) (v) : (s.setLoader v).link = s.link := rfl
@[simp] theorem State.setLoader_peers (s : State) (v) : (s.setLoader v).peers = s.peers := rfl
@[simp] theorem State.setLoader_store (s : State) (v) : (s.setLoader v).store = s.store := rfl
@[simp] theorem State.setLoader_report (s : State) (v) : (s.setLoader v).report = s.report := rfl
@[simp] theorem State.setLoader_freeCount (s : State) (v) : (s.setLoader v).freeCount = s.freeCount := rfl
@[simp] theorem State.setLoader_pending (s : State) (v) : (s.setLoader v).pending = s.pending := rfl
@[simp] theorem State.setRaster_station (s : State) (v) : (s.setRaster v).station = s.station := rfl
@[simp] theorem State.setRaster_number (s : State) (v) : (s.setRaster v).number = s.number := rfl
@[simp] theorem State.setRaster_setup (s : State) (v) : (s.setRaster v).setup = s.setup := rfl
@[simp] theorem State.setRaster_seq (s : State) (v) : (s.setRaster v).seq = s.seq := rfl
@[simp] theorem State.setRaster_ctxA (s : State) (v) : (s.setRaster v).ctxA = s.ctxA := rfl
@[simp] theorem State.setRaster_ctxB (s : State) (v) : (s.setRaster v).ctxB = s.ctxB := rfl
@[simp] theorem State.setRaster_loader (s : State) (v) : (s.setRaster v).loader = s.loader := rfl
@[simp] theorem State.setRaster_raster (s : State) (v) : (s.setRaster v).raster = v := rfl
@[simp] theorem State.setRaster_ring (s : State) (v) : (s.setRaster v).ring = s.ring := rfl
@[simp] theorem State.setRaster_timer (s : State) (v) : (s.setRaster v).timer = s.timer := rfl
@[simp] theorem State.setRaster_plan (s : State) (v) : (s.setRaster v).plan = s.plan := rfl
@[simp] theorem State.setRaster_head (s : State) (v) : (s.setRaster v).head = s.head := rfl
@[simp] theorem State.setRaster_thermal (s : State) (v) : (s.setRaster v).thermal = s.thermal := rfl
@[simp] theorem State.setRaster_lines (s : State) (v) : (s.setRaster v).lines = s.lines := rfl
@[simp] theorem State.setRaster_link (s : State) (v) : (s.setRaster v).link = s.link := rfl
@[simp] theorem State.setRaster_peers (s : State) (v) : (s.setRaster v).peers = s.peers := rfl
@[simp] theorem State.setRaster_store (s : State) (v) : (s.setRaster v).store = s.store := rfl
@[simp] theorem State.setRaster_report (s : State) (v) : (s.setRaster v).report = s.report := rfl
@[simp] theorem State.setRaster_freeCount (s : State) (v) : (s.setRaster v).freeCount = s.freeCount := rfl
@[simp] theorem State.setRaster_pending (s : State) (v) : (s.setRaster v).pending = s.pending := rfl
@[simp] theorem State.setRing_station (s : State) (v) : (s.setRing v).station = s.station := rfl
@[simp] theorem State.setRing_number (s : State) (v) : (s.setRing v).number = s.number := rfl
@[simp] theorem State.setRing_setup (s : State) (v) : (s.setRing v).setup = s.setup := rfl
@[simp] theorem State.setRing_seq (s : State) (v) : (s.setRing v).seq = s.seq := rfl
@[simp] theorem State.setRing_ctxA (s : State) (v) : (s.setRing v).ctxA = s.ctxA := rfl
@[simp] theorem State.setRing_ctxB (s : State) (v) : (s.setRing v).ctxB = s.ctxB := rfl
@[simp] theorem State.setRing_loader (s : State) (v) : (s.setRing v).loader = s.loader := rfl
@[simp] theorem State.setRing_raster (s : State) (v) : (s.setRing v).raster = s.raster := rfl
@[simp] theorem State.setRing_ring (s : State) (v) : (s.setRing v).ring = v := rfl
@[simp] theorem State.setRing_timer (s : State) (v) : (s.setRing v).timer = s.timer := rfl
@[simp] theorem State.setRing_plan (s : State) (v) : (s.setRing v).plan = s.plan := rfl
@[simp] theorem State.setRing_head (s : State) (v) : (s.setRing v).head = s.head := rfl
@[simp] theorem State.setRing_thermal (s : State) (v) : (s.setRing v).thermal = s.thermal := rfl
@[simp] theorem State.setRing_lines (s : State) (v) : (s.setRing v).lines = s.lines := rfl
@[simp] theorem State.setRing_link (s : State) (v) : (s.setRing v).link = s.link := rfl
@[simp] theorem State.setRing_peers (s : State) (v) : (s.setRing v).peers = s.peers := rfl
@[simp] theorem State.setRing_store (s : State) (v) : (s.setRing v).store = s.store := rfl
@[simp] theorem State.setRing_report (s : State) (v) : (s.setRing v).report = s.report := rfl
@[simp] theorem State.setRing_freeCount (s : State) (v) : (s.setRing v).freeCount = s.freeCount := rfl
@[simp] theorem State.setRing_pending (s : State) (v) : (s.setRing v).pending = s.pending := rfl
@[simp] theorem State.setTimer_station (s : State) (v) : (s.setTimer v).station = s.station := rfl
@[simp] theorem State.setTimer_number (s : State) (v) : (s.setTimer v).number = s.number := rfl
@[simp] theorem State.setTimer_setup (s : State) (v) : (s.setTimer v).setup = s.setup := rfl
@[simp] theorem State.setTimer_seq (s : State) (v) : (s.setTimer v).seq = s.seq := rfl
@[simp] theorem State.setTimer_ctxA (s : State) (v) : (s.setTimer v).ctxA = s.ctxA := rfl
@[simp] theorem State.setTimer_ctxB (s : State) (v) : (s.setTimer v).ctxB = s.ctxB := rfl
@[simp] theorem State.setTimer_loader (s : State) (v) : (s.setTimer v).loader = s.loader := rfl
@[simp] theorem State.setTimer_raster (s : State) (v) : (s.setTimer v).raster = s.raster := rfl
@[simp] theorem State.setTimer_ring (s : State) (v) : (s.setTimer v).ring = s.ring := rfl
@[simp] theorem State.setTimer_timer (s : State) (v) : (s.setTimer v).timer = v := rfl
@[simp] theorem State.setTimer_plan (s : State) (v) : (s.setTimer v).plan = s.plan := rfl
@[simp] theorem State.setTimer_head (s : State) (v) : (s.setTimer v).head = s.head := rfl
@[simp] theorem State.setTimer_thermal (s : State) (v) : (s.setTimer v).thermal = s.thermal := rfl
@[simp] theorem State.setTimer_lines (s : State) (v) : (s.setTimer v).lines = s.lines := rfl
@[simp] theorem State.setTimer_link (s : State) (v) : (s.setTimer v).link = s.link := rfl
@[simp] theorem State.setTimer_peers (s : State) (v) : (s.setTimer v).peers = s.peers := rfl
@[simp] theorem State.setTimer_store (s : State) (v) : (s.setTimer v).store = s.store := rfl
@[simp] theorem State.setTimer_report (s : State) (v) : (s.setTimer v).report = s.report := rfl
@[simp] theorem State.setTimer_freeCount (s : State) (v) : (s.setTimer v).freeCount = s.freeCount := rfl
@[simp] theorem State.setTimer_pending (s : State) (v) : (s.setTimer v).pending = s.pending := rfl
@[simp] theorem State.setPlan_station (s : State) (v) : (s.setPlan v).station = s.station := rfl
@[simp] theorem State.setPlan_number (s : State) (v) : (s.setPlan v).number = s.number := rfl
@[simp] theorem State.setPlan_setup (s : State) (v) : (s.setPlan v).setup = s.setup := rfl
@[simp] theorem State.setPlan_seq (s : State) (v) : (s.setPlan v).seq = s.seq := rfl
@[simp] theorem State.setPlan_ctxA (s : State) (v) : (s.setPlan v).ctxA = s.ctxA := rfl
@[simp] theorem State.setPlan_ctxB (s : State) (v) : (s.setPlan v).ctxB = s.ctxB := rfl
@[simp] theorem State.setPlan_loader (s : State) (v) : (s.setPlan v).loader = s.loader := rfl
@[simp] theorem State.setPlan_raster (s : State) (v) : (s.setPlan v).raster = s.raster := rfl
@[simp] theorem State.setPlan_ring (s : State) (v) : (s.setPlan v).ring = s.ring := rfl
@[simp] theorem State.setPlan_timer (s : State) (v) : (s.setPlan v).timer = s.timer := rfl
@[simp] theorem State.setPlan_plan (s : State) (v) : (s.setPlan v).plan = v := rfl
@[simp] theorem State.setPlan_head (s : State) (v) : (s.setPlan v).head = s.head := rfl
@[simp] theorem State.setPlan_thermal (s : State) (v) : (s.setPlan v).thermal = s.thermal := rfl
@[simp] theorem State.setPlan_lines (s : State) (v) : (s.setPlan v).lines = s.lines := rfl
@[simp] theorem State.setPlan_link (s : State) (v) : (s.setPlan v).link = s.link := rfl
@[simp] theorem State.setPlan_peers (s : State) (v) : (s.setPlan v).peers = s.peers := rfl
@[simp] theorem State.setPlan_store (s : State) (v) : (s.setPlan v).store = s.store := rfl
@[simp] theorem State.setPlan_report (s : State) (v) : (s.setPlan v).report = s.report := rfl
@[simp] theorem State.setPlan_freeCount (s : State) (v) : (s.setPlan v).freeCount = s.freeCount := rfl
@[simp] theorem State.setPlan_pending (s : State) (v) : (s.setPlan v).pending = s.pending := rfl
@[simp] theorem State.setHead_station (s : State) (v) : (s.setHead v).station = s.station := rfl
@[simp] theorem State.setHead_number (s : State) (v) : (s.setHead v).number = s.number := rfl
@[simp] theorem State.setHead_setup (s : State) (v) : (s.setHead v).setup = s.setup := rfl
@[simp] theorem State.setHead_seq (s : State) (v) : (s.setHead v).seq = s.seq := rfl
@[simp] theorem State.setHead_ctxA (s : State) (v) : (s.setHead v).ctxA = s.ctxA := rfl
@[simp] theorem State.setHead_ctxB (s : State) (v) : (s.setHead v).ctxB = s.ctxB := rfl
@[simp] theorem State.setHead_loader (s : State) (v) : (s.setHead v).loader = s.loader := rfl
@[simp] theorem State.setHead_raster (s : State) (v) : (s.setHead v).raster = s.raster := rfl
@[simp] theorem State.setHead_ring (s : State) (v) : (s.setHead v).ring = s.ring := rfl
@[simp] theorem State.setHead_timer (s : State) (v) : (s.setHead v).timer = s.timer := rfl
@[simp] theorem State.setHead_plan (s : State) (v) : (s.setHead v).plan = s.plan := rfl
@[simp] theorem State.setHead_head (s : State) (v) : (s.setHead v).head = v := rfl
@[simp] theorem State.setHead_thermal (s : State) (v) : (s.setHead v).thermal = s.thermal := rfl
@[simp] theorem State.setHead_lines (s : State) (v) : (s.setHead v).lines = s.lines := rfl
@[simp] theorem State.setHead_link (s : State) (v) : (s.setHead v).link = s.link := rfl
@[simp] theorem State.setHead_peers (s : State) (v) : (s.setHead v).peers = s.peers := rfl
@[simp] theorem State.setHead_store (s : State) (v) : (s.setHead v).store = s.store := rfl
@[simp] theorem State.setHead_report (s : State) (v) : (s.setHead v).report = s.report := rfl
@[simp] theorem State.setHead_freeCount (s : State) (v) : (s.setHead v).freeCount = s.freeCount := rfl
@[simp] theorem State.setHead_pending (s : State) (v) : (s.setHead v).pending = s.pending := rfl
@[simp] theorem State.setThermal_station (s : State) (v) : (s.setThermal v).station = s.station := rfl
@[simp] theorem State.setThermal_number (s : State) (v) : (s.setThermal v).number = s.number := rfl
@[simp] theorem State.setThermal_setup (s : State) (v) : (s.setThermal v).setup = s.setup := rfl
@[simp] theorem State.setThermal_seq (s : State) (v) : (s.setThermal v).seq = s.seq := rfl
@[simp] theorem State.setThermal_ctxA (s : State) (v) : (s.setThermal v).ctxA = s.ctxA := rfl
@[simp] theorem State.setThermal_ctxB (s : State) (v) : (s.setThermal v).ctxB = s.ctxB := rfl
@[simp] theorem State.setThermal_loader (s : State) (v) : (s.setThermal v).loader = s.loader := rfl
@[simp] theorem State.setThermal_raster (s : State) (v) : (s.setThermal v).raster = s.raster := rfl
@[simp] theorem State.setThermal_ring (s : State) (v) : (s.setThermal v).ring = s.ring := rfl
@[simp] theorem State.setThermal_timer (s : State) (v) : (s.setThermal v).timer = s.timer := rfl
@[simp] theorem State.setThermal_plan (s : State) (v) : (s.setThermal v).plan = s.plan := rfl
@[simp] theorem State.setThermal_head (s : State) (v) : (s.setThermal v).head = s.head := rfl
@[simp] theorem State.setThermal_thermal (s : State) (v) : (s.setThermal v).thermal = v := rfl
@[simp] theorem State.setThermal_lines (s : State) (v) : (s.setThermal v).lines = s.lines := rfl
@[simp] theorem State.setThermal_link (s : State) (v) : (s.setThermal v).link = s.link := rfl
@[simp] theorem State.setThermal_peers (s : State) (v) : (s.setThermal v).peers = s.peers := rfl
@[simp] theorem State.setThermal_store (s : State) (v) : (s.setThermal v).store = s.store := rfl
@[simp] theorem State.setThermal_report (s : State) (v) : (s.setThermal v).report = s.report := rfl
@[simp] theorem State.setThermal_freeCount (s : State) (v) : (s.setThermal v).freeCount = s.freeCount := rfl
@[simp] theorem State.setThermal_pending (s : State) (v) : (s.setThermal v).pending = s.pending := rfl
@[simp] theorem State.setLines_station (s : State) (v) : (s.setLines v).station = s.station := rfl
@[simp] theorem State.setLines_number (s : State) (v) : (s.setLines v).number = s.number := rfl
@[simp] theorem State.setLines_setup (s : State) (v) : (s.setLines v).setup = s.setup := rfl
@[simp] theorem State.setLines_seq (s : State) (v) : (s.setLines v).seq = s.seq := rfl
@[simp] theorem State.setLines_ctxA (s : State) (v) : (s.setLines v).ctxA = s.ctxA := rfl
@[simp] theorem State.setLines_ctxB (s : State) (v) : (s.setLines v).ctxB = s.ctxB := rfl
@[simp] theorem State.setLines_loader (s : State) (v) : (s.setLines v).loader = s.loader := rfl
@[simp] theorem State.setLines_raster (s : State) (v) : (s.setLines v).raster = s.raster := rfl
@[simp] theorem State.setLines_ring (s : State) (v) : (s.setLines v).ring = s.ring := rfl
@[simp] theorem State.setLines_timer (s : State) (v) : (s.setLines v).timer = s.timer := rfl
@[simp] theorem State.setLines_plan (s : State) (v) : (s.setLines v).plan = s.plan := rfl
@[simp] theorem State.setLines_head (s : State) (v) : (s.setLines v).head = s.head := rfl
@[simp] theorem State.setLines_thermal (s : State) (v) : (s.setLines v).thermal = s.thermal := rfl
@[simp] theorem State.setLines_lines (s : State) (v) : (s.setLines v).lines = v := rfl
@[simp] theorem State.setLines_link (s : State) (v) : (s.setLines v).link = s.link := rfl
@[simp] theorem State.setLines_peers (s : State) (v) : (s.setLines v).peers = s.peers := rfl
@[simp] theorem State.setLines_store (s : State) (v) : (s.setLines v).store = s.store := rfl
@[simp] theorem State.setLines_report (s : State) (v) : (s.setLines v).report = s.report := rfl
@[simp] theorem State.setLines_freeCount (s : State) (v) : (s.setLines v).freeCount = s.freeCount := rfl
@[simp] theorem State.setLines_pending (s : State) (v) : (s.setLines v).pending = s.pending := rfl
@[simp] theorem State.setLink_station (s : State) (v) : (s.setLink v).station = s.station := rfl
@[simp] theorem State.setLink_number (s : State) (v) : (s.setLink v).number = s.number := rfl
@[simp] theorem State.setLink_setup (s : State) (v) : (s.setLink v).setup = s.setup := rfl
@[simp] theorem State.setLink_seq (s : State) (v) : (s.setLink v).seq = s.seq := rfl
@[simp] theorem State.setLink_ctxA (s : State) (v) : (s.setLink v).ctxA = s.ctxA := rfl
@[simp] theorem State.setLink_ctxB (s : State) (v) : (s.setLink v).ctxB = s.ctxB := rfl
@[simp] theorem State.setLink_loader (s : State) (v) : (s.setLink v).loader = s.loader := rfl
@[simp] theorem State.setLink_raster (s : State) (v) : (s.setLink v).raster = s.raster := rfl
@[simp] theorem State.setLink_ring (s : State) (v) : (s.setLink v).ring = s.ring := rfl
@[simp] theorem State.setLink_timer (s : State) (v) : (s.setLink v).timer = s.timer := rfl
@[simp] theorem State.setLink_plan (s : State) (v) : (s.setLink v).plan = s.plan := rfl
@[simp] theorem State.setLink_head (s : State) (v) : (s.setLink v).head = s.head := rfl
@[simp] theorem State.setLink_thermal (s : State) (v) : (s.setLink v).thermal = s.thermal := rfl
@[simp] theorem State.setLink_lines (s : State) (v) : (s.setLink v).lines = s.lines := rfl
@[simp] theorem State.setLink_link (s : State) (v) : (s.setLink v).link = v := rfl
@[simp] theorem State.setLink_peers (s : State) (v) : (s.setLink v).peers = s.peers := rfl
@[simp] theorem State.setLink_store (s : State) (v) : (s.setLink v).store = s.store := rfl
@[simp] theorem State.setLink_report (s : State) (v) : (s.setLink v).report = s.report := rfl
@[simp] theorem State.setLink_freeCount (s : State) (v) : (s.setLink v).freeCount = s.freeCount := rfl
@[simp] theorem State.setLink_pending (s : State) (v) : (s.setLink v).pending = s.pending := rfl
@[simp] theorem State.setPeers_station (s : State) (v) : (s.setPeers v).station = s.station := rfl
@[simp] theorem State.setPeers_number (s : State) (v) : (s.setPeers v).number = s.number := rfl
@[simp] theorem State.setPeers_setup (s : State) (v) : (s.setPeers v).setup = s.setup := rfl
@[simp] theorem State.setPeers_seq (s : State) (v) : (s.setPeers v).seq = s.seq := rfl
@[simp] theorem State.setPeers_ctxA (s : State) (v) : (s.setPeers v).ctxA = s.ctxA := rfl
@[simp] theorem State.setPeers_ctxB (s : State) (v) : (s.setPeers v).ctxB = s.ctxB := rfl
@[simp] theorem State.setPeers_loader (s : State) (v) : (s.setPeers v).loader = s.loader := rfl
@[simp] theorem State.setPeers_raster (s : State) (v) : (s.setPeers v).raster = s.raster := rfl
@[simp] theorem State.setPeers_ring (s : State) (v) : (s.setPeers v).ring = s.ring := rfl
@[simp] theorem State.setPeers_timer (s : State) (v) : (s.setPeers v).timer = s.timer := rfl
@[simp] theorem State.setPeers_plan (s : State) (v) : (s.setPeers v).plan = s.plan := rfl
@[simp] theorem State.setPeers_head (s : State) (v) : (s.setPeers v).head = s.head := rfl
@[simp] theorem State.setPeers_thermal (s : State) (v) : (s.setPeers v).thermal = s.thermal := rfl
@[simp] theorem State.setPeers_lines (s : State) (v) : (s.setPeers v).lines = s.lines := rfl
@[simp] theorem State.setPeers_link (s : State) (v) : (s.setPeers v).link = s.link := rfl
@[simp] theorem State.setPeers_peers (s : State) (v) : (s.setPeers v).peers = v := rfl
@[simp] theorem State.setPeers_store (s : State) (v) : (s.setPeers v).store = s.store := rfl
@[simp] theorem State.setPeers_report (s : State) (v) : (s.setPeers v).report = s.report := rfl
@[simp] theorem State.setPeers_freeCount (s : State) (v) : (s.setPeers v).freeCount = s.freeCount := rfl
@[simp] theorem State.setPeers_pending (s : State) (v) : (s.setPeers v).pending = s.pending := rfl
@[simp] theorem State.setStore_station (s : State) (v) : (s.setStore v).station = s.station := rfl
@[simp] theorem State.setStore_number (s : State) (v) : (s.setStore v).number = s.number := rfl
@[simp] theorem State.setStore_setup (s : State) (v) : (s.setStore v).setup = s.setup := rfl
@[simp] theorem State.setStore_seq (s : State) (v) : (s.setStore v).seq = s.seq := rfl
@[simp] theorem State.setStore_ctxA (s : State) (v) : (s.setStore v).ctxA = s.ctxA := rfl
@[simp] theorem State.setStore_ctxB (s : State) (v) : (s.setStore v).ctxB = s.ctxB := rfl
@[simp] theorem State.setStore_loader (s : State) (v) : (s.setStore v).loader = s.loader := rfl
@[simp] theorem State.setStore_raster (s : State) (v) : (s.setStore v).raster = s.raster := rfl
@[simp] theorem State.setStore_ring (s : State) (v) : (s.setStore v).ring = s.ring := rfl
@[simp] theorem State.setStore_timer (s : State) (v) : (s.setStore v).timer = s.timer := rfl
@[simp] theorem State.setStore_plan (s : State) (v) : (s.setStore v).plan = s.plan := rfl
@[simp] theorem State.setStore_head (s : State) (v) : (s.setStore v).head = s.head := rfl
@[simp] theorem State.setStore_thermal (s : State) (v) : (s.setStore v).thermal = s.thermal := rfl
@[simp] theorem State.setStore_lines (s : State) (v) : (s.setStore v).lines = s.lines := rfl
@[simp] theorem State.setStore_link (s : State) (v) : (s.setStore v).link = s.link := rfl
@[simp] theorem State.setStore_peers (s : State) (v) : (s.setStore v).peers = s.peers := rfl
@[simp] theorem State.setStore_store (s : State) (v) : (s.setStore v).store = v := rfl
@[simp] theorem State.setStore_report (s : State) (v) : (s.setStore v).report = s.report := rfl
@[simp] theorem State.setStore_freeCount (s : State) (v) : (s.setStore v).freeCount = s.freeCount := rfl
@[simp] theorem State.setStore_pending (s : State) (v) : (s.setStore v).pending = s.pending := rfl
@[simp] theorem State.setReport_station (s : State) (v) : (s.setReport v).station = s.station := rfl
@[simp] theorem State.setReport_number (s : State) (v) : (s.setReport v).number = s.number := rfl
@[simp] theorem State.setReport_setup (s : State) (v) : (s.setReport v).setup = s.setup := rfl
@[simp] theorem State.setReport_seq (s : State) (v) : (s.setReport v).seq = s.seq := rfl
@[simp] theorem State.setReport_ctxA (s : State) (v) : (s.setReport v).ctxA = s.ctxA := rfl
@[simp] theorem State.setReport_ctxB (s : State) (v) : (s.setReport v).ctxB = s.ctxB := rfl
@[simp] theorem State.setReport_loader (s : State) (v) : (s.setReport v).loader = s.loader := rfl
@[simp] theorem State.setReport_raster (s : State) (v) : (s.setReport v).raster = s.raster := rfl
@[simp] theorem State.setReport_ring (s : State) (v) : (s.setReport v).ring = s.ring := rfl
@[simp] theorem State.setReport_timer (s : State) (v) : (s.setReport v).timer = s.timer := rfl
@[simp] theorem State.setReport_plan (s : State) (v) : (s.setReport v).plan = s.plan := rfl
@[simp] theorem State.setReport_head (s : State) (v) : (s.setReport v).head = s.head := rfl
@[simp] theorem State.setReport_thermal (s : State) (v) : (s.setReport v).thermal = s.thermal := rfl
@[simp] theorem State.setReport_lines (s : State) (v) : (s.setReport v).lines = s.lines := rfl
@[simp] theorem State.setReport_link (s : State) (v) : (s.setReport v).link = s.link := rfl
@[simp] theorem State.setReport_peers (s : State) (v) : (s.setReport v).peers = s.peers := rfl
@[simp] theorem State.setReport_store (s : State) (v) : (s.setReport v).store = s.store := rfl
@[simp] theorem State.setReport_report (s : State) (v) : (s.setReport v).report = v := rfl
@[simp] theorem State.setReport_freeCount (s : State) (v) : (s.setReport v).freeCount = s.freeCount := rfl
@[simp] theorem State.setReport_pending (s : State) (v) : (s.setReport v).pending = s.pending := rfl
@[simp] theorem State.setFreeCount_station (s : State) (v) : (s.setFreeCount v).station = s.station := rfl
@[simp] theorem State.setFreeCount_number (s : State) (v) : (s.setFreeCount v).number = s.number := rfl
@[simp] theorem State.setFreeCount_setup (s : State) (v) : (s.setFreeCount v).setup = s.setup := rfl
@[simp] theorem State.setFreeCount_seq (s : State) (v) : (s.setFreeCount v).seq = s.seq := rfl
@[simp] theorem State.setFreeCount_ctxA (s : State) (v) : (s.setFreeCount v).ctxA = s.ctxA := rfl
@[simp] theorem State.setFreeCount_ctxB (s : State) (v) : (s.setFreeCount v).ctxB = s.ctxB := rfl
@[simp] theorem State.setFreeCount_loader (s : State) (v) : (s.setFreeCount v).loader = s.loader := rfl
@[simp] theorem State.setFreeCount_raster (s : State) (v) : (s.setFreeCount v).raster = s.raster := rfl
@[simp] theorem State.setFreeCount_ring (s : State) (v) : (s.setFreeCount v).ring = s.ring := rfl
@[simp] theorem State.setFreeCount_timer (s : State) (v) : (s.setFreeCount v).timer = s.timer := rfl
@[simp] theorem State.setFreeCount_plan (s : State) (v) : (s.setFreeCount v).plan = s.plan := rfl
@[simp] theorem State.setFreeCount_head (s : State) (v) : (s.setFreeCount v).head = s.head := rfl
@[simp] theorem State.setFreeCount_thermal (s : State) (v) : (s.setFreeCount v).thermal = s.thermal := rfl
@[simp] theorem State.setFreeCount_lines (s : State) (v) : (s.setFreeCount v).lines = s.lines := rfl
@[simp] theorem State.setFreeCount_link (s : State) (v) : (s.setFreeCount v).link = s.link := rfl
@[simp] theorem State.setFreeCount_peers (s : State) (v) : (s.setFreeCount v).peers = s.peers := rfl
@[simp] theorem State.setFreeCount_store (s : State) (v) : (s.setFreeCount v).store = s.store := rfl
@[simp] theorem State.setFreeCount_report (s : State) (v) : (s.setFreeCount v).report = s.report := rfl
@[simp] theorem State.setFreeCount_freeCount (s : State) (v) : (s.setFreeCount v).freeCount = v := rfl
@[simp] theorem State.setFreeCount_pending (s : State) (v) : (s.setFreeCount v).pending = s.pending := rfl
@[simp] theorem State.setPending_station (s : State) (v) : (s.setPending v).station = s.station := rfl
@[simp] theorem State.setPending_number (s : State) (v) : (s.setPending v).number = s.number := rfl
@[simp] theorem State.setPending_setup (s : State) (v) : (s.setPending v).setup = s.setup := rfl
@[simp] theorem State.setPending_seq (s : State) (v) : (s.setPending v).seq = s.seq := rfl
@[simp] theorem State.setPending_ctxA (s : State) (v) : (s.setPending v).ctxA = s.ctxA := rfl
@[simp] theorem State.setPending_ctxB (s : State) (v) : (s.setPending v).ctxB = s.ctxB := rfl
@[simp] theorem State.setPending_loader (s : State) (v) : (s.setPending v).loader = s.loader := rfl
@[simp] theorem State.setPending_raster (s : State) (v) : (s.setPending v).raster = s.raster := rfl
@[simp] theorem State.setPending_ring (s : State) (v) : (s.setPending v).ring = s.ring := rfl
@[simp] theorem State.setPending_timer (s : State) (v) : (s.setPending v).timer = s.timer := rfl
@[simp] theorem State.setPending_plan (s : State) (v) : (s.setPending v).plan = s.plan := rfl
@[simp] theorem State.setPending_head (s : State) (v) : (s.setPending v).head = s.head := rfl
@[simp] theorem State.setPending_thermal (s : State) (v) : (s.setPending v).thermal = s.thermal := rfl
@[simp] theorem State.setPending_lines (s : State) (v) : (s.setPending v).lines = s.lines := rfl
@[simp] theorem State.setPending_link (s : State) (v) : (s.setPending v).link = s.link := rfl
@[simp] theorem State.setPending_peers (s : State) (v) : (s.setPending v).peers = s.peers := rfl
@[simp] theorem State.setPending_store (s : State) (v) : (s.setPending v).store = s.store := rfl
@[simp] theorem State.setPending_report (s : State) (v) : (s.setPending v).report = s.report := rfl
@[simp] theorem State.setPending_freeCount (s : State) (v) : (s.setPending v).freeCount = s.freeCount := rfl
@[simp] theorem State.setPending_pending (s : State) (v) : (s.setPending v).pending = v := rfl

@[simp] theorem State.ctx_a (s : State) : s.ctx .a = s.ctxA := rfl
@[simp] theorem State.ctx_b (s : State) : s.ctx .b = s.ctxB := rfl
@[simp] theorem State.setCtx_a (s : State) (c) : s.setCtx .a c = s.setCtxA c := rfl
@[simp] theorem State.setCtx_b (s : State) (c) : s.setCtx .b c = s.setCtxB c := rfl
@[simp] theorem State.setCtx_station (s : State) (i c) : (s.setCtx i c).station = s.station := by cases i <;> rfl
@[simp] theorem State.setCtx_number (s : State) (i c) : (s.setCtx i c).number = s.number := by cases i <;> rfl
@[simp] theorem State.setCtx_setup (s : State) (i c) : (s.setCtx i c).setup = s.setup := by cases i <;> rfl
@[simp] theorem State.setCtx_seq (s : State) (i c) : (s.setCtx i c).seq = s.seq := by cases i <;> rfl
@[simp] theorem State.setCtx_loader (s : State) (i c) : (s.setCtx i c).loader = s.loader := by cases i <;> rfl
@[simp] theorem State.setCtx_raster (s : State) (i c) : (s.setCtx i c).raster = s.raster := by cases i <;> rfl
@[simp] theorem State.setCtx_ring (s : State) (i c) : (s.setCtx i c).ring = s.ring := by cases i <;> rfl
@[simp] theorem State.setCtx_timer (s : State) (i c) : (s.setCtx i c).timer = s.timer := by cases i <;> rfl
@[simp] theorem State.setCtx_plan (s : State) (i c) : (s.setCtx i c).plan = s.plan := by cases i <;> rfl
@[simp] theorem State.setCtx_head (s : State) (i c) : (s.setCtx i c).head = s.head := by cases i <;> rfl
@[simp] theorem State.setCtx_thermal (s : State) (i c) : (s.setCtx i c).thermal = s.thermal := by cases i <;> rfl
@[simp] theorem State.setCtx_lines (s : State) (i c) : (s.setCtx i c).lines = s.lines := by cases i <;> rfl
@[simp] theorem State.setCtx_link (s : State) (i c) : (s.setCtx i c).link = s.link := by cases i <;> rfl
@[simp] theorem State.setCtx_peers (s : State) (i c) : (s.setCtx i c).peers = s.peers := by cases i <;> rfl
@[simp] theorem State.setCtx_store (s : State) (i c) : (s.setCtx i c).store = s.store := by cases i <;> rfl
@[simp] theorem State.setCtx_report (s : State) (i c) : (s.setCtx i c).report = s.report := by cases i <;> rfl
@[simp] theorem State.setCtx_freeCount (s : State) (i c) : (s.setCtx i c).freeCount = s.freeCount := by cases i <;> rfl
@[simp] theorem State.setCtx_pending (s : State) (i c) : (s.setCtx i c).pending = s.pending := by cases i <;> rfl
@[simp] theorem State.setStation_ctx (s : State) (v) (i) : (s.setStation v).ctx i = s.ctx i := by cases i <;> rfl
@[simp] theorem State.setSetup_ctx (s : State) (v) (i) : (s.setSetup v).ctx i = s.ctx i := by cases i <;> rfl
@[simp] theorem State.setSeq_ctx (s : State) (v) (i) : (s.setSeq v).ctx i = s.ctx i := by cases i <;> rfl
@[simp] theorem State.setLoader_ctx (s : State) (v) (i) : (s.setLoader v).ctx i = s.ctx i := by cases i <;> rfl
@[simp] theorem State.setRaster_ctx (s : State) (v) (i) : (s.setRaster v).ctx i = s.ctx i := by cases i <;> rfl
@[simp] theorem State.setRing_ctx (s : State) (v) (i) : (s.setRing v).ctx i = s.ctx i := by cases i <;> rfl
@[simp] theorem State.setTimer_ctx (s : State) (v) (i) : (s.setTimer v).ctx i = s.ctx i := by cases i <;> rfl
@[simp] theorem State.setPlan_ctx (s : State) (v) (i) : (s.setPlan v).ctx i = s.ctx i := by cases i <;> rfl
@[simp] theorem State.setHead_ctx (s : State) (v) (i) : (s.setHead v).ctx i = s.ctx i := by cases i <;> rfl
@[simp] theorem State.setThermal_ctx (s : State) (v) (i) : (s.setThermal v).ctx i = s.ctx i := by cases i <;> rfl
@[simp] theorem State.setLines_ctx (s : State) (v) (i) : (s.setLines v).ctx i = s.ctx i := by cases i <;> rfl
@[simp] theorem State.setLink_ctx (s : State) (v) (i) : (s.setLink v).ctx i = s.ctx i := by cases i <;> rfl
@[simp] theorem State.setPeers_ctx (s : State) (v) (i) : (s.setPeers v).ctx i = s.ctx i := by cases i <;> rfl
@[simp] theorem State.setStore_ctx (s : State) (v) (i) : (s.setStore v).ctx i = s.ctx i := by cases i <;> rfl
@[simp] theorem State.setReport_ctx (s : State) (v) (i) : (s.setReport v).ctx i = s.ctx i := by cases i <;> rfl
@[simp] theorem State.setFreeCount_ctx (s : State) (v) (i) : (s.setFreeCount v).ctx i = s.ctx i := by cases i <;> rfl
@[simp] theorem State.setPending_ctx (s : State) (v) (i) : (s.setPending v).ctx i = s.ctx i := by cases i <;> rfl

@[simp] theorem State.setCtx_ctx_self (s : State) (i c) : (s.setCtx i c).ctx i = c := by cases i <;> rfl

theorem State.setCtx_ctx (s : State) (i j c) : (s.setCtx i c).ctx j = if j = i then c else s.ctx j := by
  cases i <;> cases j <;> rfl

theorem State.setCtx_ctx_other (s : State) (i j c) (h : j ≠ i) : (s.setCtx i c).ctx j = s.ctx j := by
  rw [State.setCtx_ctx, if_neg h]

end Sys2Proof.Machine
end

