-- ==== Sys2Proof/Laws/Frames.lean ====
section
/-! SUPPORT. What each shared operation leaves unchanged, once for every operation: a conjunction that `simp`
uses field by field, so that no later proof unfolds an operation for its frame. -/

set_option linter.unusedTactic false
set_option linter.unnecessarySeqFocus false
set_option linter.unreachableTactic false

namespace Sys2Proof.Machine

/-! ## Flags -/

@[simp] theorem setCond_frame (s : State) (c : Cond) (v : Bool) :
    (setCond s c v).station = s.station ∧ (setCond s c v).number = s.number ∧
    (setCond s c v).setup = s.setup ∧ (setCond s c v).seq = s.seq ∧ (setCond s c v).ctxA = s.ctxA ∧
    (setCond s c v).ctxB = s.ctxB ∧ (setCond s c v).loader = s.loader ∧ (setCond s c v).raster = s.raster ∧
    (setCond s c v).ring = s.ring ∧ (setCond s c v).timer = s.timer ∧ (setCond s c v).plan = s.plan ∧
    (setCond s c v).head = s.head ∧ (setCond s c v).thermal = s.thermal ∧ (setCond s c v).lines = s.lines ∧
    (setCond s c v).peers = s.peers ∧ (setCond s c v).store = s.store ∧
    (setCond s c v).freeCount = s.freeCount ∧ (setCond s c v).pending = s.pending := by
  unfold setCond
  (try dsimp only)
  (repeat' split) <;> simp

@[simp] theorem setCond_ctx (s : State) (c : Cond) (v : Bool) (j : CtxId) : (setCond s c v).ctx j = s.ctx j := by
  cases j <;> simp [State.ctx]

@[simp] theorem countBad_frame (s : State) :
    (countBad s).station = s.station ∧ (countBad s).number = s.number ∧ (countBad s).setup = s.setup ∧
    (countBad s).seq = s.seq ∧ (countBad s).ctxA = s.ctxA ∧ (countBad s).ctxB = s.ctxB ∧
    (countBad s).loader = s.loader ∧ (countBad s).raster = s.raster ∧ (countBad s).ring = s.ring ∧
    (countBad s).timer = s.timer ∧ (countBad s).plan = s.plan ∧ (countBad s).head = s.head ∧
    (countBad s).thermal = s.thermal ∧ (countBad s).lines = s.lines ∧ (countBad s).peers = s.peers ∧
    (countBad s).store = s.store ∧ (countBad s).report = s.report ∧ (countBad s).freeCount = s.freeCount ∧
    (countBad s).pending = s.pending := by
  unfold countBad
  (try dsimp only)
  (repeat' split) <;> simp

@[simp] theorem countBad_ctx (s : State) (j : CtxId) : (countBad s).ctx j = s.ctx j := by
  cases j <;> simp [State.ctx]

@[simp] theorem countStale_frame (s : State) :
    (countStale s).station = s.station ∧ (countStale s).number = s.number ∧
    (countStale s).setup = s.setup ∧ (countStale s).seq = s.seq ∧ (countStale s).ctxA = s.ctxA ∧
    (countStale s).ctxB = s.ctxB ∧ (countStale s).loader = s.loader ∧ (countStale s).raster = s.raster ∧
    (countStale s).ring = s.ring ∧ (countStale s).timer = s.timer ∧ (countStale s).plan = s.plan ∧
    (countStale s).head = s.head ∧ (countStale s).thermal = s.thermal ∧ (countStale s).lines = s.lines ∧
    (countStale s).peers = s.peers ∧ (countStale s).store = s.store ∧ (countStale s).report = s.report ∧
    (countStale s).freeCount = s.freeCount ∧ (countStale s).pending = s.pending := by
  unfold countStale
  (try dsimp only)
  (repeat' split) <;> simp

@[simp] theorem countStale_ctx (s : State) (j : CtxId) : (countStale s).ctx j = s.ctx j := by
  cases j <;> simp [State.ctx]

@[simp] theorem countExcessive_frame (s : State) :
    (countExcessive s).station = s.station ∧ (countExcessive s).number = s.number ∧
    (countExcessive s).setup = s.setup ∧ (countExcessive s).seq = s.seq ∧
    (countExcessive s).ctxA = s.ctxA ∧ (countExcessive s).ctxB = s.ctxB ∧
    (countExcessive s).loader = s.loader ∧ (countExcessive s).raster = s.raster ∧
    (countExcessive s).ring = s.ring ∧ (countExcessive s).timer = s.timer ∧
    (countExcessive s).plan = s.plan ∧ (countExcessive s).head = s.head ∧
    (countExcessive s).thermal = s.thermal ∧ (countExcessive s).lines = s.lines ∧
    (countExcessive s).peers = s.peers ∧ (countExcessive s).store = s.store ∧
    (countExcessive s).report = s.report ∧ (countExcessive s).freeCount = s.freeCount ∧
    (countExcessive s).pending = s.pending := by
  unfold countExcessive
  (try dsimp only)
  (repeat' split) <;> simp

@[simp] theorem countExcessive_ctx (s : State) (j : CtxId) : (countExcessive s).ctx j = s.ctx j := by
  cases j <;> simp [State.ctx]

@[simp] theorem countDropped_frame (s : State) :
    (countDropped s).station = s.station ∧ (countDropped s).number = s.number ∧
    (countDropped s).setup = s.setup ∧ (countDropped s).seq = s.seq ∧ (countDropped s).ctxA = s.ctxA ∧
    (countDropped s).ctxB = s.ctxB ∧ (countDropped s).loader = s.loader ∧
    (countDropped s).raster = s.raster ∧ (countDropped s).ring = s.ring ∧
    (countDropped s).timer = s.timer ∧ (countDropped s).plan = s.plan ∧ (countDropped s).head = s.head ∧
    (countDropped s).thermal = s.thermal ∧ (countDropped s).lines = s.lines ∧
    (countDropped s).peers = s.peers ∧ (countDropped s).store = s.store ∧
    (countDropped s).freeCount = s.freeCount ∧ (countDropped s).pending = s.pending := by
  unfold countDropped
  (try dsimp only)
  (repeat' split) <;> simp

@[simp] theorem countDropped_ctx (s : State) (j : CtxId) : (countDropped s).ctx j = s.ctx j := by
  cases j <;> simp [State.ctx]

@[simp] theorem pushVoid_frame (s : State) (f : VoidFrame) :
    (pushVoid s f).station = s.station ∧ (pushVoid s f).number = s.number ∧
    (pushVoid s f).setup = s.setup ∧ (pushVoid s f).seq = s.seq ∧ (pushVoid s f).ctxA = s.ctxA ∧
    (pushVoid s f).ctxB = s.ctxB ∧ (pushVoid s f).loader = s.loader ∧ (pushVoid s f).raster = s.raster ∧
    (pushVoid s f).ring = s.ring ∧ (pushVoid s f).timer = s.timer ∧ (pushVoid s f).plan = s.plan ∧
    (pushVoid s f).head = s.head ∧ (pushVoid s f).thermal = s.thermal ∧ (pushVoid s f).lines = s.lines ∧
    (pushVoid s f).peers = s.peers ∧ (pushVoid s f).store = s.store ∧
    (pushVoid s f).freeCount = s.freeCount ∧ (pushVoid s f).pending = s.pending := by
  unfold pushVoid
  (try dsimp only)
  (repeat' split) <;> simp

@[simp] theorem pushVoid_ctx (s : State) (f : VoidFrame) (j : CtxId) : (pushVoid s f).ctx j = s.ctx j := by
  cases j <;> simp [State.ctx]

@[simp] theorem pushRecord_frame (s : State) (r : Record) :
    (pushRecord s r).station = s.station ∧ (pushRecord s r).number = s.number ∧
    (pushRecord s r).setup = s.setup ∧ (pushRecord s r).seq = s.seq ∧ (pushRecord s r).ctxA = s.ctxA ∧
    (pushRecord s r).ctxB = s.ctxB ∧ (pushRecord s r).loader = s.loader ∧
    (pushRecord s r).raster = s.raster ∧ (pushRecord s r).ring = s.ring ∧
    (pushRecord s r).timer = s.timer ∧ (pushRecord s r).plan = s.plan ∧ (pushRecord s r).head = s.head ∧
    (pushRecord s r).thermal = s.thermal ∧ (pushRecord s r).lines = s.lines ∧
    (pushRecord s r).peers = s.peers ∧ (pushRecord s r).store = s.store ∧
    (pushRecord s r).freeCount = s.freeCount ∧ (pushRecord s r).pending = s.pending := by
  unfold pushRecord
  (try dsimp only)
  (repeat' split) <;> simp

@[simp] theorem pushRecord_ctx (s : State) (r : Record) (j : CtxId) : (pushRecord s r).ctx j = s.ctx j := by
  cases j <;> simp [State.ctx]

@[simp] theorem driveRdy_frame (s : State) :
    (driveRdy s).station = s.station ∧ (driveRdy s).number = s.number ∧ (driveRdy s).setup = s.setup ∧
    (driveRdy s).seq = s.seq ∧ (driveRdy s).ctxA = s.ctxA ∧ (driveRdy s).ctxB = s.ctxB ∧
    (driveRdy s).loader = s.loader ∧ (driveRdy s).raster = s.raster ∧ (driveRdy s).ring = s.ring ∧
    (driveRdy s).timer = s.timer ∧ (driveRdy s).plan = s.plan ∧ (driveRdy s).head = s.head ∧
    (driveRdy s).thermal = s.thermal ∧ (driveRdy s).link = s.link ∧ (driveRdy s).peers = s.peers ∧
    (driveRdy s).store = s.store ∧ (driveRdy s).report = s.report ∧ (driveRdy s).freeCount = s.freeCount ∧
    (driveRdy s).pending = s.pending := by
  unfold driveRdy
  (try dsimp only)
  (repeat' split) <;> simp

@[simp] theorem driveRdy_ctx (s : State) (j : CtxId) : (driveRdy s).ctx j = s.ctx j := by
  cases j <;> simp [State.ctx]

@[simp] theorem driveSlw_frame (s : State) :
    (driveSlw s).station = s.station ∧ (driveSlw s).number = s.number ∧ (driveSlw s).setup = s.setup ∧
    (driveSlw s).seq = s.seq ∧ (driveSlw s).ctxA = s.ctxA ∧ (driveSlw s).ctxB = s.ctxB ∧
    (driveSlw s).loader = s.loader ∧ (driveSlw s).raster = s.raster ∧ (driveSlw s).ring = s.ring ∧
    (driveSlw s).timer = s.timer ∧ (driveSlw s).plan = s.plan ∧ (driveSlw s).head = s.head ∧
    (driveSlw s).thermal = s.thermal ∧ (driveSlw s).peers = s.peers ∧ (driveSlw s).store = s.store ∧
    (driveSlw s).freeCount = s.freeCount ∧ (driveSlw s).pending = s.pending := by
  unfold driveSlw
  (try dsimp only)
  (repeat' split) <;> simp

@[simp] theorem driveSlw_ctx (s : State) (j : CtxId) : (driveSlw s).ctx j = s.ctx j := by
  cases j <;> simp [State.ctx]

/-! ## Planner -/

@[simp] theorem formDemand_frame (s : State) :
    (formDemand s).station = s.station ∧ (formDemand s).number = s.number ∧
    (formDemand s).setup = s.setup ∧ (formDemand s).seq = s.seq ∧ (formDemand s).ctxA = s.ctxA ∧
    (formDemand s).ctxB = s.ctxB ∧ (formDemand s).loader = s.loader ∧ (formDemand s).raster = s.raster ∧
    (formDemand s).ring = s.ring ∧ (formDemand s).timer = s.timer ∧ (formDemand s).plan = s.plan ∧
    (formDemand s).head = s.head ∧ (formDemand s).thermal = s.thermal ∧ (formDemand s).lines = s.lines ∧
    (formDemand s).peers = s.peers ∧ (formDemand s).store = s.store ∧ (formDemand s).report = s.report ∧
    (formDemand s).freeCount = s.freeCount ∧ (formDemand s).pending = s.pending := by
  unfold formDemand
  (try dsimp only)
  (repeat' split) <;> simp

@[simp] theorem formDemand_ctx (s : State) (j : CtxId) : (formDemand s).ctx j = s.ctx j := by
  cases j <;> simp [State.ctx]

@[simp] theorem discardDemand_frame (s : State) :
    (discardDemand s).station = s.station ∧ (discardDemand s).number = s.number ∧
    (discardDemand s).setup = s.setup ∧ (discardDemand s).seq = s.seq ∧ (discardDemand s).ctxA = s.ctxA ∧
    (discardDemand s).ctxB = s.ctxB ∧ (discardDemand s).loader = s.loader ∧
    (discardDemand s).raster = s.raster ∧ (discardDemand s).ring = s.ring ∧
    (discardDemand s).timer = s.timer ∧ (discardDemand s).plan = s.plan ∧ (discardDemand s).head = s.head ∧
    (discardDemand s).thermal = s.thermal ∧ (discardDemand s).lines = s.lines ∧
    (discardDemand s).peers = s.peers ∧ (discardDemand s).store = s.store ∧
    (discardDemand s).report = s.report ∧ (discardDemand s).freeCount = s.freeCount ∧
    (discardDemand s).pending = s.pending := by
  unfold discardDemand
  (try dsimp only)
  (repeat' split) <;> simp

@[simp] theorem discardDemand_ctx (s : State) (j : CtxId) : (discardDemand s).ctx j = s.ctx j := by
  cases j <;> simp [State.ctx]

@[simp] theorem trimDemand_frame (s : State) :
    (trimDemand s).station = s.station ∧ (trimDemand s).number = s.number ∧
    (trimDemand s).setup = s.setup ∧ (trimDemand s).seq = s.seq ∧ (trimDemand s).ctxA = s.ctxA ∧
    (trimDemand s).ctxB = s.ctxB ∧ (trimDemand s).loader = s.loader ∧ (trimDemand s).raster = s.raster ∧
    (trimDemand s).ring = s.ring ∧ (trimDemand s).timer = s.timer ∧ (trimDemand s).plan = s.plan ∧
    (trimDemand s).head = s.head ∧ (trimDemand s).thermal = s.thermal ∧ (trimDemand s).lines = s.lines ∧
    (trimDemand s).peers = s.peers ∧ (trimDemand s).store = s.store ∧ (trimDemand s).report = s.report ∧
    (trimDemand s).freeCount = s.freeCount ∧ (trimDemand s).pending = s.pending := by
  unfold trimDemand
  (try dsimp only)
  (repeat' split) <;> simp

@[simp] theorem trimDemand_ctx (s : State) (j : CtxId) : (trimDemand s).ctx j = s.ctx j := by
  cases j <;> simp [State.ctx]

@[simp] theorem removeStaleDemands_frame (s : State) :
    (removeStaleDemands s).station = s.station ∧ (removeStaleDemands s).number = s.number ∧
    (removeStaleDemands s).setup = s.setup ∧ (removeStaleDemands s).seq = s.seq ∧
    (removeStaleDemands s).ctxA = s.ctxA ∧ (removeStaleDemands s).ctxB = s.ctxB ∧
    (removeStaleDemands s).loader = s.loader ∧ (removeStaleDemands s).raster = s.raster ∧
    (removeStaleDemands s).ring = s.ring ∧ (removeStaleDemands s).timer = s.timer ∧
    (removeStaleDemands s).plan = s.plan ∧ (removeStaleDemands s).head = s.head ∧
    (removeStaleDemands s).thermal = s.thermal ∧ (removeStaleDemands s).lines = s.lines ∧
    (removeStaleDemands s).peers = s.peers ∧ (removeStaleDemands s).store = s.store ∧
    (removeStaleDemands s).report = s.report ∧ (removeStaleDemands s).freeCount = s.freeCount ∧
    (removeStaleDemands s).pending = s.pending := by
  unfold removeStaleDemands
  (try dsimp only)
  (repeat' split) <;> simp

@[simp] theorem removeStaleDemands_ctx (s : State) (j : CtxId) : (removeStaleDemands s).ctx j = s.ctx j := by
  cases j <;> simp [State.ctx]

@[simp] theorem appendBacklog_frame (s : State) (e : DemandEntry) :
    (appendBacklog s e).station = s.station ∧ (appendBacklog s e).number = s.number ∧
    (appendBacklog s e).setup = s.setup ∧ (appendBacklog s e).seq = s.seq ∧
    (appendBacklog s e).ctxA = s.ctxA ∧ (appendBacklog s e).ctxB = s.ctxB ∧
    (appendBacklog s e).loader = s.loader ∧ (appendBacklog s e).raster = s.raster ∧
    (appendBacklog s e).ring = s.ring ∧ (appendBacklog s e).timer = s.timer ∧
    (appendBacklog s e).plan = s.plan ∧ (appendBacklog s e).head = s.head ∧
    (appendBacklog s e).thermal = s.thermal ∧ (appendBacklog s e).lines = s.lines ∧
    (appendBacklog s e).peers = s.peers ∧ (appendBacklog s e).store = s.store ∧
    (appendBacklog s e).report = s.report ∧ (appendBacklog s e).freeCount = s.freeCount ∧
    (appendBacklog s e).pending = s.pending := by
  unfold appendBacklog
  (try dsimp only)
  (repeat' split) <;> simp

@[simp] theorem appendBacklog_ctx (s : State) (e : DemandEntry) (j : CtxId) : (appendBacklog s e).ctx j = s.ctx j := by
  cases j <;> simp [State.ctx]

@[simp] theorem handDemand_frame (s : State) (e : DemandEntry) :
    (handDemand s e).station = s.station ∧ (handDemand s e).number = s.number ∧
    (handDemand s e).setup = s.setup ∧ (handDemand s e).seq = s.seq ∧ (handDemand s e).ctxA = s.ctxA ∧
    (handDemand s e).ctxB = s.ctxB ∧ (handDemand s e).loader = s.loader ∧
    (handDemand s e).raster = s.raster ∧ (handDemand s e).ring = s.ring ∧
    (handDemand s e).timer = s.timer ∧ (handDemand s e).plan = s.plan ∧ (handDemand s e).head = s.head ∧
    (handDemand s e).thermal = s.thermal ∧ (handDemand s e).lines = s.lines ∧
    (handDemand s e).peers = s.peers ∧ (handDemand s e).store = s.store ∧
    (handDemand s e).report = s.report ∧ (handDemand s e).freeCount = s.freeCount ∧
    (handDemand s e).pending = s.pending := by
  unfold handDemand
  (try dsimp only)
  (repeat' split) <;> simp

@[simp] theorem handDemand_ctx (s : State) (e : DemandEntry) (j : CtxId) : (handDemand s e).ctx j = s.ctx j := by
  cases j <;> simp [State.ctx]

@[simp] theorem takeDemand_frame (s : State) (src seq first : Nat) (ds : List Nat) :
    (takeDemand s src seq first ds).station = s.station ∧
    (takeDemand s src seq first ds).number = s.number ∧ (takeDemand s src seq first ds).setup = s.setup ∧
    (takeDemand s src seq first ds).seq = s.seq ∧ (takeDemand s src seq first ds).ctxA = s.ctxA ∧
    (takeDemand s src seq first ds).ctxB = s.ctxB ∧ (takeDemand s src seq first ds).loader = s.loader ∧
    (takeDemand s src seq first ds).raster = s.raster ∧ (takeDemand s src seq first ds).ring = s.ring ∧
    (takeDemand s src seq first ds).timer = s.timer ∧ (takeDemand s src seq first ds).plan = s.plan ∧
    (takeDemand s src seq first ds).head = s.head ∧ (takeDemand s src seq first ds).thermal = s.thermal ∧
    (takeDemand s src seq first ds).lines = s.lines ∧ (takeDemand s src seq first ds).link = s.link ∧
    (takeDemand s src seq first ds).store = s.store ∧ (takeDemand s src seq first ds).report = s.report ∧
    (takeDemand s src seq first ds).freeCount = s.freeCount ∧
    (takeDemand s src seq first ds).pending = s.pending := by
  unfold takeDemand
  (try dsimp only)
  (repeat' split) <;> simp

@[simp] theorem takeDemand_ctx (s : State) (src seq first : Nat) (ds : List Nat) (j : CtxId) : (takeDemand s src seq first ds).ctx j = s.ctx j := by
  cases j <;> simp [State.ctx]

@[simp] theorem purgePeers_frame (s : State) :
    (purgePeers s).station = s.station ∧ (purgePeers s).number = s.number ∧
    (purgePeers s).setup = s.setup ∧ (purgePeers s).seq = s.seq ∧ (purgePeers s).ctxA = s.ctxA ∧
    (purgePeers s).ctxB = s.ctxB ∧ (purgePeers s).loader = s.loader ∧ (purgePeers s).raster = s.raster ∧
    (purgePeers s).ring = s.ring ∧ (purgePeers s).timer = s.timer ∧ (purgePeers s).plan = s.plan ∧
    (purgePeers s).head = s.head ∧ (purgePeers s).thermal = s.thermal ∧ (purgePeers s).lines = s.lines ∧
    (purgePeers s).link = s.link ∧ (purgePeers s).store = s.store ∧ (purgePeers s).report = s.report ∧
    (purgePeers s).freeCount = s.freeCount ∧ (purgePeers s).pending = s.pending := by
  unfold purgePeers
  (try dsimp only)
  (repeat' split) <;> simp

@[simp] theorem purgePeers_ctx (s : State) (j : CtxId) : (purgePeers s).ctx j = s.ctx j := by
  cases j <;> simp [State.ctx]

/-! ## Loader and rasterizer -/

@[simp] theorem advanceLoad_frame (s : State) (l : Load) (found : List Found) :
    (advanceLoad s l found).station = s.station ∧ (advanceLoad s l found).number = s.number ∧
    (advanceLoad s l found).setup = s.setup ∧ (advanceLoad s l found).seq = s.seq ∧
    (advanceLoad s l found).ctxA = s.ctxA ∧ (advanceLoad s l found).ctxB = s.ctxB ∧
    (advanceLoad s l found).raster = s.raster ∧ (advanceLoad s l found).ring = s.ring ∧
    (advanceLoad s l found).timer = s.timer ∧ (advanceLoad s l found).plan = s.plan ∧
    (advanceLoad s l found).head = s.head ∧ (advanceLoad s l found).thermal = s.thermal ∧
    (advanceLoad s l found).lines = s.lines ∧ (advanceLoad s l found).link = s.link ∧
    (advanceLoad s l found).peers = s.peers ∧ (advanceLoad s l found).store = s.store ∧
    (advanceLoad s l found).report = s.report ∧ (advanceLoad s l found).freeCount = s.freeCount ∧
    (advanceLoad s l found).pending = s.pending := by
  unfold advanceLoad
  (try dsimp only)
  (repeat' split) <;> simp

@[simp] theorem advanceLoad_ctx (s : State) (l : Load) (found : List Found) (j : CtxId) : (advanceLoad s l found).ctx j = s.ctx j := by
  cases j <;> simp [State.ctx]

@[simp] theorem serveLookup_frame (s : State) :
    (serveLookup s).station = s.station ∧ (serveLookup s).number = s.number ∧
    (serveLookup s).setup = s.setup ∧ (serveLookup s).seq = s.seq ∧ (serveLookup s).ctxA = s.ctxA ∧
    (serveLookup s).ctxB = s.ctxB ∧ (serveLookup s).raster = s.raster ∧ (serveLookup s).ring = s.ring ∧
    (serveLookup s).timer = s.timer ∧ (serveLookup s).plan = s.plan ∧ (serveLookup s).head = s.head ∧
    (serveLookup s).thermal = s.thermal ∧ (serveLookup s).lines = s.lines ∧ (serveLookup s).link = s.link ∧
    (serveLookup s).peers = s.peers ∧ (serveLookup s).store = s.store ∧ (serveLookup s).report = s.report ∧
    (serveLookup s).freeCount = s.freeCount ∧ (serveLookup s).pending = s.pending := by
  unfold serveLookup
  (try dsimp only)
  (repeat' split) <;> simp

@[simp] theorem serveLookup_ctx (s : State) (j : CtxId) : (serveLookup s).ctx j = s.ctx j := by
  cases j <;> simp [State.ctx]

@[simp] theorem serveLoaderRead_frame (s : State) :
    (serveLoaderRead s).station = s.station ∧ (serveLoaderRead s).number = s.number ∧
    (serveLoaderRead s).setup = s.setup ∧ (serveLoaderRead s).seq = s.seq ∧
    (serveLoaderRead s).ctxA = s.ctxA ∧ (serveLoaderRead s).ctxB = s.ctxB ∧
    (serveLoaderRead s).raster = s.raster ∧ (serveLoaderRead s).ring = s.ring ∧
    (serveLoaderRead s).timer = s.timer ∧ (serveLoaderRead s).plan = s.plan ∧
    (serveLoaderRead s).head = s.head ∧ (serveLoaderRead s).thermal = s.thermal ∧
    (serveLoaderRead s).lines = s.lines ∧ (serveLoaderRead s).link = s.link ∧
    (serveLoaderRead s).peers = s.peers ∧ (serveLoaderRead s).store = s.store ∧
    (serveLoaderRead s).report = s.report ∧ (serveLoaderRead s).freeCount = s.freeCount ∧
    (serveLoaderRead s).pending = s.pending := by
  unfold serveLoaderRead
  (try dsimp only)
  (repeat' split) <;> simp

@[simp] theorem serveLoaderRead_ctx (s : State) (j : CtxId) : (serveLoaderRead s).ctx j = s.ctx j := by
  cases j <;> simp [State.ctx]

@[simp] theorem serveReads_frame (s : State) :
    (serveReads s).station = s.station ∧ (serveReads s).number = s.number ∧
    (serveReads s).setup = s.setup ∧ (serveReads s).seq = s.seq ∧ (serveReads s).ctxA = s.ctxA ∧
    (serveReads s).ctxB = s.ctxB ∧ (serveReads s).raster = s.raster ∧ (serveReads s).ring = s.ring ∧
    (serveReads s).timer = s.timer ∧ (serveReads s).plan = s.plan ∧ (serveReads s).head = s.head ∧
    (serveReads s).thermal = s.thermal ∧ (serveReads s).lines = s.lines ∧ (serveReads s).link = s.link ∧
    (serveReads s).peers = s.peers ∧ (serveReads s).report = s.report ∧
    (serveReads s).freeCount = s.freeCount ∧ (serveReads s).pending = s.pending := by
  unfold serveReads
  (try dsimp only)
  (repeat' split) <;> simp

@[simp] theorem serveReads_ctx (s : State) (j : CtxId) : (serveReads s).ctx j = s.ctx j := by
  cases j <;> simp [State.ctx]

@[simp] theorem serveWaitingLookup_frame (s : State) :
    (serveWaitingLookup s).station = s.station ∧ (serveWaitingLookup s).number = s.number ∧
    (serveWaitingLookup s).setup = s.setup ∧ (serveWaitingLookup s).seq = s.seq ∧
    (serveWaitingLookup s).ctxA = s.ctxA ∧ (serveWaitingLookup s).ctxB = s.ctxB ∧
    (serveWaitingLookup s).raster = s.raster ∧ (serveWaitingLookup s).ring = s.ring ∧
    (serveWaitingLookup s).timer = s.timer ∧ (serveWaitingLookup s).plan = s.plan ∧
    (serveWaitingLookup s).head = s.head ∧ (serveWaitingLookup s).thermal = s.thermal ∧
    (serveWaitingLookup s).lines = s.lines ∧ (serveWaitingLookup s).link = s.link ∧
    (serveWaitingLookup s).peers = s.peers ∧ (serveWaitingLookup s).store = s.store ∧
    (serveWaitingLookup s).report = s.report ∧ (serveWaitingLookup s).freeCount = s.freeCount ∧
    (serveWaitingLookup s).pending = s.pending := by
  unfold serveWaitingLookup
  (try dsimp only)
  (repeat' split) <;> simp

@[simp] theorem serveWaitingLookup_ctx (s : State) (j : CtxId) : (serveWaitingLookup s).ctx j = s.ctx j := by
  cases j <;> simp [State.ctx]

@[simp] theorem forgetFound_frame (s : State) (number : Nat) :
    (forgetFound s number).station = s.station ∧ (forgetFound s number).number = s.number ∧
    (forgetFound s number).setup = s.setup ∧ (forgetFound s number).seq = s.seq ∧
    (forgetFound s number).ctxA = s.ctxA ∧ (forgetFound s number).ctxB = s.ctxB ∧
    (forgetFound s number).raster = s.raster ∧ (forgetFound s number).ring = s.ring ∧
    (forgetFound s number).timer = s.timer ∧ (forgetFound s number).plan = s.plan ∧
    (forgetFound s number).head = s.head ∧ (forgetFound s number).thermal = s.thermal ∧
    (forgetFound s number).lines = s.lines ∧ (forgetFound s number).link = s.link ∧
    (forgetFound s number).peers = s.peers ∧ (forgetFound s number).store = s.store ∧
    (forgetFound s number).report = s.report ∧ (forgetFound s number).freeCount = s.freeCount ∧
    (forgetFound s number).pending = s.pending := by
  unfold forgetFound
  (try dsimp only)
  (repeat' split) <;> simp

@[simp] theorem forgetFound_ctx (s : State) (number : Nat) (j : CtxId) : (forgetFound s number).ctx j = s.ctx j := by
  cases j <;> simp [State.ctx]

@[simp] theorem stopLoad_frame (s : State) (i : CtxId) :
    (stopLoad s i).station = s.station ∧ (stopLoad s i).number = s.number ∧
    (stopLoad s i).setup = s.setup ∧ (stopLoad s i).seq = s.seq ∧ (stopLoad s i).ctxA = s.ctxA ∧
    (stopLoad s i).ctxB = s.ctxB ∧ (stopLoad s i).raster = s.raster ∧ (stopLoad s i).ring = s.ring ∧
    (stopLoad s i).timer = s.timer ∧ (stopLoad s i).plan = s.plan ∧ (stopLoad s i).head = s.head ∧
    (stopLoad s i).thermal = s.thermal ∧ (stopLoad s i).lines = s.lines ∧ (stopLoad s i).link = s.link ∧
    (stopLoad s i).peers = s.peers ∧ (stopLoad s i).report = s.report ∧
    (stopLoad s i).freeCount = s.freeCount ∧ (stopLoad s i).pending = s.pending := by
  unfold stopLoad
  (try dsimp only)
  (repeat' split) <;> simp

@[simp] theorem stopLoad_ctx (s : State) (i : CtxId) (j : CtxId) : (stopLoad s i).ctx j = s.ctx j := by
  cases j <;> simp [State.ctx]

@[simp] theorem setPosition_frame (s : State) (p : Option Position) :
    (setPosition s p).station = s.station ∧ (setPosition s p).number = s.number ∧
    (setPosition s p).setup = s.setup ∧ (setPosition s p).seq = s.seq ∧ (setPosition s p).ctxA = s.ctxA ∧
    (setPosition s p).ctxB = s.ctxB ∧ (setPosition s p).loader = s.loader ∧
    (setPosition s p).ring = s.ring ∧ (setPosition s p).timer = s.timer ∧ (setPosition s p).plan = s.plan ∧
    (setPosition s p).head = s.head ∧ (setPosition s p).thermal = s.thermal ∧
    (setPosition s p).lines = s.lines ∧ (setPosition s p).link = s.link ∧
    (setPosition s p).peers = s.peers ∧ (setPosition s p).store = s.store ∧
    (setPosition s p).report = s.report ∧ (setPosition s p).freeCount = s.freeCount ∧
    (setPosition s p).pending = s.pending := by
  unfold setPosition
  (try dsimp only)
  (repeat' split) <;> simp

@[simp] theorem setPosition_ctx (s : State) (p : Option Position) (j : CtxId) : (setPosition s p).ctx j = s.ctx j := by
  cases j <;> simp [State.ctx]

@[simp] theorem leaveLabel_frame (s : State) (i : CtxId) :
    (leaveLabel s i).station = s.station ∧ (leaveLabel s i).number = s.number ∧
    (leaveLabel s i).setup = s.setup ∧ (leaveLabel s i).seq = s.seq ∧ (leaveLabel s i).ctxA = s.ctxA ∧
    (leaveLabel s i).ctxB = s.ctxB ∧ (leaveLabel s i).loader = s.loader ∧ (leaveLabel s i).ring = s.ring ∧
    (leaveLabel s i).timer = s.timer ∧ (leaveLabel s i).plan = s.plan ∧ (leaveLabel s i).head = s.head ∧
    (leaveLabel s i).thermal = s.thermal ∧ (leaveLabel s i).lines = s.lines ∧
    (leaveLabel s i).link = s.link ∧ (leaveLabel s i).peers = s.peers ∧ (leaveLabel s i).store = s.store ∧
    (leaveLabel s i).report = s.report ∧ (leaveLabel s i).freeCount = s.freeCount ∧
    (leaveLabel s i).pending = s.pending := by
  unfold leaveLabel
  (try dsimp only)
  (repeat' split) <;> simp

@[simp] theorem leaveLabel_ctx (s : State) (i : CtxId) (j : CtxId) : (leaveLabel s i).ctx j = s.ctx j := by
  cases j <;> simp [State.ctx]

@[simp] theorem movePosition_frame (s : State) (i : CtxId) (row : Nat) :
    (movePosition s i row).station = s.station ∧ (movePosition s i row).number = s.number ∧
    (movePosition s i row).setup = s.setup ∧ (movePosition s i row).seq = s.seq ∧
    (movePosition s i row).ctxA = s.ctxA ∧ (movePosition s i row).ctxB = s.ctxB ∧
    (movePosition s i row).loader = s.loader ∧ (movePosition s i row).ring = s.ring ∧
    (movePosition s i row).timer = s.timer ∧ (movePosition s i row).plan = s.plan ∧
    (movePosition s i row).head = s.head ∧ (movePosition s i row).thermal = s.thermal ∧
    (movePosition s i row).lines = s.lines ∧ (movePosition s i row).link = s.link ∧
    (movePosition s i row).peers = s.peers ∧ (movePosition s i row).store = s.store ∧
    (movePosition s i row).report = s.report ∧ (movePosition s i row).freeCount = s.freeCount ∧
    (movePosition s i row).pending = s.pending := by
  unfold movePosition
  (try dsimp only)
  (repeat' split) <;> simp

@[simp] theorem movePosition_ctx (s : State) (i : CtxId) (row : Nat) (j : CtxId) : (movePosition s i row).ctx j = s.ctx j := by
  cases j <;> simp [State.ctx]

@[simp] theorem takePosition_frame (s : State) :
    (takePosition s).station = s.station ∧ (takePosition s).number = s.number ∧
    (takePosition s).setup = s.setup ∧ (takePosition s).seq = s.seq ∧ (takePosition s).ctxA = s.ctxA ∧
    (takePosition s).ctxB = s.ctxB ∧ (takePosition s).loader = s.loader ∧ (takePosition s).ring = s.ring ∧
    (takePosition s).timer = s.timer ∧ (takePosition s).plan = s.plan ∧ (takePosition s).head = s.head ∧
    (takePosition s).thermal = s.thermal ∧ (takePosition s).lines = s.lines ∧
    (takePosition s).link = s.link ∧ (takePosition s).peers = s.peers ∧ (takePosition s).store = s.store ∧
    (takePosition s).report = s.report ∧ (takePosition s).freeCount = s.freeCount ∧
    (takePosition s).pending = s.pending := by
  unfold takePosition
  (try dsimp only)
  (repeat' split) <;> simp

@[simp] theorem takePosition_ctx (s : State) (j : CtxId) : (takePosition s).ctx j = s.ctx j := by
  cases j <;> simp [State.ctx]

@[simp] theorem passRows_frame (s : State) :
    (passRows s).station = s.station ∧ (passRows s).number = s.number ∧ (passRows s).setup = s.setup ∧
    (passRows s).seq = s.seq ∧ (passRows s).ctxA = s.ctxA ∧ (passRows s).ctxB = s.ctxB ∧
    (passRows s).loader = s.loader ∧ (passRows s).ring = s.ring ∧ (passRows s).timer = s.timer ∧
    (passRows s).plan = s.plan ∧ (passRows s).head = s.head ∧ (passRows s).thermal = s.thermal ∧
    (passRows s).lines = s.lines ∧ (passRows s).link = s.link ∧ (passRows s).peers = s.peers ∧
    (passRows s).store = s.store ∧ (passRows s).report = s.report ∧ (passRows s).freeCount = s.freeCount ∧
    (passRows s).pending = s.pending := by
  unfold passRows
  (try dsimp only)
  (repeat' split) <;> simp

@[simp] theorem passRows_ctx (s : State) (j : CtxId) : (passRows s).ctx j = s.ctx j := by
  cases j <;> simp [State.ctx]

@[simp] theorem buildLists_frame (s : State) :
    (buildLists s).station = s.station ∧ (buildLists s).number = s.number ∧
    (buildLists s).setup = s.setup ∧ (buildLists s).seq = s.seq ∧ (buildLists s).ctxA = s.ctxA ∧
    (buildLists s).ctxB = s.ctxB ∧ (buildLists s).loader = s.loader ∧ (buildLists s).ring = s.ring ∧
    (buildLists s).timer = s.timer ∧ (buildLists s).plan = s.plan ∧ (buildLists s).head = s.head ∧
    (buildLists s).thermal = s.thermal ∧ (buildLists s).lines = s.lines ∧ (buildLists s).link = s.link ∧
    (buildLists s).peers = s.peers ∧ (buildLists s).store = s.store ∧ (buildLists s).report = s.report ∧
    (buildLists s).freeCount = s.freeCount ∧ (buildLists s).pending = s.pending := by
  unfold buildLists
  (try dsimp only)
  (repeat' split) <;> simp

@[simp] theorem buildLists_ctx (s : State) (j : CtxId) : (buildLists s).ctx j = s.ctx j := by
  cases j <;> simp [State.ctx]

@[simp] theorem beginRender_frame (s : State) (p : Position) :
    (beginRender s p).station = s.station ∧ (beginRender s p).number = s.number ∧
    (beginRender s p).setup = s.setup ∧ (beginRender s p).seq = s.seq ∧ (beginRender s p).ctxA = s.ctxA ∧
    (beginRender s p).ctxB = s.ctxB ∧ (beginRender s p).loader = s.loader ∧
    (beginRender s p).timer = s.timer ∧ (beginRender s p).plan = s.plan ∧ (beginRender s p).head = s.head ∧
    (beginRender s p).thermal = s.thermal ∧ (beginRender s p).lines = s.lines ∧
    (beginRender s p).link = s.link ∧ (beginRender s p).peers = s.peers ∧
    (beginRender s p).store = s.store ∧ (beginRender s p).report = s.report ∧
    (beginRender s p).freeCount = s.freeCount ∧ (beginRender s p).pending = s.pending := by
  unfold beginRender
  (try dsimp only)
  (repeat' split) <;> simp

@[simp] theorem beginRender_ctx (s : State) (p : Position) (j : CtxId) : (beginRender s p).ctx j = s.ctx j := by
  cases j <;> simp [State.ctx]

@[simp] theorem tryRender_frame (s : State) :
    (tryRender s).station = s.station ∧ (tryRender s).number = s.number ∧ (tryRender s).setup = s.setup ∧
    (tryRender s).seq = s.seq ∧ (tryRender s).ctxA = s.ctxA ∧ (tryRender s).ctxB = s.ctxB ∧
    (tryRender s).loader = s.loader ∧ (tryRender s).timer = s.timer ∧ (tryRender s).plan = s.plan ∧
    (tryRender s).head = s.head ∧ (tryRender s).thermal = s.thermal ∧ (tryRender s).lines = s.lines ∧
    (tryRender s).link = s.link ∧ (tryRender s).peers = s.peers ∧ (tryRender s).store = s.store ∧
    (tryRender s).report = s.report ∧ (tryRender s).freeCount = s.freeCount ∧
    (tryRender s).pending = s.pending := by
  unfold tryRender
  (try dsimp only)
  (repeat' split) <;> simp

@[simp] theorem tryRender_ctx (s : State) (j : CtxId) : (tryRender s).ctx j = s.ctx j := by
  cases j <;> simp [State.ctx]

@[simp] theorem advanceRaster_frame (s : State) :
    (advanceRaster s).station = s.station ∧ (advanceRaster s).number = s.number ∧
    (advanceRaster s).setup = s.setup ∧ (advanceRaster s).seq = s.seq ∧ (advanceRaster s).ctxA = s.ctxA ∧
    (advanceRaster s).ctxB = s.ctxB ∧ (advanceRaster s).loader = s.loader ∧
    (advanceRaster s).timer = s.timer ∧ (advanceRaster s).plan = s.plan ∧ (advanceRaster s).head = s.head ∧
    (advanceRaster s).thermal = s.thermal ∧ (advanceRaster s).lines = s.lines ∧
    (advanceRaster s).link = s.link ∧ (advanceRaster s).peers = s.peers ∧
    (advanceRaster s).store = s.store ∧ (advanceRaster s).report = s.report ∧
    (advanceRaster s).freeCount = s.freeCount ∧ (advanceRaster s).pending = s.pending := by
  unfold advanceRaster
  (try dsimp only)
  (repeat' split) <;> simp

@[simp] theorem advanceRaster_ctx (s : State) (j : CtxId) : (advanceRaster s).ctx j = s.ctx j := by
  cases j <;> simp [State.ctx]

/-! ## Labels -/

@[simp] theorem markVoided_frame (s : State) (seq : Nat) (reason : Reason) :
    (markVoided s seq reason).station = s.station ∧ (markVoided s seq reason).number = s.number ∧
    (markVoided s seq reason).setup = s.setup ∧ (markVoided s seq reason).loader = s.loader ∧
    (markVoided s seq reason).raster = s.raster ∧ (markVoided s seq reason).ring = s.ring ∧
    (markVoided s seq reason).timer = s.timer ∧ (markVoided s seq reason).plan = s.plan ∧
    (markVoided s seq reason).head = s.head ∧ (markVoided s seq reason).thermal = s.thermal ∧
    (markVoided s seq reason).lines = s.lines ∧ (markVoided s seq reason).link = s.link ∧
    (markVoided s seq reason).peers = s.peers ∧ (markVoided s seq reason).store = s.store ∧
    (markVoided s seq reason).report = s.report ∧ (markVoided s seq reason).freeCount = s.freeCount ∧
    (markVoided s seq reason).pending = s.pending := by
  unfold markVoided
  (try dsimp only)
  (repeat' split) <;> simp

@[simp] theorem markCancelled_frame (s : State) (seq : Nat) :
    (markCancelled s seq).station = s.station ∧ (markCancelled s seq).number = s.number ∧
    (markCancelled s seq).setup = s.setup ∧ (markCancelled s seq).loader = s.loader ∧
    (markCancelled s seq).raster = s.raster ∧ (markCancelled s seq).ring = s.ring ∧
    (markCancelled s seq).timer = s.timer ∧ (markCancelled s seq).plan = s.plan ∧
    (markCancelled s seq).head = s.head ∧ (markCancelled s seq).thermal = s.thermal ∧
    (markCancelled s seq).lines = s.lines ∧ (markCancelled s seq).link = s.link ∧
    (markCancelled s seq).peers = s.peers ∧ (markCancelled s seq).store = s.store ∧
    (markCancelled s seq).report = s.report ∧ (markCancelled s seq).freeCount = s.freeCount ∧
    (markCancelled s seq).pending = s.pending := by
  unfold markCancelled
  (try dsimp only)
  (repeat' split) <;> simp

@[simp] theorem markAllCancelled_frame (s : State) :
    (markAllCancelled s).station = s.station ∧ (markAllCancelled s).number = s.number ∧
    (markAllCancelled s).setup = s.setup ∧ (markAllCancelled s).loader = s.loader ∧
    (markAllCancelled s).raster = s.raster ∧ (markAllCancelled s).ring = s.ring ∧
    (markAllCancelled s).timer = s.timer ∧ (markAllCancelled s).plan = s.plan ∧
    (markAllCancelled s).head = s.head ∧ (markAllCancelled s).thermal = s.thermal ∧
    (markAllCancelled s).lines = s.lines ∧ (markAllCancelled s).link = s.link ∧
    (markAllCancelled s).peers = s.peers ∧ (markAllCancelled s).store = s.store ∧
    (markAllCancelled s).report = s.report ∧ (markAllCancelled s).freeCount = s.freeCount ∧
    (markAllCancelled s).pending = s.pending := by
  unfold markAllCancelled
  (try dsimp only)
  (repeat' split) <;> simp

@[simp] theorem ownVoid_frame (s : State) (seq : Nat) (reason : Reason) :
    (ownVoid s seq reason).station = s.station ∧ (ownVoid s seq reason).number = s.number ∧
    (ownVoid s seq reason).setup = s.setup ∧ (ownVoid s seq reason).loader = s.loader ∧
    (ownVoid s seq reason).raster = s.raster ∧ (ownVoid s seq reason).ring = s.ring ∧
    (ownVoid s seq reason).timer = s.timer ∧ (ownVoid s seq reason).plan = s.plan ∧
    (ownVoid s seq reason).head = s.head ∧ (ownVoid s seq reason).thermal = s.thermal ∧
    (ownVoid s seq reason).lines = s.lines ∧ (ownVoid s seq reason).peers = s.peers ∧
    (ownVoid s seq reason).store = s.store ∧ (ownVoid s seq reason).freeCount = s.freeCount ∧
    (ownVoid s seq reason).pending = s.pending := by
  unfold ownVoid
  (try dsimp only)
  (repeat' split) <;> simp

@[simp] theorem leaveIfOn_frame (s : State) (i : CtxId) :
    (leaveIfOn s i).station = s.station ∧ (leaveIfOn s i).number = s.number ∧
    (leaveIfOn s i).setup = s.setup ∧ (leaveIfOn s i).seq = s.seq ∧ (leaveIfOn s i).ctxA = s.ctxA ∧
    (leaveIfOn s i).ctxB = s.ctxB ∧ (leaveIfOn s i).loader = s.loader ∧ (leaveIfOn s i).ring = s.ring ∧
    (leaveIfOn s i).timer = s.timer ∧ (leaveIfOn s i).plan = s.plan ∧ (leaveIfOn s i).head = s.head ∧
    (leaveIfOn s i).thermal = s.thermal ∧ (leaveIfOn s i).lines = s.lines ∧ (leaveIfOn s i).link = s.link ∧
    (leaveIfOn s i).peers = s.peers ∧ (leaveIfOn s i).store = s.store ∧ (leaveIfOn s i).report = s.report ∧
    (leaveIfOn s i).freeCount = s.freeCount ∧ (leaveIfOn s i).pending = s.pending := by
  unfold leaveIfOn
  (try dsimp only)
  (repeat' split) <;> simp

@[simp] theorem leaveIfOn_ctx (s : State) (i : CtxId) (j : CtxId) : (leaveIfOn s i).ctx j = s.ctx j := by
  cases j <;> simp [State.ctx]

@[simp] theorem completeLabel_frame (s : State) (i : CtxId) :
    (completeLabel s i).station = s.station ∧ (completeLabel s i).number = s.number ∧
    (completeLabel s i).setup = s.setup ∧ (completeLabel s i).seq = s.seq ∧
    (completeLabel s i).loader = s.loader ∧ (completeLabel s i).ring = s.ring ∧
    (completeLabel s i).timer = s.timer ∧ (completeLabel s i).plan = s.plan ∧
    (completeLabel s i).head = s.head ∧ (completeLabel s i).thermal = s.thermal ∧
    (completeLabel s i).lines = s.lines ∧ (completeLabel s i).peers = s.peers ∧
    (completeLabel s i).store = s.store ∧ (completeLabel s i).freeCount = s.freeCount ∧
    (completeLabel s i).pending = s.pending := by
  unfold completeLabel
  (try dsimp only)
  (repeat' split) <;> simp

@[simp] theorem completeIfEnding_frame (s : State) (i : CtxId) :
    (completeIfEnding s i).station = s.station ∧ (completeIfEnding s i).number = s.number ∧
    (completeIfEnding s i).setup = s.setup ∧ (completeIfEnding s i).seq = s.seq ∧
    (completeIfEnding s i).loader = s.loader ∧ (completeIfEnding s i).ring = s.ring ∧
    (completeIfEnding s i).timer = s.timer ∧ (completeIfEnding s i).plan = s.plan ∧
    (completeIfEnding s i).head = s.head ∧ (completeIfEnding s i).thermal = s.thermal ∧
    (completeIfEnding s i).lines = s.lines ∧ (completeIfEnding s i).peers = s.peers ∧
    (completeIfEnding s i).store = s.store ∧ (completeIfEnding s i).freeCount = s.freeCount ∧
    (completeIfEnding s i).pending = s.pending := by
  unfold completeIfEnding
  (try dsimp only)
  (repeat' split) <;> simp

@[simp] theorem endRow_frame (s : State) (seq : Nat) (trimmed miss short : Bool) :
    (endRow s seq trimmed miss short).station = s.station ∧
    (endRow s seq trimmed miss short).number = s.number ∧
    (endRow s seq trimmed miss short).setup = s.setup ∧
    (endRow s seq trimmed miss short).loader = s.loader ∧ (endRow s seq trimmed miss short).ring = s.ring ∧
    (endRow s seq trimmed miss short).timer = s.timer ∧ (endRow s seq trimmed miss short).plan = s.plan ∧
    (endRow s seq trimmed miss short).head = s.head ∧
    (endRow s seq trimmed miss short).thermal = s.thermal ∧
    (endRow s seq trimmed miss short).lines = s.lines ∧ (endRow s seq trimmed miss short).peers = s.peers ∧
    (endRow s seq trimmed miss short).store = s.store ∧
    (endRow s seq trimmed miss short).freeCount = s.freeCount ∧
    (endRow s seq trimmed miss short).pending = s.pending := by
  unfold endRow
  (try dsimp only)
  (repeat' split) <;> simp

@[simp] theorem endFlight_frame (s : State) (p : Plan) (trimmed short : Bool) :
    (endFlight s p trimmed short).station = s.station ∧ (endFlight s p trimmed short).number = s.number ∧
    (endFlight s p trimmed short).setup = s.setup ∧ (endFlight s p trimmed short).loader = s.loader ∧
    (endFlight s p trimmed short).timer = s.timer ∧ (endFlight s p trimmed short).thermal = s.thermal ∧
    (endFlight s p trimmed short).lines = s.lines ∧ (endFlight s p trimmed short).peers = s.peers ∧
    (endFlight s p trimmed short).store = s.store ∧ (endFlight s p trimmed short).freeCount = s.freeCount ∧
    (endFlight s p trimmed short).pending = s.pending := by
  unfold endFlight
  (try dsimp only)
  (repeat' split) <;> simp

@[simp] theorem stopRow_frame (s : State) :
    (stopRow s).station = s.station ∧ (stopRow s).number = s.number ∧ (stopRow s).setup = s.setup ∧
    (stopRow s).loader = s.loader ∧ (stopRow s).timer = s.timer ∧ (stopRow s).thermal = s.thermal ∧
    (stopRow s).lines = s.lines ∧ (stopRow s).peers = s.peers ∧ (stopRow s).store = s.store ∧
    (stopRow s).freeCount = s.freeCount ∧ (stopRow s).pending = s.pending := by
  unfold stopRow
  (try dsimp only)
  (repeat' split) <;> simp

@[simp] theorem stopRowOf_frame (s : State) (seq : Nat) :
    (stopRowOf s seq).station = s.station ∧ (stopRowOf s seq).number = s.number ∧
    (stopRowOf s seq).setup = s.setup ∧ (stopRowOf s seq).loader = s.loader ∧
    (stopRowOf s seq).timer = s.timer ∧ (stopRowOf s seq).thermal = s.thermal ∧
    (stopRowOf s seq).lines = s.lines ∧ (stopRowOf s seq).peers = s.peers ∧
    (stopRowOf s seq).store = s.store ∧ (stopRowOf s seq).freeCount = s.freeCount ∧
    (stopRowOf s seq).pending = s.pending := by
  unfold stopRowOf
  (try dsimp only)
  (repeat' split) <;> simp

@[simp] theorem stopLoadOf_frame (s : State) (seq : Nat) :
    (stopLoadOf s seq).station = s.station ∧ (stopLoadOf s seq).number = s.number ∧
    (stopLoadOf s seq).setup = s.setup ∧ (stopLoadOf s seq).seq = s.seq ∧
    (stopLoadOf s seq).ctxA = s.ctxA ∧ (stopLoadOf s seq).ctxB = s.ctxB ∧
    (stopLoadOf s seq).raster = s.raster ∧ (stopLoadOf s seq).ring = s.ring ∧
    (stopLoadOf s seq).timer = s.timer ∧ (stopLoadOf s seq).plan = s.plan ∧
    (stopLoadOf s seq).head = s.head ∧ (stopLoadOf s seq).thermal = s.thermal ∧
    (stopLoadOf s seq).lines = s.lines ∧ (stopLoadOf s seq).link = s.link ∧
    (stopLoadOf s seq).peers = s.peers ∧ (stopLoadOf s seq).report = s.report ∧
    (stopLoadOf s seq).freeCount = s.freeCount ∧ (stopLoadOf s seq).pending = s.pending := by
  unfold stopLoadOf
  (try dsimp only)
  (repeat' split) <;> simp

@[simp] theorem stopLoadOf_ctx (s : State) (seq : Nat) (j : CtxId) : (stopLoadOf s seq).ctx j = s.ctx j := by
  cases j <;> simp [State.ctx]

@[simp] theorem afterMark_frame (s : State) (seq : Nat) :
    (afterMark s seq).station = s.station ∧ (afterMark s seq).number = s.number ∧
    (afterMark s seq).setup = s.setup ∧ (afterMark s seq).timer = s.timer ∧
    (afterMark s seq).thermal = s.thermal ∧ (afterMark s seq).lines = s.lines ∧
    (afterMark s seq).peers = s.peers ∧ (afterMark s seq).freeCount = s.freeCount ∧
    (afterMark s seq).pending = s.pending := by
  unfold afterMark
  (try dsimp only)
  (repeat' split) <;> simp

@[simp] theorem arm_frame (s : State) :
    (arm s).station = s.station ∧ (arm s).number = s.number ∧ (arm s).setup = s.setup ∧
    (arm s).seq = s.seq ∧ (arm s).raster = s.raster ∧ (arm s).ring = s.ring ∧ (arm s).timer = s.timer ∧
    (arm s).plan = s.plan ∧ (arm s).head = s.head ∧ (arm s).thermal = s.thermal ∧ (arm s).lines = s.lines ∧
    (arm s).link = s.link ∧ (arm s).peers = s.peers ∧ (arm s).store = s.store ∧ (arm s).report = s.report ∧
    (arm s).freeCount = s.freeCount ∧ (arm s).pending = s.pending := by
  unfold arm
  (try dsimp only)
  (repeat' split) <;> simp

@[simp] theorem settle_frame (s : State) :
    (settle s).station = s.station ∧ (settle s).number = s.number ∧ (settle s).setup = s.setup ∧
    (settle s).seq = s.seq ∧ (settle s).timer = s.timer ∧ (settle s).plan = s.plan ∧
    (settle s).head = s.head ∧ (settle s).thermal = s.thermal ∧ (settle s).lines = s.lines ∧
    (settle s).link = s.link ∧ (settle s).peers = s.peers ∧ (settle s).store = s.store ∧
    (settle s).report = s.report ∧ (settle s).freeCount = s.freeCount ∧ (settle s).pending = s.pending := by
  unfold settle
  (try dsimp only)
  (repeat' split) <;> simp

@[simp] theorem addPlaceholder_frame (s : State) (seq : Nat) :
    (addPlaceholder s seq).station = s.station ∧ (addPlaceholder s seq).number = s.number ∧
    (addPlaceholder s seq).setup = s.setup ∧ (addPlaceholder s seq).ctxA = s.ctxA ∧
    (addPlaceholder s seq).ctxB = s.ctxB ∧ (addPlaceholder s seq).loader = s.loader ∧
    (addPlaceholder s seq).raster = s.raster ∧ (addPlaceholder s seq).ring = s.ring ∧
    (addPlaceholder s seq).timer = s.timer ∧ (addPlaceholder s seq).plan = s.plan ∧
    (addPlaceholder s seq).head = s.head ∧ (addPlaceholder s seq).thermal = s.thermal ∧
    (addPlaceholder s seq).lines = s.lines ∧ (addPlaceholder s seq).peers = s.peers ∧
    (addPlaceholder s seq).store = s.store ∧ (addPlaceholder s seq).freeCount = s.freeCount ∧
    (addPlaceholder s seq).pending = s.pending := by
  unfold addPlaceholder
  (try dsimp only)
  (repeat' split) <;> simp

@[simp] theorem addPlaceholder_ctx (s : State) (seq : Nat) (j : CtxId) : (addPlaceholder s seq).ctx j = s.ctx j := by
  cases j <;> simp [State.ctx]

@[simp] theorem addPlaceholders_frame (n seq : Nat) (s : State) :
    (addPlaceholders n seq s).station = s.station ∧ (addPlaceholders n seq s).number = s.number ∧
    (addPlaceholders n seq s).setup = s.setup ∧ (addPlaceholders n seq s).ctxA = s.ctxA ∧
    (addPlaceholders n seq s).ctxB = s.ctxB ∧ (addPlaceholders n seq s).loader = s.loader ∧
    (addPlaceholders n seq s).raster = s.raster ∧ (addPlaceholders n seq s).ring = s.ring ∧
    (addPlaceholders n seq s).timer = s.timer ∧ (addPlaceholders n seq s).plan = s.plan ∧
    (addPlaceholders n seq s).head = s.head ∧ (addPlaceholders n seq s).thermal = s.thermal ∧
    (addPlaceholders n seq s).lines = s.lines ∧ (addPlaceholders n seq s).peers = s.peers ∧
    (addPlaceholders n seq s).store = s.store ∧ (addPlaceholders n seq s).freeCount = s.freeCount ∧
    (addPlaceholders n seq s).pending = s.pending := by
  induction n generalizing seq s with
  | zero => simp [addPlaceholders]
  | succ n ih => unfold addPlaceholders; split <;> simp [ih]

@[simp] theorem addPlaceholders_ctx (n seq : Nat) (s : State) (j : CtxId) : (addPlaceholders n seq s).ctx j = s.ctx j := by
  cases j <;> simp [State.ctx]

@[simp] theorem appendOrRefuse_frame (s : State) (e : JobEntry) :
    (appendOrRefuse s e).station = s.station ∧ (appendOrRefuse s e).number = s.number ∧
    (appendOrRefuse s e).setup = s.setup ∧ (appendOrRefuse s e).ctxA = s.ctxA ∧
    (appendOrRefuse s e).ctxB = s.ctxB ∧ (appendOrRefuse s e).loader = s.loader ∧
    (appendOrRefuse s e).raster = s.raster ∧ (appendOrRefuse s e).ring = s.ring ∧
    (appendOrRefuse s e).timer = s.timer ∧ (appendOrRefuse s e).plan = s.plan ∧
    (appendOrRefuse s e).head = s.head ∧ (appendOrRefuse s e).thermal = s.thermal ∧
    (appendOrRefuse s e).lines = s.lines ∧ (appendOrRefuse s e).peers = s.peers ∧
    (appendOrRefuse s e).store = s.store ∧ (appendOrRefuse s e).freeCount = s.freeCount ∧
    (appendOrRefuse s e).pending = s.pending := by
  unfold appendOrRefuse
  (try dsimp only)
  (repeat' split) <;> simp

@[simp] theorem appendOrRefuse_ctx (s : State) (e : JobEntry) (j : CtxId) : (appendOrRefuse s e).ctx j = s.ctx j := by
  cases j <;> simp [State.ctx]

@[simp] theorem classifyJob_frame (s : State) (e : JobEntry) :
    (classifyJob s e).station = s.station ∧ (classifyJob s e).number = s.number ∧
    (classifyJob s e).setup = s.setup ∧ (classifyJob s e).timer = s.timer ∧
    (classifyJob s e).plan = s.plan ∧ (classifyJob s e).head = s.head ∧
    (classifyJob s e).thermal = s.thermal ∧ (classifyJob s e).lines = s.lines ∧
    (classifyJob s e).peers = s.peers ∧ (classifyJob s e).store = s.store ∧
    (classifyJob s e).freeCount = s.freeCount ∧ (classifyJob s e).pending = s.pending := by
  unfold classifyJob
  (try dsimp only)
  (repeat' split) <;> simp

@[simp] theorem takeJob_frame (s : State) (seq form darkness : Nat) (entries : List Field) :
    (takeJob s seq form darkness entries).station = s.station ∧
    (takeJob s seq form darkness entries).number = s.number ∧
    (takeJob s seq form darkness entries).setup = s.setup ∧
    (takeJob s seq form darkness entries).timer = s.timer ∧
    (takeJob s seq form darkness entries).plan = s.plan ∧
    (takeJob s seq form darkness entries).head = s.head ∧
    (takeJob s seq form darkness entries).thermal = s.thermal ∧
    (takeJob s seq form darkness entries).lines = s.lines ∧
    (takeJob s seq form darkness entries).peers = s.peers ∧
    (takeJob s seq form darkness entries).store = s.store ∧
    (takeJob s seq form darkness entries).freeCount = s.freeCount ∧
    (takeJob s seq form darkness entries).pending = s.pending := by
  unfold takeJob
  (try dsimp only)
  (repeat' split) <;> simp

@[simp] theorem takeCancel_frame (s : State) (seq : Nat) :
    (takeCancel s seq).station = s.station ∧ (takeCancel s seq).number = s.number ∧
    (takeCancel s seq).setup = s.setup ∧ (takeCancel s seq).timer = s.timer ∧
    (takeCancel s seq).thermal = s.thermal ∧ (takeCancel s seq).lines = s.lines ∧
    (takeCancel s seq).peers = s.peers ∧ (takeCancel s seq).freeCount = s.freeCount ∧
    (takeCancel s seq).pending = s.pending := by
  unfold takeCancel
  (try dsimp only)
  (repeat' split) <;> simp

@[simp] theorem takeCancelAll_frame (s : State) :
    (takeCancelAll s).station = s.station ∧ (takeCancelAll s).number = s.number ∧
    (takeCancelAll s).setup = s.setup ∧ (takeCancelAll s).timer = s.timer ∧
    (takeCancelAll s).thermal = s.thermal ∧ (takeCancelAll s).lines = s.lines ∧
    (takeCancelAll s).peers = s.peers ∧ (takeCancelAll s).freeCount = s.freeCount ∧
    (takeCancelAll s).pending = s.pending := by
  unfold takeCancelAll
  (try dsimp only)
  (repeat' split) <;> simp

@[simp] theorem takeVoid_frame (s : State) (seq : Nat) :
    (takeVoid s seq).station = s.station ∧ (takeVoid s seq).number = s.number ∧
    (takeVoid s seq).setup = s.setup ∧ (takeVoid s seq).timer = s.timer ∧
    (takeVoid s seq).thermal = s.thermal ∧ (takeVoid s seq).lines = s.lines ∧
    (takeVoid s seq).peers = s.peers ∧ (takeVoid s seq).freeCount = s.freeCount ∧
    (takeVoid s seq).pending = s.pending := by
  unfold takeVoid
  (try dsimp only)
  (repeat' split) <;> simp

@[simp] theorem endRunning_frame (s : State) :
    (endRunning s).station = s.station ∧ (endRunning s).number = s.number ∧
    (endRunning s).setup = s.setup ∧ (endRunning s).seq = s.seq ∧ (endRunning s).loader = s.loader ∧
    (endRunning s).timer = s.timer ∧ (endRunning s).plan = s.plan ∧ (endRunning s).head = s.head ∧
    (endRunning s).thermal = s.thermal ∧ (endRunning s).lines = s.lines ∧ (endRunning s).peers = s.peers ∧
    (endRunning s).store = s.store ∧ (endRunning s).freeCount = s.freeCount ∧
    (endRunning s).pending = s.pending := by
  unfold endRunning
  (try dsimp only)
  (repeat' split) <;> simp

@[simp] theorem moveToStarted_frame (s : State) (i : CtxId) :
    (moveToStarted s i).station = s.station ∧ (moveToStarted s i).number = s.number ∧
    (moveToStarted s i).setup = s.setup ∧ (moveToStarted s i).seq = s.seq ∧
    (moveToStarted s i).ctxA = s.ctxA ∧ (moveToStarted s i).ctxB = s.ctxB ∧
    (moveToStarted s i).loader = s.loader ∧ (moveToStarted s i).ring = s.ring ∧
    (moveToStarted s i).timer = s.timer ∧ (moveToStarted s i).plan = s.plan ∧
    (moveToStarted s i).head = s.head ∧ (moveToStarted s i).thermal = s.thermal ∧
    (moveToStarted s i).lines = s.lines ∧ (moveToStarted s i).link = s.link ∧
    (moveToStarted s i).peers = s.peers ∧ (moveToStarted s i).store = s.store ∧
    (moveToStarted s i).report = s.report ∧ (moveToStarted s i).freeCount = s.freeCount ∧
    (moveToStarted s i).pending = s.pending := by
  unfold moveToStarted
  (try dsimp only)
  (repeat' split) <;> simp

@[simp] theorem moveToStarted_ctx (s : State) (i : CtxId) (j : CtxId) : (moveToStarted s i).ctx j = s.ctx j := by
  cases j <;> simp [State.ctx]

@[simp] theorem startArmed_frame (s : State) (i : CtxId) :
    (startArmed s i).station = s.station ∧ (startArmed s i).number = s.number ∧
    (startArmed s i).setup = s.setup ∧ (startArmed s i).loader = s.loader ∧
    (startArmed s i).raster = s.raster ∧ (startArmed s i).ring = s.ring ∧
    (startArmed s i).timer = s.timer ∧ (startArmed s i).plan = s.plan ∧ (startArmed s i).head = s.head ∧
    (startArmed s i).thermal = s.thermal ∧ (startArmed s i).lines = s.lines ∧
    (startArmed s i).peers = s.peers ∧ (startArmed s i).store = s.store ∧
    (startArmed s i).freeCount = s.freeCount ∧ (startArmed s i).pending = s.pending := by
  unfold startArmed
  (try dsimp only)
  (repeat' split) <;> simp

@[simp] theorem cutReads_frame (s : State) (i : CtxId) :
    (cutReads s i).station = s.station ∧ (cutReads s i).number = s.number ∧
    (cutReads s i).setup = s.setup ∧ (cutReads s i).seq = s.seq ∧ (cutReads s i).ctxA = s.ctxA ∧
    (cutReads s i).ctxB = s.ctxB ∧ (cutReads s i).loader = s.loader ∧ (cutReads s i).ring = s.ring ∧
    (cutReads s i).timer = s.timer ∧ (cutReads s i).plan = s.plan ∧ (cutReads s i).head = s.head ∧
    (cutReads s i).thermal = s.thermal ∧ (cutReads s i).lines = s.lines ∧ (cutReads s i).link = s.link ∧
    (cutReads s i).peers = s.peers ∧ (cutReads s i).report = s.report ∧
    (cutReads s i).freeCount = s.freeCount ∧ (cutReads s i).pending = s.pending := by
  unfold cutReads
  (try dsimp only)
  (repeat' split) <;> simp

@[simp] theorem cutReads_ctx (s : State) (i : CtxId) (j : CtxId) : (cutReads s i).ctx j = s.ctx j := by
  cases j <;> simp [State.ctx]

@[simp] theorem startLoading_frame (s : State) (i : CtxId) :
    (startLoading s i).station = s.station ∧ (startLoading s i).number = s.number ∧
    (startLoading s i).setup = s.setup ∧ (startLoading s i).ring = s.ring ∧
    (startLoading s i).timer = s.timer ∧ (startLoading s i).plan = s.plan ∧
    (startLoading s i).head = s.head ∧ (startLoading s i).thermal = s.thermal ∧
    (startLoading s i).lines = s.lines ∧ (startLoading s i).peers = s.peers ∧
    (startLoading s i).freeCount = s.freeCount ∧ (startLoading s i).pending = s.pending := by
  unfold startLoading
  (try dsimp only)
  (repeat' split) <;> simp

@[simp] theorem startUnheld_frame (s : State) (i : CtxId) (e : JobEntry) :
    (startUnheld s i e).station = s.station ∧ (startUnheld s i e).number = s.number ∧
    (startUnheld s i e).setup = s.setup ∧ (startUnheld s i e).loader = s.loader ∧
    (startUnheld s i e).raster = s.raster ∧ (startUnheld s i e).ring = s.ring ∧
    (startUnheld s i e).timer = s.timer ∧ (startUnheld s i e).plan = s.plan ∧
    (startUnheld s i e).head = s.head ∧ (startUnheld s i e).thermal = s.thermal ∧
    (startUnheld s i e).lines = s.lines ∧ (startUnheld s i e).peers = s.peers ∧
    (startUnheld s i e).store = s.store ∧ (startUnheld s i e).freeCount = s.freeCount ∧
    (startUnheld s i e).pending = s.pending := by
  unfold startUnheld
  (try dsimp only)
  (repeat' split) <;> simp

@[simp] theorem startEmpty_frame (s : State) (i : CtxId) (seq : Nat) (pv : Bool) :
    (startEmpty s i seq pv).station = s.station ∧ (startEmpty s i seq pv).number = s.number ∧
    (startEmpty s i seq pv).setup = s.setup ∧ (startEmpty s i seq pv).loader = s.loader ∧
    (startEmpty s i seq pv).raster = s.raster ∧ (startEmpty s i seq pv).ring = s.ring ∧
    (startEmpty s i seq pv).timer = s.timer ∧ (startEmpty s i seq pv).plan = s.plan ∧
    (startEmpty s i seq pv).head = s.head ∧ (startEmpty s i seq pv).thermal = s.thermal ∧
    (startEmpty s i seq pv).lines = s.lines ∧ (startEmpty s i seq pv).peers = s.peers ∧
    (startEmpty s i seq pv).store = s.store ∧ (startEmpty s i seq pv).freeCount = s.freeCount ∧
    (startEmpty s i seq pv).pending = s.pending := by
  unfold startEmpty
  (try dsimp only)
  (repeat' split) <;> simp

@[simp] theorem startLabel_frame (s : State) :
    (startLabel s).station = s.station ∧ (startLabel s).number = s.number ∧
    (startLabel s).setup = s.setup ∧ (startLabel s).ring = s.ring ∧ (startLabel s).timer = s.timer ∧
    (startLabel s).plan = s.plan ∧ (startLabel s).head = s.head ∧ (startLabel s).thermal = s.thermal ∧
    (startLabel s).lines = s.lines ∧ (startLabel s).peers = s.peers ∧
    (startLabel s).freeCount = s.freeCount ∧ (startLabel s).pending = s.pending := by
  unfold startLabel
  (try dsimp only)
  (repeat' split) <;> simp

@[simp] theorem purgeStale_frame (s : State) :
    (purgeStale s).station = s.station ∧ (purgeStale s).number = s.number ∧
    (purgeStale s).setup = s.setup ∧ (purgeStale s).seq = s.seq ∧ (purgeStale s).ctxA = s.ctxA ∧
    (purgeStale s).ctxB = s.ctxB ∧ (purgeStale s).loader = s.loader ∧ (purgeStale s).raster = s.raster ∧
    (purgeStale s).ring = s.ring ∧ (purgeStale s).timer = s.timer ∧ (purgeStale s).plan = s.plan ∧
    (purgeStale s).head = s.head ∧ (purgeStale s).thermal = s.thermal ∧ (purgeStale s).lines = s.lines ∧
    (purgeStale s).store = s.store ∧ (purgeStale s).report = s.report ∧
    (purgeStale s).freeCount = s.freeCount ∧ (purgeStale s).pending = s.pending := by
  unfold purgeStale
  (try dsimp only)
  (repeat' split) <;> simp

@[simp] theorem purgeStale_ctx (s : State) (j : CtxId) : (purgeStale s).ctx j = s.ctx j := by
  cases j <;> simp [State.ctx]

@[simp] theorem takeTof_frame (s : State) :
    (takeTof s).station = s.station ∧ (takeTof s).number = s.number ∧ (takeTof s).setup = s.setup ∧
    (takeTof s).timer = s.timer ∧ (takeTof s).plan = s.plan ∧ (takeTof s).head = s.head ∧
    (takeTof s).thermal = s.thermal ∧ (takeTof s).freeCount = s.freeCount ∧ (takeTof s).pending = s.pending := by
  unfold takeTof
  (try dsimp only)
  (repeat' split) <;> simp

@[simp] theorem popCommand_frame (s : State) :
    (popCommand s).station = s.station ∧ (popCommand s).number = s.number ∧
    (popCommand s).setup = s.setup ∧ (popCommand s).seq = s.seq ∧ (popCommand s).ctxA = s.ctxA ∧
    (popCommand s).ctxB = s.ctxB ∧ (popCommand s).loader = s.loader ∧ (popCommand s).raster = s.raster ∧
    (popCommand s).ring = s.ring ∧ (popCommand s).timer = s.timer ∧ (popCommand s).plan = s.plan ∧
    (popCommand s).head = s.head ∧ (popCommand s).thermal = s.thermal ∧ (popCommand s).lines = s.lines ∧
    (popCommand s).peers = s.peers ∧ (popCommand s).store = s.store ∧ (popCommand s).report = s.report ∧
    (popCommand s).freeCount = s.freeCount ∧ (popCommand s).pending = s.pending := by
  unfold popCommand
  (try dsimp only)
  (repeat' split) <;> simp

@[simp] theorem popCommand_ctx (s : State) (j : CtxId) : (popCommand s).ctx j = s.ctx j := by
  cases j <;> simp [State.ctx]

@[simp] theorem endLoad_frame (s : State) (l : Load) :
    (endLoad s l).station = s.station ∧ (endLoad s l).number = s.number ∧ (endLoad s l).setup = s.setup ∧
    (endLoad s l).raster = s.raster ∧ (endLoad s l).ring = s.ring ∧ (endLoad s l).timer = s.timer ∧
    (endLoad s l).plan = s.plan ∧ (endLoad s l).head = s.head ∧ (endLoad s l).thermal = s.thermal ∧
    (endLoad s l).lines = s.lines ∧ (endLoad s l).peers = s.peers ∧ (endLoad s l).freeCount = s.freeCount ∧
    (endLoad s l).pending = s.pending := by
  unfold endLoad
  (try dsimp only)
  (repeat' split) <;> simp

@[simp] theorem armIfReady_frame (s : State) (i : CtxId) :
    (armIfReady s i).station = s.station ∧ (armIfReady s i).number = s.number ∧
    (armIfReady s i).setup = s.setup ∧ (armIfReady s i).seq = s.seq ∧ (armIfReady s i).loader = s.loader ∧
    (armIfReady s i).raster = s.raster ∧ (armIfReady s i).ring = s.ring ∧
    (armIfReady s i).timer = s.timer ∧ (armIfReady s i).plan = s.plan ∧ (armIfReady s i).head = s.head ∧
    (armIfReady s i).thermal = s.thermal ∧ (armIfReady s i).lines = s.lines ∧
    (armIfReady s i).link = s.link ∧ (armIfReady s i).peers = s.peers ∧ (armIfReady s i).store = s.store ∧
    (armIfReady s i).report = s.report ∧ (armIfReady s i).freeCount = s.freeCount ∧
    (armIfReady s i).pending = s.pending := by
  unfold armIfReady
  (try dsimp only)
  (repeat' split) <;> simp

@[simp] theorem keepRender_frame (s : State) (r : Render) :
    (keepRender s r).station = s.station ∧ (keepRender s r).number = s.number ∧
    (keepRender s r).setup = s.setup ∧ (keepRender s r).seq = s.seq ∧ (keepRender s r).loader = s.loader ∧
    (keepRender s r).timer = s.timer ∧ (keepRender s r).plan = s.plan ∧ (keepRender s r).head = s.head ∧
    (keepRender s r).thermal = s.thermal ∧ (keepRender s r).lines = s.lines ∧
    (keepRender s r).peers = s.peers ∧ (keepRender s r).store = s.store ∧
    (keepRender s r).report = s.report ∧ (keepRender s r).freeCount = s.freeCount ∧
    (keepRender s r).pending = s.pending := by
  unfold keepRender
  (try dsimp only)
  (repeat' split) <;> simp

@[simp] theorem endRender_frame (s : State) (r : Render) :
    (endRender s r).station = s.station ∧ (endRender s r).number = s.number ∧
    (endRender s r).setup = s.setup ∧ (endRender s r).seq = s.seq ∧ (endRender s r).loader = s.loader ∧
    (endRender s r).timer = s.timer ∧ (endRender s r).plan = s.plan ∧ (endRender s r).head = s.head ∧
    (endRender s r).thermal = s.thermal ∧ (endRender s r).lines = s.lines ∧
    (endRender s r).peers = s.peers ∧ (endRender s r).report = s.report ∧
    (endRender s r).freeCount = s.freeCount ∧ (endRender s r).pending = s.pending := by
  unfold endRender
  (try dsimp only)
  (repeat' split) <;> simp

/-! ## Firing -/

@[simp] theorem drivePlan_frame (s : State) (p : Plan) :
    (drivePlan s p).station = s.station ∧ (drivePlan s p).number = s.number ∧
    (drivePlan s p).setup = s.setup ∧ (drivePlan s p).seq = s.seq ∧ (drivePlan s p).ctxA = s.ctxA ∧
    (drivePlan s p).ctxB = s.ctxB ∧ (drivePlan s p).loader = s.loader ∧ (drivePlan s p).raster = s.raster ∧
    (drivePlan s p).ring = s.ring ∧ (drivePlan s p).timer = s.timer ∧ (drivePlan s p).thermal = s.thermal ∧
    (drivePlan s p).lines = s.lines ∧ (drivePlan s p).link = s.link ∧ (drivePlan s p).peers = s.peers ∧
    (drivePlan s p).store = s.store ∧ (drivePlan s p).report = s.report ∧
    (drivePlan s p).freeCount = s.freeCount ∧ (drivePlan s p).pending = s.pending := by
  unfold drivePlan
  (try dsimp only)
  (repeat' split) <;> simp

@[simp] theorem drivePlan_ctx (s : State) (p : Plan) (j : CtxId) : (drivePlan s p).ctx j = s.ctx j := by
  cases j <;> simp [State.ctx]

@[simp] theorem afterPulse_frame (s : State) (p : Plan) :
    (afterPulse s p).station = s.station ∧ (afterPulse s p).number = s.number ∧
    (afterPulse s p).setup = s.setup ∧ (afterPulse s p).timer = s.timer ∧
    (afterPulse s p).thermal = s.thermal ∧ (afterPulse s p).lines = s.lines ∧
    (afterPulse s p).peers = s.peers ∧ (afterPulse s p).store = s.store ∧
    (afterPulse s p).freeCount = s.freeCount ∧ (afterPulse s p).pending = s.pending := by
  unfold afterPulse
  (try dsimp only)
  (repeat' split) <;> simp

@[simp] theorem reloadHold_frame (s : State) :
    (reloadHold s).station = s.station ∧ (reloadHold s).number = s.number ∧
    (reloadHold s).setup = s.setup ∧ (reloadHold s).seq = s.seq ∧ (reloadHold s).ctxA = s.ctxA ∧
    (reloadHold s).ctxB = s.ctxB ∧ (reloadHold s).loader = s.loader ∧ (reloadHold s).raster = s.raster ∧
    (reloadHold s).ring = s.ring ∧ (reloadHold s).timer = s.timer ∧ (reloadHold s).plan = s.plan ∧
    (reloadHold s).head = s.head ∧ (reloadHold s).lines = s.lines ∧ (reloadHold s).link = s.link ∧
    (reloadHold s).peers = s.peers ∧ (reloadHold s).store = s.store ∧ (reloadHold s).report = s.report ∧
    (reloadHold s).freeCount = s.freeCount ∧ (reloadHold s).pending = s.pending := by
  unfold reloadHold
  (try dsimp only)
  (repeat' split) <;> simp

@[simp] theorem reloadHold_ctx (s : State) (j : CtxId) : (reloadHold s).ctx j = s.ctx j := by
  cases j <;> simp [State.ctx]

@[simp] theorem decreaseHold_frame (s : State) :
    (decreaseHold s).station = s.station ∧ (decreaseHold s).number = s.number ∧
    (decreaseHold s).setup = s.setup ∧ (decreaseHold s).seq = s.seq ∧ (decreaseHold s).ctxA = s.ctxA ∧
    (decreaseHold s).ctxB = s.ctxB ∧ (decreaseHold s).loader = s.loader ∧
    (decreaseHold s).raster = s.raster ∧ (decreaseHold s).ring = s.ring ∧
    (decreaseHold s).timer = s.timer ∧ (decreaseHold s).plan = s.plan ∧ (decreaseHold s).head = s.head ∧
    (decreaseHold s).lines = s.lines ∧ (decreaseHold s).link = s.link ∧ (decreaseHold s).peers = s.peers ∧
    (decreaseHold s).store = s.store ∧ (decreaseHold s).report = s.report ∧
    (decreaseHold s).freeCount = s.freeCount ∧ (decreaseHold s).pending = s.pending := by
  unfold decreaseHold
  (try dsimp only)
  (repeat' split) <;> simp

@[simp] theorem decreaseHold_ctx (s : State) (j : CtxId) : (decreaseHold s).ctx j = s.ctx j := by
  cases j <;> simp [State.ctx]

@[simp] theorem cutFlight_frame (s : State) :
    (cutFlight s).station = s.station ∧ (cutFlight s).number = s.number ∧ (cutFlight s).setup = s.setup ∧
    (cutFlight s).loader = s.loader ∧ (cutFlight s).timer = s.timer ∧ (cutFlight s).lines = s.lines ∧
    (cutFlight s).peers = s.peers ∧ (cutFlight s).store = s.store ∧ (cutFlight s).freeCount = s.freeCount ∧
    (cutFlight s).pending = s.pending := by
  unfold cutFlight
  (try dsimp only)
  (repeat' split) <;> simp

@[simp] theorem passTime_frame (dt : Nat) (s : State) :
    (passTime dt s).station = s.station ∧ (passTime dt s).number = s.number ∧
    (passTime dt s).setup = s.setup ∧ (passTime dt s).seq = s.seq ∧ (passTime dt s).ctxA = s.ctxA ∧
    (passTime dt s).ctxB = s.ctxB ∧ (passTime dt s).loader = s.loader ∧ (passTime dt s).raster = s.raster ∧
    (passTime dt s).ring = s.ring ∧ (passTime dt s).plan = s.plan ∧ (passTime dt s).head = s.head ∧
    (passTime dt s).thermal = s.thermal ∧ (passTime dt s).lines = s.lines ∧
    (passTime dt s).peers = s.peers ∧ (passTime dt s).store = s.store ∧ (passTime dt s).report = s.report ∧
    (passTime dt s).freeCount = s.freeCount ∧ (passTime dt s).pending = s.pending := by
  unfold passTime
  (try dsimp only)
  (repeat' split) <;> simp

@[simp] theorem passTime_ctx (dt : Nat) (s : State) (j : CtxId) : (passTime dt s).ctx j = s.ctx j := by
  cases j <;> simp [State.ctx]

@[simp] theorem recordGap_frame (s : State) :
    (recordGap s).station = s.station ∧ (recordGap s).number = s.number ∧ (recordGap s).setup = s.setup ∧
    (recordGap s).seq = s.seq ∧ (recordGap s).ctxA = s.ctxA ∧ (recordGap s).ctxB = s.ctxB ∧
    (recordGap s).loader = s.loader ∧ (recordGap s).raster = s.raster ∧ (recordGap s).timer = s.timer ∧
    (recordGap s).plan = s.plan ∧ (recordGap s).head = s.head ∧ (recordGap s).thermal = s.thermal ∧
    (recordGap s).lines = s.lines ∧ (recordGap s).link = s.link ∧ (recordGap s).peers = s.peers ∧
    (recordGap s).store = s.store ∧ (recordGap s).report = s.report ∧
    (recordGap s).freeCount = s.freeCount ∧ (recordGap s).pending = s.pending := by
  unfold recordGap
  (try dsimp only)
  (repeat' split) <;> simp

@[simp] theorem recordGap_ctx (s : State) (j : CtxId) : (recordGap s).ctx j = s.ctx j := by
  cases j <;> simp [State.ctx]

@[simp] theorem recordEmpty_frame (s : State) (x : Slot) (seq row : Nat) :
    (recordEmpty s x seq row).station = s.station ∧ (recordEmpty s x seq row).number = s.number ∧
    (recordEmpty s x seq row).setup = s.setup ∧ (recordEmpty s x seq row).seq = s.seq ∧
    (recordEmpty s x seq row).ctxA = s.ctxA ∧ (recordEmpty s x seq row).ctxB = s.ctxB ∧
    (recordEmpty s x seq row).loader = s.loader ∧ (recordEmpty s x seq row).raster = s.raster ∧
    (recordEmpty s x seq row).timer = s.timer ∧ (recordEmpty s x seq row).plan = s.plan ∧
    (recordEmpty s x seq row).head = s.head ∧ (recordEmpty s x seq row).thermal = s.thermal ∧
    (recordEmpty s x seq row).lines = s.lines ∧ (recordEmpty s x seq row).link = s.link ∧
    (recordEmpty s x seq row).peers = s.peers ∧ (recordEmpty s x seq row).store = s.store ∧
    (recordEmpty s x seq row).report = s.report ∧ (recordEmpty s x seq row).freeCount = s.freeCount ∧
    (recordEmpty s x seq row).pending = s.pending := by
  unfold recordEmpty
  (try dsimp only)
  (repeat' split) <;> simp

@[simp] theorem recordEmpty_ctx (s : State) (x : Slot) (seq row : Nat) (j : CtxId) : (recordEmpty s x seq row).ctx j = s.ctx j := by
  cases j <;> simp [State.ctx]

@[simp] theorem beginFiring_frame (s : State) (x : Slot) (p : Plan) :
    (beginFiring s x p).station = s.station ∧ (beginFiring s x p).number = s.number ∧
    (beginFiring s x p).setup = s.setup ∧ (beginFiring s x p).seq = s.seq ∧
    (beginFiring s x p).ctxA = s.ctxA ∧ (beginFiring s x p).ctxB = s.ctxB ∧
    (beginFiring s x p).loader = s.loader ∧ (beginFiring s x p).raster = s.raster ∧
    (beginFiring s x p).timer = s.timer ∧ (beginFiring s x p).lines = s.lines ∧
    (beginFiring s x p).link = s.link ∧ (beginFiring s x p).peers = s.peers ∧
    (beginFiring s x p).store = s.store ∧ (beginFiring s x p).report = s.report ∧
    (beginFiring s x p).freeCount = s.freeCount ∧ (beginFiring s x p).pending = s.pending := by
  unfold beginFiring
  (try dsimp only)
  (repeat' split) <;> simp

@[simp] theorem beginFiring_ctx (s : State) (x : Slot) (p : Plan) (j : CtxId) : (beginFiring s x p).ctx j = s.ctx j := by
  cases j <;> simp [State.ctx]

@[simp] theorem fireRow_frame (s : State) (c : Context) (x : Slot) (row : Nat) :
    (fireRow s c x row).station = s.station ∧ (fireRow s c x row).number = s.number ∧
    (fireRow s c x row).setup = s.setup ∧ (fireRow s c x row).loader = s.loader ∧
    (fireRow s c x row).timer = s.timer ∧ (fireRow s c x row).lines = s.lines ∧
    (fireRow s c x row).peers = s.peers ∧ (fireRow s c x row).store = s.store ∧
    (fireRow s c x row).freeCount = s.freeCount ∧ (fireRow s c x row).pending = s.pending := by
  unfold fireRow
  (try dsimp only)
  (repeat' split) <;> simp

@[simp] theorem lateRow_frame (s : State) (seq : Nat) :
    (lateRow s seq).station = s.station ∧ (lateRow s seq).number = s.number ∧
    (lateRow s seq).setup = s.setup ∧ (lateRow s seq).loader = s.loader ∧ (lateRow s seq).timer = s.timer ∧
    (lateRow s seq).plan = s.plan ∧ (lateRow s seq).head = s.head ∧ (lateRow s seq).thermal = s.thermal ∧
    (lateRow s seq).lines = s.lines ∧ (lateRow s seq).peers = s.peers ∧ (lateRow s seq).store = s.store ∧
    (lateRow s seq).freeCount = s.freeCount ∧ (lateRow s seq).pending = s.pending := by
  unfold lateRow
  (try dsimp only)
  (repeat' split) <;> simp

@[simp] theorem takeRow_frame (s : State) (i : CtxId) :
    (takeRow s i).station = s.station ∧ (takeRow s i).number = s.number ∧ (takeRow s i).setup = s.setup ∧
    (takeRow s i).loader = s.loader ∧ (takeRow s i).timer = s.timer ∧ (takeRow s i).lines = s.lines ∧
    (takeRow s i).peers = s.peers ∧ (takeRow s i).store = s.store ∧ (takeRow s i).freeCount = s.freeCount ∧
    (takeRow s i).pending = s.pending := by
  unfold takeRow
  (try dsimp only)
  (repeat' split) <;> simp

@[simp] theorem handRow_frame (s : State) :
    (handRow s).station = s.station ∧ (handRow s).number = s.number ∧ (handRow s).setup = s.setup ∧
    (handRow s).loader = s.loader ∧ (handRow s).timer = s.timer ∧ (handRow s).lines = s.lines ∧
    (handRow s).peers = s.peers ∧ (handRow s).store = s.store ∧ (handRow s).freeCount = s.freeCount ∧
    (handRow s).pending = s.pending := by
  unfold handRow
  (try dsimp only)
  (repeat' split) <;> simp

@[simp] theorem pulseActive_frame (s : State) :
    (pulseActive s).station = s.station ∧ (pulseActive s).number = s.number ∧
    (pulseActive s).setup = s.setup ∧ (pulseActive s).timer = s.timer ∧ (pulseActive s).store = s.store ∧
    (pulseActive s).freeCount = s.freeCount ∧ (pulseActive s).pending = s.pending := by
  unfold pulseActive
  (try dsimp only)
  (repeat' split) <;> simp

/-! ## Store -/

@[simp] theorem storeRecord_frame (s : State) (cmd : StoreCmd) (number : Nat) (result : StoreResult) (generation received : Nat) :
    (storeRecord s cmd number result generation received).station = s.station ∧
    (storeRecord s cmd number result generation received).number = s.number ∧
    (storeRecord s cmd number result generation received).setup = s.setup ∧
    (storeRecord s cmd number result generation received).seq = s.seq ∧
    (storeRecord s cmd number result generation received).ctxA = s.ctxA ∧
    (storeRecord s cmd number result generation received).ctxB = s.ctxB ∧
    (storeRecord s cmd number result generation received).loader = s.loader ∧
    (storeRecord s cmd number result generation received).raster = s.raster ∧
    (storeRecord s cmd number result generation received).ring = s.ring ∧
    (storeRecord s cmd number result generation received).timer = s.timer ∧
    (storeRecord s cmd number result generation received).plan = s.plan ∧
    (storeRecord s cmd number result generation received).head = s.head ∧
    (storeRecord s cmd number result generation received).thermal = s.thermal ∧
    (storeRecord s cmd number result generation received).lines = s.lines ∧
    (storeRecord s cmd number result generation received).peers = s.peers ∧
    (storeRecord s cmd number result generation received).store = s.store ∧
    (storeRecord s cmd number result generation received).freeCount = s.freeCount ∧
    (storeRecord s cmd number result generation received).pending = s.pending := by
  unfold storeRecord
  (try dsimp only)
  (repeat' split) <;> simp

@[simp] theorem storeRecord_ctx (s : State) (cmd : StoreCmd) (number : Nat) (result : StoreResult) (generation received : Nat) (j : CtxId) : (storeRecord s cmd number result generation received).ctx j = s.ctx j := by
  cases j <;> simp [State.ctx]

@[simp] theorem abandonWrite_frame (s : State) (w : WriteCtx) :
    (abandonWrite s w).station = s.station ∧ (abandonWrite s w).number = s.number ∧
    (abandonWrite s w).setup = s.setup ∧ (abandonWrite s w).seq = s.seq ∧
    (abandonWrite s w).ctxA = s.ctxA ∧ (abandonWrite s w).ctxB = s.ctxB ∧
    (abandonWrite s w).loader = s.loader ∧ (abandonWrite s w).raster = s.raster ∧
    (abandonWrite s w).ring = s.ring ∧ (abandonWrite s w).timer = s.timer ∧
    (abandonWrite s w).plan = s.plan ∧ (abandonWrite s w).head = s.head ∧
    (abandonWrite s w).thermal = s.thermal ∧ (abandonWrite s w).lines = s.lines ∧
    (abandonWrite s w).link = s.link ∧ (abandonWrite s w).peers = s.peers ∧
    (abandonWrite s w).report = s.report ∧ (abandonWrite s w).freeCount = s.freeCount ∧
    (abandonWrite s w).pending = s.pending := by
  unfold abandonWrite
  (try dsimp only)
  (repeat' split) <;> simp

@[simp] theorem abandonWrite_ctx (s : State) (w : WriteCtx) (j : CtxId) : (abandonWrite s w).ctx j = s.ctx j := by
  cases j <;> simp [State.ctx]

@[simp] theorem abandonForBegin_frame (s : State) :
    (abandonForBegin s).station = s.station ∧ (abandonForBegin s).number = s.number ∧
    (abandonForBegin s).setup = s.setup ∧ (abandonForBegin s).seq = s.seq ∧
    (abandonForBegin s).ctxA = s.ctxA ∧ (abandonForBegin s).ctxB = s.ctxB ∧
    (abandonForBegin s).loader = s.loader ∧ (abandonForBegin s).raster = s.raster ∧
    (abandonForBegin s).ring = s.ring ∧ (abandonForBegin s).timer = s.timer ∧
    (abandonForBegin s).plan = s.plan ∧ (abandonForBegin s).head = s.head ∧
    (abandonForBegin s).thermal = s.thermal ∧ (abandonForBegin s).lines = s.lines ∧
    (abandonForBegin s).peers = s.peers ∧ (abandonForBegin s).freeCount = s.freeCount ∧
    (abandonForBegin s).pending = s.pending := by
  unfold abandonForBegin
  (try dsimp only)
  (repeat' split) <;> simp

@[simp] theorem abandonForBegin_ctx (s : State) (j : CtxId) : (abandonForBegin s).ctx j = s.ctx j := by
  cases j <;> simp [State.ctx]

@[simp] theorem takeStoreBegin_frame (s : State) (number kind len : Nat) :
    (takeStoreBegin s number kind len).station = s.station ∧
    (takeStoreBegin s number kind len).number = s.number ∧
    (takeStoreBegin s number kind len).setup = s.setup ∧ (takeStoreBegin s number kind len).seq = s.seq ∧
    (takeStoreBegin s number kind len).ctxA = s.ctxA ∧ (takeStoreBegin s number kind len).ctxB = s.ctxB ∧
    (takeStoreBegin s number kind len).loader = s.loader ∧
    (takeStoreBegin s number kind len).raster = s.raster ∧
    (takeStoreBegin s number kind len).ring = s.ring ∧ (takeStoreBegin s number kind len).timer = s.timer ∧
    (takeStoreBegin s number kind len).plan = s.plan ∧ (takeStoreBegin s number kind len).head = s.head ∧
    (takeStoreBegin s number kind len).thermal = s.thermal ∧
    (takeStoreBegin s number kind len).lines = s.lines ∧
    (takeStoreBegin s number kind len).peers = s.peers ∧
    (takeStoreBegin s number kind len).freeCount = s.freeCount ∧
    (takeStoreBegin s number kind len).pending = s.pending := by
  unfold takeStoreBegin
  (try dsimp only)
  (repeat' split) <;> simp

@[simp] theorem takeStoreBegin_ctx (s : State) (number kind len : Nat) (j : CtxId) : (takeStoreBegin s number kind len).ctx j = s.ctx j := by
  cases j <;> simp [State.ctx]

@[simp] theorem takeStoreData_frame (s : State) (offset : Nat) (bytes : List Byte) :
    (takeStoreData s offset bytes).station = s.station ∧ (takeStoreData s offset bytes).number = s.number ∧
    (takeStoreData s offset bytes).setup = s.setup ∧ (takeStoreData s offset bytes).seq = s.seq ∧
    (takeStoreData s offset bytes).ctxA = s.ctxA ∧ (takeStoreData s offset bytes).ctxB = s.ctxB ∧
    (takeStoreData s offset bytes).loader = s.loader ∧ (takeStoreData s offset bytes).raster = s.raster ∧
    (takeStoreData s offset bytes).ring = s.ring ∧ (takeStoreData s offset bytes).timer = s.timer ∧
    (takeStoreData s offset bytes).plan = s.plan ∧ (takeStoreData s offset bytes).head = s.head ∧
    (takeStoreData s offset bytes).thermal = s.thermal ∧ (takeStoreData s offset bytes).lines = s.lines ∧
    (takeStoreData s offset bytes).peers = s.peers ∧
    (takeStoreData s offset bytes).freeCount = s.freeCount ∧
    (takeStoreData s offset bytes).pending = s.pending := by
  unfold takeStoreData
  (try dsimp only)
  (repeat' split) <;> simp

@[simp] theorem takeStoreData_ctx (s : State) (offset : Nat) (bytes : List Byte) (j : CtxId) : (takeStoreData s offset bytes).ctx j = s.ctx j := by
  cases j <;> simp [State.ctx]

@[simp] theorem takeStoreEnd_frame (s : State) (check : Check) :
    (takeStoreEnd s check).station = s.station ∧ (takeStoreEnd s check).number = s.number ∧
    (takeStoreEnd s check).setup = s.setup ∧ (takeStoreEnd s check).seq = s.seq ∧
    (takeStoreEnd s check).ctxA = s.ctxA ∧ (takeStoreEnd s check).ctxB = s.ctxB ∧
    (takeStoreEnd s check).loader = s.loader ∧ (takeStoreEnd s check).raster = s.raster ∧
    (takeStoreEnd s check).ring = s.ring ∧ (takeStoreEnd s check).timer = s.timer ∧
    (takeStoreEnd s check).plan = s.plan ∧ (takeStoreEnd s check).head = s.head ∧
    (takeStoreEnd s check).thermal = s.thermal ∧ (takeStoreEnd s check).lines = s.lines ∧
    (takeStoreEnd s check).peers = s.peers ∧ (takeStoreEnd s check).freeCount = s.freeCount ∧
    (takeStoreEnd s check).pending = s.pending := by
  unfold takeStoreEnd
  (try dsimp only)
  (repeat' split) <;> simp

@[simp] theorem takeStoreEnd_ctx (s : State) (check : Check) (j : CtxId) : (takeStoreEnd s check).ctx j = s.ctx j := by
  cases j <;> simp [State.ctx]

@[simp] theorem takeStoreDelete_frame (s : State) (number : Nat) :
    (takeStoreDelete s number).station = s.station ∧ (takeStoreDelete s number).number = s.number ∧
    (takeStoreDelete s number).setup = s.setup ∧ (takeStoreDelete s number).seq = s.seq ∧
    (takeStoreDelete s number).ctxA = s.ctxA ∧ (takeStoreDelete s number).ctxB = s.ctxB ∧
    (takeStoreDelete s number).loader = s.loader ∧ (takeStoreDelete s number).raster = s.raster ∧
    (takeStoreDelete s number).ring = s.ring ∧ (takeStoreDelete s number).timer = s.timer ∧
    (takeStoreDelete s number).plan = s.plan ∧ (takeStoreDelete s number).head = s.head ∧
    (takeStoreDelete s number).thermal = s.thermal ∧ (takeStoreDelete s number).lines = s.lines ∧
    (takeStoreDelete s number).peers = s.peers ∧ (takeStoreDelete s number).freeCount = s.freeCount ∧
    (takeStoreDelete s number).pending = s.pending := by
  unfold takeStoreDelete
  (try dsimp only)
  (repeat' split) <;> simp

@[simp] theorem takeStoreDelete_ctx (s : State) (number : Nat) (j : CtxId) : (takeStoreDelete s number).ctx j = s.ctx j := by
  cases j <;> simp [State.ctx]

@[simp] theorem takeStoreFrame_frame (s : State) (f : StoreFrame) :
    (takeStoreFrame s f).station = s.station ∧ (takeStoreFrame s f).number = s.number ∧
    (takeStoreFrame s f).setup = s.setup ∧ (takeStoreFrame s f).seq = s.seq ∧
    (takeStoreFrame s f).ctxA = s.ctxA ∧ (takeStoreFrame s f).ctxB = s.ctxB ∧
    (takeStoreFrame s f).loader = s.loader ∧ (takeStoreFrame s f).raster = s.raster ∧
    (takeStoreFrame s f).ring = s.ring ∧ (takeStoreFrame s f).timer = s.timer ∧
    (takeStoreFrame s f).plan = s.plan ∧ (takeStoreFrame s f).head = s.head ∧
    (takeStoreFrame s f).thermal = s.thermal ∧ (takeStoreFrame s f).lines = s.lines ∧
    (takeStoreFrame s f).peers = s.peers ∧ (takeStoreFrame s f).freeCount = s.freeCount ∧
    (takeStoreFrame s f).pending = s.pending := by
  unfold takeStoreFrame
  (try dsimp only)
  (repeat' split) <;> simp

@[simp] theorem takeStoreFrame_ctx (s : State) (f : StoreFrame) (j : CtxId) : (takeStoreFrame s f).ctx j = s.ctx j := by
  cases j <;> simp [State.ctx]

@[simp] theorem popStore_frame (s : State) :
    (popStore s).station = s.station ∧ (popStore s).number = s.number ∧ (popStore s).setup = s.setup ∧
    (popStore s).seq = s.seq ∧ (popStore s).ctxA = s.ctxA ∧ (popStore s).ctxB = s.ctxB ∧
    (popStore s).loader = s.loader ∧ (popStore s).raster = s.raster ∧ (popStore s).ring = s.ring ∧
    (popStore s).timer = s.timer ∧ (popStore s).plan = s.plan ∧ (popStore s).head = s.head ∧
    (popStore s).thermal = s.thermal ∧ (popStore s).lines = s.lines ∧ (popStore s).peers = s.peers ∧
    (popStore s).store = s.store ∧ (popStore s).report = s.report ∧ (popStore s).freeCount = s.freeCount ∧
    (popStore s).pending = s.pending := by
  unfold popStore
  (try dsimp only)
  (repeat' split) <;> simp

@[simp] theorem popStore_ctx (s : State) (j : CtxId) : (popStore s).ctx j = s.ctx j := by
  cases j <;> simp [State.ctx]

@[simp] theorem takeNextStore_frame (s : State) :
    (takeNextStore s).station = s.station ∧ (takeNextStore s).number = s.number ∧
    (takeNextStore s).setup = s.setup ∧ (takeNextStore s).seq = s.seq ∧ (takeNextStore s).ctxA = s.ctxA ∧
    (takeNextStore s).ctxB = s.ctxB ∧ (takeNextStore s).loader = s.loader ∧
    (takeNextStore s).raster = s.raster ∧ (takeNextStore s).ring = s.ring ∧
    (takeNextStore s).timer = s.timer ∧ (takeNextStore s).plan = s.plan ∧ (takeNextStore s).head = s.head ∧
    (takeNextStore s).thermal = s.thermal ∧ (takeNextStore s).lines = s.lines ∧
    (takeNextStore s).peers = s.peers ∧ (takeNextStore s).freeCount = s.freeCount ∧
    (takeNextStore s).pending = s.pending := by
  unfold takeNextStore
  (try dsimp only)
  (repeat' split) <;> simp

@[simp] theorem takeNextStore_ctx (s : State) (j : CtxId) : (takeNextStore s).ctx j = s.ctx j := by
  cases j <;> simp [State.ctx]

@[simp] theorem takeStoreHead_frame (s : State) (cmd : StoreCmd) :
    (takeStoreHead s cmd).station = s.station ∧ (takeStoreHead s cmd).number = s.number ∧
    (takeStoreHead s cmd).setup = s.setup ∧ (takeStoreHead s cmd).seq = s.seq ∧
    (takeStoreHead s cmd).ctxA = s.ctxA ∧ (takeStoreHead s cmd).ctxB = s.ctxB ∧
    (takeStoreHead s cmd).loader = s.loader ∧ (takeStoreHead s cmd).raster = s.raster ∧
    (takeStoreHead s cmd).ring = s.ring ∧ (takeStoreHead s cmd).timer = s.timer ∧
    (takeStoreHead s cmd).plan = s.plan ∧ (takeStoreHead s cmd).head = s.head ∧
    (takeStoreHead s cmd).thermal = s.thermal ∧ (takeStoreHead s cmd).lines = s.lines ∧
    (takeStoreHead s cmd).peers = s.peers ∧ (takeStoreHead s cmd).freeCount = s.freeCount ∧
    (takeStoreHead s cmd).pending = s.pending := by
  unfold takeStoreHead
  (try dsimp only)
  (repeat' split) <;> simp

@[simp] theorem takeStoreHead_ctx (s : State) (cmd : StoreCmd) (j : CtxId) : (takeStoreHead s cmd).ctx j = s.ctx j := by
  cases j <;> simp [State.ctx]

@[simp] theorem completeServing_frame (s : State) (sv : Serving) :
    (completeServing s sv).station = s.station ∧ (completeServing s sv).number = s.number ∧
    (completeServing s sv).setup = s.setup ∧ (completeServing s sv).seq = s.seq ∧
    (completeServing s sv).ctxA = s.ctxA ∧ (completeServing s sv).ctxB = s.ctxB ∧
    (completeServing s sv).raster = s.raster ∧ (completeServing s sv).ring = s.ring ∧
    (completeServing s sv).timer = s.timer ∧ (completeServing s sv).plan = s.plan ∧
    (completeServing s sv).head = s.head ∧ (completeServing s sv).thermal = s.thermal ∧
    (completeServing s sv).lines = s.lines ∧ (completeServing s sv).peers = s.peers ∧
    (completeServing s sv).freeCount = s.freeCount ∧ (completeServing s sv).pending = s.pending := by
  unfold completeServing
  (try dsimp only)
  (repeat' split) <;> simp

@[simp] theorem completeServing_ctx (s : State) (sv : Serving) (j : CtxId) : (completeServing s sv).ctx j = s.ctx j := by
  cases j <;> simp [State.ctx]

@[simp] theorem endServing_frame (s : State) :
    (endServing s).station = s.station ∧ (endServing s).number = s.number ∧
    (endServing s).setup = s.setup ∧ (endServing s).seq = s.seq ∧ (endServing s).ctxA = s.ctxA ∧
    (endServing s).ctxB = s.ctxB ∧ (endServing s).raster = s.raster ∧ (endServing s).ring = s.ring ∧
    (endServing s).timer = s.timer ∧ (endServing s).plan = s.plan ∧ (endServing s).head = s.head ∧
    (endServing s).thermal = s.thermal ∧ (endServing s).lines = s.lines ∧ (endServing s).peers = s.peers ∧
    (endServing s).freeCount = s.freeCount ∧ (endServing s).pending = s.pending := by
  unfold endServing
  (try dsimp only)
  (repeat' split) <;> simp

@[simp] theorem endServing_ctx (s : State) (j : CtxId) : (endServing s).ctx j = s.ctx j := by
  cases j <;> simp [State.ctx]

@[simp] theorem continueServing_frame (s : State) :
    (continueServing s).station = s.station ∧ (continueServing s).number = s.number ∧
    (continueServing s).setup = s.setup ∧ (continueServing s).seq = s.seq ∧
    (continueServing s).ctxA = s.ctxA ∧ (continueServing s).ctxB = s.ctxB ∧
    (continueServing s).raster = s.raster ∧ (continueServing s).ring = s.ring ∧
    (continueServing s).timer = s.timer ∧ (continueServing s).plan = s.plan ∧
    (continueServing s).head = s.head ∧ (continueServing s).thermal = s.thermal ∧
    (continueServing s).lines = s.lines ∧ (continueServing s).peers = s.peers ∧
    (continueServing s).freeCount = s.freeCount ∧ (continueServing s).pending = s.pending := by
  unfold continueServing
  (try dsimp only)
  (repeat' split) <;> simp

@[simp] theorem continueServing_ctx (s : State) (j : CtxId) : (continueServing s).ctx j = s.ctx j := by
  cases j <;> simp [State.ctx]

@[simp] theorem failServing_frame (s : State) (sv : Serving) (op : StoreOp) :
    (failServing s sv op).station = s.station ∧ (failServing s sv op).number = s.number ∧
    (failServing s sv op).setup = s.setup ∧ (failServing s sv op).seq = s.seq ∧
    (failServing s sv op).ctxA = s.ctxA ∧ (failServing s sv op).ctxB = s.ctxB ∧
    (failServing s sv op).raster = s.raster ∧ (failServing s sv op).ring = s.ring ∧
    (failServing s sv op).timer = s.timer ∧ (failServing s sv op).plan = s.plan ∧
    (failServing s sv op).head = s.head ∧ (failServing s sv op).thermal = s.thermal ∧
    (failServing s sv op).lines = s.lines ∧ (failServing s sv op).peers = s.peers ∧
    (failServing s sv op).freeCount = s.freeCount ∧ (failServing s sv op).pending = s.pending := by
  unfold failServing
  (try dsimp only)
  (repeat' split) <;> simp

@[simp] theorem failServing_ctx (s : State) (sv : Serving) (op : StoreOp) (j : CtxId) : (failServing s sv op).ctx j = s.ctx j := by
  cases j <;> simp [State.ctx]

@[simp] theorem suspended_frame (s : State) :
    (suspended s).station = s.station ∧ (suspended s).number = s.number ∧ (suspended s).setup = s.setup ∧
    (suspended s).seq = s.seq ∧ (suspended s).ctxA = s.ctxA ∧ (suspended s).ctxB = s.ctxB ∧
    (suspended s).raster = s.raster ∧ (suspended s).ring = s.ring ∧ (suspended s).timer = s.timer ∧
    (suspended s).plan = s.plan ∧ (suspended s).head = s.head ∧ (suspended s).thermal = s.thermal ∧
    (suspended s).lines = s.lines ∧ (suspended s).link = s.link ∧ (suspended s).peers = s.peers ∧
    (suspended s).report = s.report ∧ (suspended s).freeCount = s.freeCount ∧
    (suspended s).pending = s.pending := by
  unfold suspended
  (try dsimp only)
  (repeat' split) <;> simp

@[simp] theorem suspended_ctx (s : State) (j : CtxId) : (suspended s).ctx j = s.ctx j := by
  cases j <;> simp [State.ctx]

@[simp] theorem requestRead_frame (s : State) :
    (requestRead s).station = s.station ∧ (requestRead s).number = s.number ∧
    (requestRead s).setup = s.setup ∧ (requestRead s).seq = s.seq ∧ (requestRead s).ctxA = s.ctxA ∧
    (requestRead s).ctxB = s.ctxB ∧ (requestRead s).raster = s.raster ∧ (requestRead s).ring = s.ring ∧
    (requestRead s).timer = s.timer ∧ (requestRead s).plan = s.plan ∧ (requestRead s).head = s.head ∧
    (requestRead s).thermal = s.thermal ∧ (requestRead s).lines = s.lines ∧ (requestRead s).link = s.link ∧
    (requestRead s).peers = s.peers ∧ (requestRead s).report = s.report ∧
    (requestRead s).freeCount = s.freeCount ∧ (requestRead s).pending = s.pending := by
  unfold requestRead
  (try dsimp only)
  (repeat' split) <;> simp

@[simp] theorem requestRead_ctx (s : State) (j : CtxId) : (requestRead s).ctx j = s.ctx j := by
  cases j <;> simp [State.ctx]

@[simp] theorem requestLookup_frame (s : State) (l : Load) :
    (requestLookup s l).station = s.station ∧ (requestLookup s l).number = s.number ∧
    (requestLookup s l).setup = s.setup ∧ (requestLookup s l).seq = s.seq ∧
    (requestLookup s l).ctxA = s.ctxA ∧ (requestLookup s l).ctxB = s.ctxB ∧
    (requestLookup s l).raster = s.raster ∧ (requestLookup s l).ring = s.ring ∧
    (requestLookup s l).timer = s.timer ∧ (requestLookup s l).plan = s.plan ∧
    (requestLookup s l).head = s.head ∧ (requestLookup s l).thermal = s.thermal ∧
    (requestLookup s l).lines = s.lines ∧ (requestLookup s l).link = s.link ∧
    (requestLookup s l).peers = s.peers ∧ (requestLookup s l).report = s.report ∧
    (requestLookup s l).freeCount = s.freeCount ∧ (requestLookup s l).pending = s.pending := by
  unfold requestLookup
  (try dsimp only)
  (repeat' split) <;> simp

@[simp] theorem requestLookup_ctx (s : State) (l : Load) (j : CtxId) : (requestLookup s l).ctx j = s.ctx j := by
  cases j <;> simp [State.ctx]

/-! ## Head link -/

@[simp] theorem setReceiver_frame (s : State) (r : Receiver) (quiet : Nat) :
    (setReceiver s r quiet).station = s.station ∧ (setReceiver s r quiet).number = s.number ∧
    (setReceiver s r quiet).setup = s.setup ∧ (setReceiver s r quiet).seq = s.seq ∧
    (setReceiver s r quiet).ctxA = s.ctxA ∧ (setReceiver s r quiet).ctxB = s.ctxB ∧
    (setReceiver s r quiet).loader = s.loader ∧ (setReceiver s r quiet).raster = s.raster ∧
    (setReceiver s r quiet).ring = s.ring ∧ (setReceiver s r quiet).timer = s.timer ∧
    (setReceiver s r quiet).plan = s.plan ∧ (setReceiver s r quiet).head = s.head ∧
    (setReceiver s r quiet).thermal = s.thermal ∧ (setReceiver s r quiet).lines = s.lines ∧
    (setReceiver s r quiet).peers = s.peers ∧ (setReceiver s r quiet).store = s.store ∧
    (setReceiver s r quiet).report = s.report ∧ (setReceiver s r quiet).freeCount = s.freeCount ∧
    (setReceiver s r quiet).pending = s.pending := by
  unfold setReceiver
  (try dsimp only)
  (repeat' split) <;> simp

@[simp] theorem setReceiver_ctx (s : State) (r : Receiver) (quiet : Nat) (j : CtxId) : (setReceiver s r quiet).ctx j = s.ctx j := by
  cases j <;> simp [State.ctx]

@[simp] theorem badFrame_frame (s : State) :
    (badFrame s).station = s.station ∧ (badFrame s).number = s.number ∧ (badFrame s).setup = s.setup ∧
    (badFrame s).seq = s.seq ∧ (badFrame s).ctxA = s.ctxA ∧ (badFrame s).ctxB = s.ctxB ∧
    (badFrame s).loader = s.loader ∧ (badFrame s).raster = s.raster ∧ (badFrame s).ring = s.ring ∧
    (badFrame s).timer = s.timer ∧ (badFrame s).plan = s.plan ∧ (badFrame s).head = s.head ∧
    (badFrame s).thermal = s.thermal ∧ (badFrame s).lines = s.lines ∧ (badFrame s).peers = s.peers ∧
    (badFrame s).store = s.store ∧ (badFrame s).report = s.report ∧ (badFrame s).freeCount = s.freeCount ∧
    (badFrame s).pending = s.pending := by
  unfold badFrame
  (try dsimp only)
  (repeat' split) <;> simp

@[simp] theorem badFrame_ctx (s : State) (j : CtxId) : (badFrame s).ctx j = s.ctx j := by
  cases j <;> simp [State.ctx]

@[simp] theorem receiveError_frame (s : State) (e : RxError) :
    (receiveError s e).station = s.station ∧ (receiveError s e).number = s.number ∧
    (receiveError s e).setup = s.setup ∧ (receiveError s e).seq = s.seq ∧
    (receiveError s e).ctxA = s.ctxA ∧ (receiveError s e).ctxB = s.ctxB ∧
    (receiveError s e).loader = s.loader ∧ (receiveError s e).raster = s.raster ∧
    (receiveError s e).ring = s.ring ∧ (receiveError s e).timer = s.timer ∧
    (receiveError s e).plan = s.plan ∧ (receiveError s e).head = s.head ∧
    (receiveError s e).thermal = s.thermal ∧ (receiveError s e).lines = s.lines ∧
    (receiveError s e).peers = s.peers ∧ (receiveError s e).store = s.store ∧
    (receiveError s e).report = s.report ∧ (receiveError s e).freeCount = s.freeCount ∧
    (receiveError s e).pending = s.pending := by
  unfold receiveError
  (try dsimp only)
  (repeat' split) <;> simp

@[simp] theorem receiveError_ctx (s : State) (e : RxError) (j : CtxId) : (receiveError s e).ctx j = s.ctx j := by
  cases j <;> simp [State.ctx]

@[simp] theorem lineQuiet_frame (s : State) :
    (lineQuiet s).station = s.station ∧ (lineQuiet s).number = s.number ∧ (lineQuiet s).setup = s.setup ∧
    (lineQuiet s).seq = s.seq ∧ (lineQuiet s).ctxA = s.ctxA ∧ (lineQuiet s).ctxB = s.ctxB ∧
    (lineQuiet s).loader = s.loader ∧ (lineQuiet s).raster = s.raster ∧ (lineQuiet s).ring = s.ring ∧
    (lineQuiet s).timer = s.timer ∧ (lineQuiet s).plan = s.plan ∧ (lineQuiet s).head = s.head ∧
    (lineQuiet s).thermal = s.thermal ∧ (lineQuiet s).lines = s.lines ∧ (lineQuiet s).peers = s.peers ∧
    (lineQuiet s).store = s.store ∧ (lineQuiet s).report = s.report ∧
    (lineQuiet s).freeCount = s.freeCount ∧ (lineQuiet s).pending = s.pending := by
  unfold lineQuiet
  (try dsimp only)
  (repeat' split) <;> simp

@[simp] theorem lineQuiet_ctx (s : State) (j : CtxId) : (lineQuiet s).ctx j = s.ctx j := by
  cases j <;> simp [State.ctx]

@[simp] theorem frameBegins_frame (s : State) :
    (frameBegins s).station = s.station ∧ (frameBegins s).number = s.number ∧
    (frameBegins s).setup = s.setup ∧ (frameBegins s).seq = s.seq ∧ (frameBegins s).ctxA = s.ctxA ∧
    (frameBegins s).ctxB = s.ctxB ∧ (frameBegins s).loader = s.loader ∧ (frameBegins s).raster = s.raster ∧
    (frameBegins s).ring = s.ring ∧ (frameBegins s).timer = s.timer ∧ (frameBegins s).plan = s.plan ∧
    (frameBegins s).head = s.head ∧ (frameBegins s).thermal = s.thermal ∧ (frameBegins s).lines = s.lines ∧
    (frameBegins s).peers = s.peers ∧ (frameBegins s).store = s.store ∧ (frameBegins s).report = s.report ∧
    (frameBegins s).freeCount = s.freeCount ∧ (frameBegins s).pending = s.pending := by
  unfold frameBegins
  (try dsimp only)
  (repeat' split) <;> simp

@[simp] theorem frameBegins_ctx (s : State) (j : CtxId) : (frameBegins s).ctx j = s.ctx j := by
  cases j <;> simp [State.ctx]

@[simp] theorem enqueueCommand_frame (s : State) (f : CommandFrame) :
    (enqueueCommand s f).station = s.station ∧ (enqueueCommand s f).number = s.number ∧
    (enqueueCommand s f).setup = s.setup ∧ (enqueueCommand s f).seq = s.seq ∧
    (enqueueCommand s f).ctxA = s.ctxA ∧ (enqueueCommand s f).ctxB = s.ctxB ∧
    (enqueueCommand s f).loader = s.loader ∧ (enqueueCommand s f).raster = s.raster ∧
    (enqueueCommand s f).ring = s.ring ∧ (enqueueCommand s f).timer = s.timer ∧
    (enqueueCommand s f).plan = s.plan ∧ (enqueueCommand s f).head = s.head ∧
    (enqueueCommand s f).thermal = s.thermal ∧ (enqueueCommand s f).lines = s.lines ∧
    (enqueueCommand s f).peers = s.peers ∧ (enqueueCommand s f).store = s.store ∧
    (enqueueCommand s f).freeCount = s.freeCount ∧ (enqueueCommand s f).pending = s.pending := by
  unfold enqueueCommand
  (try dsimp only)
  (repeat' split) <;> simp

@[simp] theorem enqueueCommand_ctx (s : State) (f : CommandFrame) (j : CtxId) : (enqueueCommand s f).ctx j = s.ctx j := by
  cases j <;> simp [State.ctx]

@[simp] theorem enqueueStore_frame (s : State) (f : StoreFrame) :
    (enqueueStore s f).station = s.station ∧ (enqueueStore s f).number = s.number ∧
    (enqueueStore s f).setup = s.setup ∧ (enqueueStore s f).seq = s.seq ∧
    (enqueueStore s f).ctxA = s.ctxA ∧ (enqueueStore s f).ctxB = s.ctxB ∧
    (enqueueStore s f).loader = s.loader ∧ (enqueueStore s f).raster = s.raster ∧
    (enqueueStore s f).ring = s.ring ∧ (enqueueStore s f).timer = s.timer ∧
    (enqueueStore s f).plan = s.plan ∧ (enqueueStore s f).head = s.head ∧
    (enqueueStore s f).thermal = s.thermal ∧ (enqueueStore s f).lines = s.lines ∧
    (enqueueStore s f).peers = s.peers ∧ (enqueueStore s f).store = s.store ∧
    (enqueueStore s f).freeCount = s.freeCount ∧ (enqueueStore s f).pending = s.pending := by
  unfold enqueueStore
  (try dsimp only)
  (repeat' split) <;> simp

@[simp] theorem enqueueStore_ctx (s : State) (f : StoreFrame) (j : CtxId) : (enqueueStore s f).ctx j = s.ctx j := by
  cases j <;> simp [State.ctx]

@[simp] theorem route_frame (s : State) (source : Nat) (p : Payload) :
    (route s source p).station = s.station ∧ (route s source p).number = s.number ∧
    (route s source p).setup = s.setup ∧ (route s source p).timer = s.timer ∧
    (route s source p).thermal = s.thermal ∧ (route s source p).lines = s.lines ∧
    (route s source p).freeCount = s.freeCount ∧ (route s source p).pending = s.pending := by
  unfold route
  (try dsimp only)
  (repeat' split) <;> simp

@[simp] theorem acceptChecked_frame (s : State) (address kind : Byte) (payload : List Byte) :
    (acceptChecked s address kind payload).station = s.station ∧
    (acceptChecked s address kind payload).number = s.number ∧
    (acceptChecked s address kind payload).setup = s.setup ∧
    (acceptChecked s address kind payload).timer = s.timer ∧
    (acceptChecked s address kind payload).thermal = s.thermal ∧
    (acceptChecked s address kind payload).lines = s.lines ∧
    (acceptChecked s address kind payload).freeCount = s.freeCount ∧
    (acceptChecked s address kind payload).pending = s.pending := by
  unfold acceptChecked
  (try dsimp only)
  (repeat' split) <;> simp

@[simp] theorem acceptFrame_frame (s : State) (f : RxFrame) :
    (acceptFrame s f).station = s.station ∧ (acceptFrame s f).number = s.number ∧
    (acceptFrame s f).setup = s.setup ∧ (acceptFrame s f).timer = s.timer ∧
    (acceptFrame s f).thermal = s.thermal ∧ (acceptFrame s f).lines = s.lines ∧
    (acceptFrame s f).freeCount = s.freeCount ∧ (acceptFrame s f).pending = s.pending := by
  unfold acceptFrame
  (try dsimp only)
  (repeat' split) <;> simp

@[simp] theorem setTx_frame (s : State) (t : Tx) :
    (setTx s t).station = s.station ∧ (setTx s t).number = s.number ∧ (setTx s t).setup = s.setup ∧
    (setTx s t).seq = s.seq ∧ (setTx s t).ctxA = s.ctxA ∧ (setTx s t).ctxB = s.ctxB ∧
    (setTx s t).loader = s.loader ∧ (setTx s t).raster = s.raster ∧ (setTx s t).ring = s.ring ∧
    (setTx s t).timer = s.timer ∧ (setTx s t).plan = s.plan ∧ (setTx s t).head = s.head ∧
    (setTx s t).thermal = s.thermal ∧ (setTx s t).lines = s.lines ∧ (setTx s t).peers = s.peers ∧
    (setTx s t).store = s.store ∧ (setTx s t).report = s.report ∧ (setTx s t).freeCount = s.freeCount ∧
    (setTx s t).pending = s.pending := by
  unfold setTx
  (try dsimp only)
  (repeat' split) <;> simp

@[simp] theorem setTx_ctx (s : State) (t : Tx) (j : CtxId) : (setTx s t).ctx j = s.ctx j := by
  cases j <;> simp [State.ctx]

@[simp] theorem releaseTx_frame (s : State) :
    (releaseTx s).station = s.station ∧ (releaseTx s).number = s.number ∧ (releaseTx s).setup = s.setup ∧
    (releaseTx s).seq = s.seq ∧ (releaseTx s).ctxA = s.ctxA ∧ (releaseTx s).ctxB = s.ctxB ∧
    (releaseTx s).loader = s.loader ∧ (releaseTx s).raster = s.raster ∧ (releaseTx s).ring = s.ring ∧
    (releaseTx s).timer = s.timer ∧ (releaseTx s).plan = s.plan ∧ (releaseTx s).head = s.head ∧
    (releaseTx s).thermal = s.thermal ∧ (releaseTx s).lines = s.lines ∧ (releaseTx s).peers = s.peers ∧
    (releaseTx s).store = s.store ∧ (releaseTx s).report = s.report ∧
    (releaseTx s).freeCount = s.freeCount ∧ (releaseTx s).pending = s.pending := by
  unfold releaseTx
  (try dsimp only)
  (repeat' split) <;> simp

@[simp] theorem releaseTx_ctx (s : State) (j : CtxId) : (releaseTx s).ctx j = s.ctx j := by
  cases j <;> simp [State.ctx]

@[simp] theorem freezeDemand_frame (s : State) (v : Bool) :
    (freezeDemand s v).station = s.station ∧ (freezeDemand s v).number = s.number ∧
    (freezeDemand s v).setup = s.setup ∧ (freezeDemand s v).seq = s.seq ∧
    (freezeDemand s v).ctxA = s.ctxA ∧ (freezeDemand s v).ctxB = s.ctxB ∧
    (freezeDemand s v).loader = s.loader ∧ (freezeDemand s v).raster = s.raster ∧
    (freezeDemand s v).ring = s.ring ∧ (freezeDemand s v).timer = s.timer ∧
    (freezeDemand s v).plan = s.plan ∧ (freezeDemand s v).head = s.head ∧
    (freezeDemand s v).thermal = s.thermal ∧ (freezeDemand s v).lines = s.lines ∧
    (freezeDemand s v).peers = s.peers ∧ (freezeDemand s v).store = s.store ∧
    (freezeDemand s v).report = s.report ∧ (freezeDemand s v).freeCount = s.freeCount ∧
    (freezeDemand s v).pending = s.pending := by
  unfold freezeDemand
  (try dsimp only)
  (repeat' split) <;> simp

@[simp] theorem freezeDemand_ctx (s : State) (v : Bool) (j : CtxId) : (freezeDemand s v).ctx j = s.ctx j := by
  cases j <;> simp [State.ctx]

@[simp] theorem beginAttempt_frame (s : State) (h : InHand) (attempts : Nat) :
    (beginAttempt s h attempts).station = s.station ∧ (beginAttempt s h attempts).number = s.number ∧
    (beginAttempt s h attempts).setup = s.setup ∧ (beginAttempt s h attempts).seq = s.seq ∧
    (beginAttempt s h attempts).ctxA = s.ctxA ∧ (beginAttempt s h attempts).ctxB = s.ctxB ∧
    (beginAttempt s h attempts).loader = s.loader ∧ (beginAttempt s h attempts).raster = s.raster ∧
    (beginAttempt s h attempts).ring = s.ring ∧ (beginAttempt s h attempts).timer = s.timer ∧
    (beginAttempt s h attempts).plan = s.plan ∧ (beginAttempt s h attempts).head = s.head ∧
    (beginAttempt s h attempts).thermal = s.thermal ∧ (beginAttempt s h attempts).lines = s.lines ∧
    (beginAttempt s h attempts).peers = s.peers ∧ (beginAttempt s h attempts).store = s.store ∧
    (beginAttempt s h attempts).report = s.report ∧ (beginAttempt s h attempts).freeCount = s.freeCount ∧
    (beginAttempt s h attempts).pending = s.pending := by
  unfold beginAttempt
  (try dsimp only)
  (repeat' split) <;> simp

@[simp] theorem beginAttempt_ctx (s : State) (h : InHand) (attempts : Nat) (j : CtxId) : (beginAttempt s h attempts).ctx j = s.ctx j := by
  cases j <;> simp [State.ctx]

@[simp] theorem selectFrame_frame (s : State) :
    (selectFrame s).station = s.station ∧ (selectFrame s).number = s.number ∧
    (selectFrame s).setup = s.setup ∧ (selectFrame s).seq = s.seq ∧ (selectFrame s).ctxA = s.ctxA ∧
    (selectFrame s).ctxB = s.ctxB ∧ (selectFrame s).loader = s.loader ∧ (selectFrame s).raster = s.raster ∧
    (selectFrame s).ring = s.ring ∧ (selectFrame s).timer = s.timer ∧ (selectFrame s).plan = s.plan ∧
    (selectFrame s).head = s.head ∧ (selectFrame s).thermal = s.thermal ∧ (selectFrame s).lines = s.lines ∧
    (selectFrame s).peers = s.peers ∧ (selectFrame s).store = s.store ∧ (selectFrame s).report = s.report ∧
    (selectFrame s).freeCount = s.freeCount ∧ (selectFrame s).pending = s.pending := by
  unfold selectFrame
  (try dsimp only)
  (repeat' split) <;> simp

@[simp] theorem selectFrame_ctx (s : State) (j : CtxId) : (selectFrame s).ctx j = s.ctx j := by
  cases j <;> simp [State.ctx]

@[simp] theorem retryFrame_frame (s : State) (h : InHand) :
    (retryFrame s h).station = s.station ∧ (retryFrame s h).number = s.number ∧
    (retryFrame s h).setup = s.setup ∧ (retryFrame s h).seq = s.seq ∧ (retryFrame s h).ctxA = s.ctxA ∧
    (retryFrame s h).ctxB = s.ctxB ∧ (retryFrame s h).loader = s.loader ∧
    (retryFrame s h).raster = s.raster ∧ (retryFrame s h).ring = s.ring ∧
    (retryFrame s h).timer = s.timer ∧ (retryFrame s h).plan = s.plan ∧ (retryFrame s h).head = s.head ∧
    (retryFrame s h).thermal = s.thermal ∧ (retryFrame s h).lines = s.lines ∧
    (retryFrame s h).peers = s.peers ∧ (retryFrame s h).store = s.store ∧
    (retryFrame s h).report = s.report ∧ (retryFrame s h).freeCount = s.freeCount ∧
    (retryFrame s h).pending = s.pending := by
  unfold retryFrame
  (try dsimp only)
  (repeat' split) <;> simp

@[simp] theorem retryFrame_ctx (s : State) (h : InHand) (j : CtxId) : (retryFrame s h).ctx j = s.ctx j := by
  cases j <;> simp [State.ctx]

@[simp] theorem transmitOpportunity_frame (s : State) :
    (transmitOpportunity s).station = s.station ∧ (transmitOpportunity s).number = s.number ∧
    (transmitOpportunity s).setup = s.setup ∧ (transmitOpportunity s).seq = s.seq ∧
    (transmitOpportunity s).ctxA = s.ctxA ∧ (transmitOpportunity s).ctxB = s.ctxB ∧
    (transmitOpportunity s).loader = s.loader ∧ (transmitOpportunity s).raster = s.raster ∧
    (transmitOpportunity s).ring = s.ring ∧ (transmitOpportunity s).timer = s.timer ∧
    (transmitOpportunity s).plan = s.plan ∧ (transmitOpportunity s).head = s.head ∧
    (transmitOpportunity s).thermal = s.thermal ∧ (transmitOpportunity s).lines = s.lines ∧
    (transmitOpportunity s).peers = s.peers ∧ (transmitOpportunity s).store = s.store ∧
    (transmitOpportunity s).report = s.report ∧ (transmitOpportunity s).freeCount = s.freeCount ∧
    (transmitOpportunity s).pending = s.pending := by
  unfold transmitOpportunity
  (try dsimp only)
  (repeat' split) <;> simp

@[simp] theorem transmitOpportunity_ctx (s : State) (j : CtxId) : (transmitOpportunity s).ctx j = s.ctx j := by
  cases j <;> simp [State.ctx]

@[simp] theorem refillDemand_frame (s : State) :
    (refillDemand s).station = s.station ∧ (refillDemand s).number = s.number ∧
    (refillDemand s).setup = s.setup ∧ (refillDemand s).seq = s.seq ∧ (refillDemand s).ctxA = s.ctxA ∧
    (refillDemand s).ctxB = s.ctxB ∧ (refillDemand s).loader = s.loader ∧
    (refillDemand s).raster = s.raster ∧ (refillDemand s).ring = s.ring ∧
    (refillDemand s).timer = s.timer ∧ (refillDemand s).plan = s.plan ∧ (refillDemand s).head = s.head ∧
    (refillDemand s).thermal = s.thermal ∧ (refillDemand s).lines = s.lines ∧
    (refillDemand s).peers = s.peers ∧ (refillDemand s).store = s.store ∧
    (refillDemand s).report = s.report ∧ (refillDemand s).freeCount = s.freeCount ∧
    (refillDemand s).pending = s.pending := by
  unfold refillDemand
  (try dsimp only)
  (repeat' split) <;> simp

@[simp] theorem refillDemand_ctx (s : State) (j : CtxId) : (refillDemand s).ctx j = s.ctx j := by
  cases j <;> simp [State.ctx]

@[simp] theorem demandCollided_frame (s : State) :
    (demandCollided s).station = s.station ∧ (demandCollided s).number = s.number ∧
    (demandCollided s).setup = s.setup ∧ (demandCollided s).seq = s.seq ∧
    (demandCollided s).ctxA = s.ctxA ∧ (demandCollided s).ctxB = s.ctxB ∧
    (demandCollided s).loader = s.loader ∧ (demandCollided s).raster = s.raster ∧
    (demandCollided s).ring = s.ring ∧ (demandCollided s).timer = s.timer ∧
    (demandCollided s).plan = s.plan ∧ (demandCollided s).head = s.head ∧
    (demandCollided s).thermal = s.thermal ∧ (demandCollided s).lines = s.lines ∧
    (demandCollided s).peers = s.peers ∧ (demandCollided s).store = s.store ∧
    (demandCollided s).report = s.report ∧ (demandCollided s).freeCount = s.freeCount ∧
    (demandCollided s).pending = s.pending := by
  unfold demandCollided
  (try dsimp only)
  (repeat' split) <;> simp

@[simp] theorem demandCollided_ctx (s : State) (j : CtxId) : (demandCollided s).ctx j = s.ctx j := by
  cases j <;> simp [State.ctx]

@[simp] theorem drawBackoff_frame (s : State) :
    (drawBackoff s).station = s.station ∧ (drawBackoff s).number = s.number ∧
    (drawBackoff s).setup = s.setup ∧ (drawBackoff s).seq = s.seq ∧ (drawBackoff s).ctxA = s.ctxA ∧
    (drawBackoff s).ctxB = s.ctxB ∧ (drawBackoff s).loader = s.loader ∧ (drawBackoff s).raster = s.raster ∧
    (drawBackoff s).ring = s.ring ∧ (drawBackoff s).timer = s.timer ∧ (drawBackoff s).plan = s.plan ∧
    (drawBackoff s).head = s.head ∧ (drawBackoff s).thermal = s.thermal ∧ (drawBackoff s).lines = s.lines ∧
    (drawBackoff s).peers = s.peers ∧ (drawBackoff s).store = s.store ∧ (drawBackoff s).report = s.report ∧
    (drawBackoff s).freeCount = s.freeCount ∧ (drawBackoff s).pending = s.pending := by
  unfold drawBackoff
  (try dsimp only)
  (repeat' split) <;> simp

@[simp] theorem drawBackoff_ctx (s : State) (j : CtxId) : (drawBackoff s).ctx j = s.ctx j := by
  cases j <;> simp [State.ctx]

@[simp] theorem popVoid_frame (s : State) :
    (popVoid s).station = s.station ∧ (popVoid s).number = s.number ∧ (popVoid s).setup = s.setup ∧
    (popVoid s).seq = s.seq ∧ (popVoid s).ctxA = s.ctxA ∧ (popVoid s).ctxB = s.ctxB ∧
    (popVoid s).loader = s.loader ∧ (popVoid s).raster = s.raster ∧ (popVoid s).ring = s.ring ∧
    (popVoid s).timer = s.timer ∧ (popVoid s).plan = s.plan ∧ (popVoid s).head = s.head ∧
    (popVoid s).thermal = s.thermal ∧ (popVoid s).lines = s.lines ∧ (popVoid s).peers = s.peers ∧
    (popVoid s).store = s.store ∧ (popVoid s).report = s.report ∧ (popVoid s).freeCount = s.freeCount ∧
    (popVoid s).pending = s.pending := by
  unfold popVoid
  (try dsimp only)
  (repeat' split) <;> simp

@[simp] theorem popVoid_ctx (s : State) (j : CtxId) : (popVoid s).ctx j = s.ctx j := by
  cases j <;> simp [State.ctx]

@[simp] theorem releaseLine_frame (s : State) (quiet : Nat) :
    (releaseLine s quiet).station = s.station ∧ (releaseLine s quiet).number = s.number ∧
    (releaseLine s quiet).setup = s.setup ∧ (releaseLine s quiet).seq = s.seq ∧
    (releaseLine s quiet).ctxA = s.ctxA ∧ (releaseLine s quiet).ctxB = s.ctxB ∧
    (releaseLine s quiet).loader = s.loader ∧ (releaseLine s quiet).raster = s.raster ∧
    (releaseLine s quiet).ring = s.ring ∧ (releaseLine s quiet).timer = s.timer ∧
    (releaseLine s quiet).plan = s.plan ∧ (releaseLine s quiet).head = s.head ∧
    (releaseLine s quiet).thermal = s.thermal ∧ (releaseLine s quiet).lines = s.lines ∧
    (releaseLine s quiet).peers = s.peers ∧ (releaseLine s quiet).store = s.store ∧
    (releaseLine s quiet).report = s.report ∧ (releaseLine s quiet).freeCount = s.freeCount ∧
    (releaseLine s quiet).pending = s.pending := by
  unfold releaseLine
  (try dsimp only)
  (repeat' split) <;> simp

@[simp] theorem releaseLine_ctx (s : State) (quiet : Nat) (j : CtxId) : (releaseLine s quiet).ctx j = s.ctx j := by
  cases j <;> simp [State.ctx]

@[simp] theorem backoffEnd_frame (s : State) :
    (backoffEnd s).station = s.station ∧ (backoffEnd s).number = s.number ∧
    (backoffEnd s).setup = s.setup ∧ (backoffEnd s).seq = s.seq ∧ (backoffEnd s).ctxA = s.ctxA ∧
    (backoffEnd s).ctxB = s.ctxB ∧ (backoffEnd s).loader = s.loader ∧ (backoffEnd s).raster = s.raster ∧
    (backoffEnd s).ring = s.ring ∧ (backoffEnd s).timer = s.timer ∧ (backoffEnd s).plan = s.plan ∧
    (backoffEnd s).head = s.head ∧ (backoffEnd s).thermal = s.thermal ∧ (backoffEnd s).lines = s.lines ∧
    (backoffEnd s).peers = s.peers ∧ (backoffEnd s).store = s.store ∧ (backoffEnd s).report = s.report ∧
    (backoffEnd s).freeCount = s.freeCount ∧ (backoffEnd s).pending = s.pending := by
  unfold backoffEnd
  (try dsimp only)
  (repeat' split) <;> simp

@[simp] theorem backoffEnd_ctx (s : State) (j : CtxId) : (backoffEnd s).ctx j = s.ctx j := by
  cases j <;> simp [State.ctx]

@[simp] theorem collide_frame (sinceEdge : Nat) (s : State) :
    (collide sinceEdge s).station = s.station ∧ (collide sinceEdge s).number = s.number ∧
    (collide sinceEdge s).setup = s.setup ∧ (collide sinceEdge s).seq = s.seq ∧
    (collide sinceEdge s).ctxA = s.ctxA ∧ (collide sinceEdge s).ctxB = s.ctxB ∧
    (collide sinceEdge s).loader = s.loader ∧ (collide sinceEdge s).raster = s.raster ∧
    (collide sinceEdge s).ring = s.ring ∧ (collide sinceEdge s).timer = s.timer ∧
    (collide sinceEdge s).plan = s.plan ∧ (collide sinceEdge s).head = s.head ∧
    (collide sinceEdge s).thermal = s.thermal ∧ (collide sinceEdge s).lines = s.lines ∧
    (collide sinceEdge s).peers = s.peers ∧ (collide sinceEdge s).store = s.store ∧
    (collide sinceEdge s).report = s.report ∧ (collide sinceEdge s).freeCount = s.freeCount ∧
    (collide sinceEdge s).pending = s.pending := by
  unfold collide
  (try dsimp only)
  (repeat' split) <;> simp

@[simp] theorem collide_ctx (sinceEdge : Nat) (s : State) (j : CtxId) : (collide sinceEdge s).ctx j = s.ctx j := by
  cases j <;> simp [State.ctx]

@[simp] theorem popReport_frame (s : State) :
    (popReport s).station = s.station ∧ (popReport s).number = s.number ∧ (popReport s).setup = s.setup ∧
    (popReport s).seq = s.seq ∧ (popReport s).ctxA = s.ctxA ∧ (popReport s).ctxB = s.ctxB ∧
    (popReport s).loader = s.loader ∧ (popReport s).raster = s.raster ∧ (popReport s).ring = s.ring ∧
    (popReport s).timer = s.timer ∧ (popReport s).plan = s.plan ∧ (popReport s).head = s.head ∧
    (popReport s).thermal = s.thermal ∧ (popReport s).lines = s.lines ∧ (popReport s).link = s.link ∧
    (popReport s).peers = s.peers ∧ (popReport s).store = s.store ∧ (popReport s).freeCount = s.freeCount ∧
    (popReport s).pending = s.pending := by
  unfold popReport
  (try dsimp only)
  (repeat' split) <;> simp

@[simp] theorem popReport_ctx (s : State) (j : CtxId) : (popReport s).ctx j = s.ctx j := by
  cases j <;> simp [State.ctx]

@[simp] theorem giveUpSource_frame (s : State) (h : InHand) :
    (giveUpSource s h).station = s.station ∧ (giveUpSource s h).number = s.number ∧
    (giveUpSource s h).setup = s.setup ∧ (giveUpSource s h).seq = s.seq ∧
    (giveUpSource s h).ctxA = s.ctxA ∧ (giveUpSource s h).ctxB = s.ctxB ∧
    (giveUpSource s h).loader = s.loader ∧ (giveUpSource s h).raster = s.raster ∧
    (giveUpSource s h).ring = s.ring ∧ (giveUpSource s h).timer = s.timer ∧
    (giveUpSource s h).plan = s.plan ∧ (giveUpSource s h).head = s.head ∧
    (giveUpSource s h).thermal = s.thermal ∧ (giveUpSource s h).lines = s.lines ∧
    (giveUpSource s h).peers = s.peers ∧ (giveUpSource s h).store = s.store ∧
    (giveUpSource s h).freeCount = s.freeCount ∧ (giveUpSource s h).pending = s.pending := by
  unfold giveUpSource
  (try dsimp only)
  (repeat' split) <;> simp

@[simp] theorem giveUpSource_ctx (s : State) (h : InHand) (j : CtxId) : (giveUpSource s h).ctx j = s.ctx j := by
  cases j <;> simp [State.ctx]

@[simp] theorem giveUp_frame (s : State) (h : InHand) :
    (giveUp s h).station = s.station ∧ (giveUp s h).number = s.number ∧ (giveUp s h).setup = s.setup ∧
    (giveUp s h).seq = s.seq ∧ (giveUp s h).ctxA = s.ctxA ∧ (giveUp s h).ctxB = s.ctxB ∧
    (giveUp s h).loader = s.loader ∧ (giveUp s h).raster = s.raster ∧ (giveUp s h).ring = s.ring ∧
    (giveUp s h).timer = s.timer ∧ (giveUp s h).plan = s.plan ∧ (giveUp s h).head = s.head ∧
    (giveUp s h).thermal = s.thermal ∧ (giveUp s h).lines = s.lines ∧ (giveUp s h).peers = s.peers ∧
    (giveUp s h).store = s.store ∧ (giveUp s h).freeCount = s.freeCount ∧ (giveUp s h).pending = s.pending := by
  unfold giveUp
  (try dsimp only)
  (repeat' split) <;> simp

@[simp] theorem giveUp_ctx (s : State) (h : InHand) (j : CtxId) : (giveUp s h).ctx j = s.ctx j := by
  cases j <;> simp [State.ctx]

@[simp] theorem releaseJam_frame (held : Bool) (s : State) :
    (releaseJam held s).station = s.station ∧ (releaseJam held s).number = s.number ∧
    (releaseJam held s).setup = s.setup ∧ (releaseJam held s).seq = s.seq ∧
    (releaseJam held s).ctxA = s.ctxA ∧ (releaseJam held s).ctxB = s.ctxB ∧
    (releaseJam held s).loader = s.loader ∧ (releaseJam held s).raster = s.raster ∧
    (releaseJam held s).ring = s.ring ∧ (releaseJam held s).timer = s.timer ∧
    (releaseJam held s).plan = s.plan ∧ (releaseJam held s).head = s.head ∧
    (releaseJam held s).thermal = s.thermal ∧ (releaseJam held s).lines = s.lines ∧
    (releaseJam held s).peers = s.peers ∧ (releaseJam held s).store = s.store ∧
    (releaseJam held s).report = s.report ∧ (releaseJam held s).freeCount = s.freeCount ∧
    (releaseJam held s).pending = s.pending := by
  unfold releaseJam
  (try dsimp only)
  (repeat' split) <;> simp

@[simp] theorem releaseJam_ctx (held : Bool) (s : State) (j : CtxId) : (releaseJam held s).ctx j = s.ctx j := by
  cases j <;> simp [State.ctx]

@[simp] theorem jamEnd_frame (held : Bool) (s : State) :
    (jamEnd held s).station = s.station ∧ (jamEnd held s).number = s.number ∧
    (jamEnd held s).setup = s.setup ∧ (jamEnd held s).seq = s.seq ∧ (jamEnd held s).ctxA = s.ctxA ∧
    (jamEnd held s).ctxB = s.ctxB ∧ (jamEnd held s).loader = s.loader ∧ (jamEnd held s).raster = s.raster ∧
    (jamEnd held s).ring = s.ring ∧ (jamEnd held s).timer = s.timer ∧ (jamEnd held s).plan = s.plan ∧
    (jamEnd held s).head = s.head ∧ (jamEnd held s).thermal = s.thermal ∧ (jamEnd held s).lines = s.lines ∧
    (jamEnd held s).peers = s.peers ∧ (jamEnd held s).store = s.store ∧
    (jamEnd held s).freeCount = s.freeCount ∧ (jamEnd held s).pending = s.pending := by
  unfold jamEnd
  (try dsimp only)
  (repeat' split) <;> simp

@[simp] theorem jamEnd_ctx (held : Bool) (s : State) (j : CtxId) : (jamEnd held s).ctx j = s.ctx j := by
  cases j <;> simp [State.ctx]

@[simp] theorem sentSource_frame (s : State) (h : InHand) :
    (sentSource s h).station = s.station ∧ (sentSource s h).number = s.number ∧
    (sentSource s h).setup = s.setup ∧ (sentSource s h).seq = s.seq ∧ (sentSource s h).ctxA = s.ctxA ∧
    (sentSource s h).ctxB = s.ctxB ∧ (sentSource s h).loader = s.loader ∧
    (sentSource s h).raster = s.raster ∧ (sentSource s h).ring = s.ring ∧
    (sentSource s h).timer = s.timer ∧ (sentSource s h).plan = s.plan ∧ (sentSource s h).head = s.head ∧
    (sentSource s h).thermal = s.thermal ∧ (sentSource s h).lines = s.lines ∧
    (sentSource s h).peers = s.peers ∧ (sentSource s h).store = s.store ∧
    (sentSource s h).freeCount = s.freeCount ∧ (sentSource s h).pending = s.pending := by
  unfold sentSource
  (try dsimp only)
  (repeat' split) <;> simp

@[simp] theorem sentSource_ctx (s : State) (h : InHand) (j : CtxId) : (sentSource s h).ctx j = s.ctx j := by
  cases j <;> simp [State.ctx]

@[simp] theorem frameSent_frame (s : State) :
    (frameSent s).station = s.station ∧ (frameSent s).number = s.number ∧ (frameSent s).setup = s.setup ∧
    (frameSent s).seq = s.seq ∧ (frameSent s).ctxA = s.ctxA ∧ (frameSent s).ctxB = s.ctxB ∧
    (frameSent s).loader = s.loader ∧ (frameSent s).raster = s.raster ∧ (frameSent s).ring = s.ring ∧
    (frameSent s).timer = s.timer ∧ (frameSent s).plan = s.plan ∧ (frameSent s).head = s.head ∧
    (frameSent s).thermal = s.thermal ∧ (frameSent s).lines = s.lines ∧ (frameSent s).peers = s.peers ∧
    (frameSent s).store = s.store ∧ (frameSent s).freeCount = s.freeCount ∧
    (frameSent s).pending = s.pending := by
  unfold frameSent
  (try dsimp only)
  (repeat' split) <;> simp

@[simp] theorem frameSent_ctx (s : State) (j : CtxId) : (frameSent s).ctx j = s.ctx j := by
  cases j <;> simp [State.ctx]

/-! ## Setup, temperature and time -/

@[simp] theorem setWarm_frame (s : State) (v : Bool) :
    (setWarm s v).station = s.station ∧ (setWarm s v).number = s.number ∧ (setWarm s v).setup = s.setup ∧
    (setWarm s v).seq = s.seq ∧ (setWarm s v).ctxA = s.ctxA ∧ (setWarm s v).ctxB = s.ctxB ∧
    (setWarm s v).loader = s.loader ∧ (setWarm s v).raster = s.raster ∧ (setWarm s v).ring = s.ring ∧
    (setWarm s v).timer = s.timer ∧ (setWarm s v).plan = s.plan ∧ (setWarm s v).head = s.head ∧
    (setWarm s v).lines = s.lines ∧ (setWarm s v).peers = s.peers ∧ (setWarm s v).store = s.store ∧
    (setWarm s v).freeCount = s.freeCount ∧ (setWarm s v).pending = s.pending := by
  unfold setWarm
  (try dsimp only)
  (repeat' split) <;> simp

@[simp] theorem setWarm_ctx (s : State) (v : Bool) (j : CtxId) : (setWarm s v).ctx j = s.ctx j := by
  cases j <;> simp [State.ctx]

@[simp] theorem setHot_frame (s : State) (v : Bool) :
    (setHot s v).station = s.station ∧ (setHot s v).number = s.number ∧ (setHot s v).setup = s.setup ∧
    (setHot s v).seq = s.seq ∧ (setHot s v).ctxA = s.ctxA ∧ (setHot s v).ctxB = s.ctxB ∧
    (setHot s v).loader = s.loader ∧ (setHot s v).raster = s.raster ∧ (setHot s v).ring = s.ring ∧
    (setHot s v).timer = s.timer ∧ (setHot s v).plan = s.plan ∧ (setHot s v).head = s.head ∧
    (setHot s v).lines = s.lines ∧ (setHot s v).peers = s.peers ∧ (setHot s v).store = s.store ∧
    (setHot s v).freeCount = s.freeCount ∧ (setHot s v).pending = s.pending := by
  unfold setHot
  (try dsimp only)
  (repeat' split) <;> simp

@[simp] theorem setHot_ctx (s : State) (v : Bool) (j : CtxId) : (setHot s v).ctx j = s.ctx j := by
  cases j <;> simp [State.ctx]

@[simp] theorem voidHot_frame (st : CtxState) (s : State) (i : CtxId) :
    (voidHot st s i).station = s.station ∧ (voidHot st s i).number = s.number ∧
    (voidHot st s i).setup = s.setup ∧ (voidHot st s i).loader = s.loader ∧
    (voidHot st s i).raster = s.raster ∧ (voidHot st s i).ring = s.ring ∧
    (voidHot st s i).timer = s.timer ∧ (voidHot st s i).plan = s.plan ∧ (voidHot st s i).head = s.head ∧
    (voidHot st s i).thermal = s.thermal ∧ (voidHot st s i).lines = s.lines ∧
    (voidHot st s i).peers = s.peers ∧ (voidHot st s i).store = s.store ∧
    (voidHot st s i).freeCount = s.freeCount ∧ (voidHot st s i).pending = s.pending := by
  unfold voidHot
  (try dsimp only)
  (repeat' split) <;> simp

@[simp] theorem voidRunningHot_frame (s : State) :
    (voidRunningHot s).station = s.station ∧ (voidRunningHot s).number = s.number ∧
    (voidRunningHot s).setup = s.setup ∧ (voidRunningHot s).loader = s.loader ∧
    (voidRunningHot s).raster = s.raster ∧ (voidRunningHot s).ring = s.ring ∧
    (voidRunningHot s).timer = s.timer ∧ (voidRunningHot s).plan = s.plan ∧
    (voidRunningHot s).head = s.head ∧ (voidRunningHot s).thermal = s.thermal ∧
    (voidRunningHot s).lines = s.lines ∧ (voidRunningHot s).peers = s.peers ∧
    (voidRunningHot s).store = s.store ∧ (voidRunningHot s).freeCount = s.freeCount ∧
    (voidRunningHot s).pending = s.pending := by
  unfold voidRunningHot
  (try dsimp only)
  (repeat' split) <;> simp

@[simp] theorem enterHot_frame (s : State) :
    (enterHot s).station = s.station ∧ (enterHot s).number = s.number ∧ (enterHot s).setup = s.setup ∧
    (enterHot s).timer = s.timer ∧ (enterHot s).lines = s.lines ∧ (enterHot s).peers = s.peers ∧
    (enterHot s).store = s.store ∧ (enterHot s).freeCount = s.freeCount ∧ (enterHot s).pending = s.pending := by
  unfold enterHot
  (try dsimp only)
  (repeat' split) <;> simp

@[simp] theorem evalWarm_frame (s : State) :
    (evalWarm s).station = s.station ∧ (evalWarm s).number = s.number ∧ (evalWarm s).setup = s.setup ∧
    (evalWarm s).seq = s.seq ∧ (evalWarm s).ctxA = s.ctxA ∧ (evalWarm s).ctxB = s.ctxB ∧
    (evalWarm s).loader = s.loader ∧ (evalWarm s).raster = s.raster ∧ (evalWarm s).ring = s.ring ∧
    (evalWarm s).timer = s.timer ∧ (evalWarm s).plan = s.plan ∧ (evalWarm s).head = s.head ∧
    (evalWarm s).lines = s.lines ∧ (evalWarm s).peers = s.peers ∧ (evalWarm s).store = s.store ∧
    (evalWarm s).freeCount = s.freeCount ∧ (evalWarm s).pending = s.pending := by
  unfold evalWarm
  (try dsimp only)
  (repeat' split) <;> simp

@[simp] theorem evalWarm_ctx (s : State) (j : CtxId) : (evalWarm s).ctx j = s.ctx j := by
  cases j <;> simp [State.ctx]

@[simp] theorem evalHot_frame (s : State) :
    (evalHot s).station = s.station ∧ (evalHot s).number = s.number ∧ (evalHot s).setup = s.setup ∧
    (evalHot s).timer = s.timer ∧ (evalHot s).lines = s.lines ∧ (evalHot s).peers = s.peers ∧
    (evalHot s).store = s.store ∧ (evalHot s).freeCount = s.freeCount ∧ (evalHot s).pending = s.pending := by
  unfold evalHot
  (try dsimp only)
  (repeat' split) <;> simp

@[simp] theorem driveLines_frame (s : State) :
    (driveLines s).station = s.station ∧ (driveLines s).number = s.number ∧
    (driveLines s).setup = s.setup ∧ (driveLines s).seq = s.seq ∧ (driveLines s).ctxA = s.ctxA ∧
    (driveLines s).ctxB = s.ctxB ∧ (driveLines s).loader = s.loader ∧ (driveLines s).raster = s.raster ∧
    (driveLines s).ring = s.ring ∧ (driveLines s).timer = s.timer ∧ (driveLines s).plan = s.plan ∧
    (driveLines s).head = s.head ∧ (driveLines s).thermal = s.thermal ∧ (driveLines s).peers = s.peers ∧
    (driveLines s).store = s.store ∧ (driveLines s).freeCount = s.freeCount ∧
    (driveLines s).pending = s.pending := by
  unfold driveLines
  (try dsimp only)
  (repeat' split) <;> simp

@[simp] theorem driveLines_ctx (s : State) (j : CtxId) : (driveLines s).ctx j = s.ctx j := by
  cases j <;> simp [State.ctx]

@[simp] theorem takeReading_frame (s : State) (reading : Int) :
    (takeReading s reading).station = s.station ∧ (takeReading s reading).number = s.number ∧
    (takeReading s reading).setup = s.setup ∧ (takeReading s reading).timer = s.timer ∧
    (takeReading s reading).peers = s.peers ∧ (takeReading s reading).store = s.store ∧
    (takeReading s reading).freeCount = s.freeCount ∧ (takeReading s reading).pending = s.pending := by
  unfold takeReading
  (try dsimp only)
  (repeat' split) <;> simp

@[simp] theorem examineSlot_frame (s : State) :
    (examineSlot s).station = s.station ∧ (examineSlot s).number = s.number ∧
    (examineSlot s).setup = s.setup ∧ (examineSlot s).seq = s.seq ∧ (examineSlot s).ctxA = s.ctxA ∧
    (examineSlot s).ctxB = s.ctxB ∧ (examineSlot s).loader = s.loader ∧ (examineSlot s).raster = s.raster ∧
    (examineSlot s).ring = s.ring ∧ (examineSlot s).timer = s.timer ∧ (examineSlot s).plan = s.plan ∧
    (examineSlot s).head = s.head ∧ (examineSlot s).thermal = s.thermal ∧ (examineSlot s).lines = s.lines ∧
    (examineSlot s).peers = s.peers ∧ (examineSlot s).store = s.store ∧
    (examineSlot s).freeCount = s.freeCount ∧ (examineSlot s).pending = s.pending := by
  unfold examineSlot
  (try dsimp only)
  (repeat' split) <;> simp

@[simp] theorem examineSlot_ctx (s : State) (j : CtxId) : (examineSlot s).ctx j = s.ctx j := by
  cases j <;> simp [State.ctx]

@[simp] theorem takeSetup_frame (s : State) (v : Setup) :
    (takeSetup s v).number = s.number ∧ (takeSetup s v).timer = s.timer ∧ (takeSetup s v).store = s.store ∧
    (takeSetup s v).freeCount = s.freeCount ∧ (takeSetup s v).pending = s.pending := by
  unfold takeSetup
  (try dsimp only)
  (repeat' split) <;> simp

@[simp] theorem clearSticky_frame (s : State) :
    (clearSticky s).station = s.station ∧ (clearSticky s).number = s.number ∧
    (clearSticky s).setup = s.setup ∧ (clearSticky s).seq = s.seq ∧ (clearSticky s).ctxA = s.ctxA ∧
    (clearSticky s).ctxB = s.ctxB ∧ (clearSticky s).loader = s.loader ∧ (clearSticky s).raster = s.raster ∧
    (clearSticky s).ring = s.ring ∧ (clearSticky s).timer = s.timer ∧ (clearSticky s).plan = s.plan ∧
    (clearSticky s).head = s.head ∧ (clearSticky s).thermal = s.thermal ∧ (clearSticky s).lines = s.lines ∧
    (clearSticky s).peers = s.peers ∧ (clearSticky s).store = s.store ∧
    (clearSticky s).freeCount = s.freeCount ∧ (clearSticky s).pending = s.pending := by
  unfold clearSticky
  (try dsimp only)
  (repeat' split) <;> simp

@[simp] theorem clearSticky_ctx (s : State) (j : CtxId) : (clearSticky s).ctx j = s.ctx j := by
  cases j <;> simp [State.ctx]

@[simp] theorem clearCounts_frame (s : State) :
    (clearCounts s).station = s.station ∧ (clearCounts s).number = s.number ∧
    (clearCounts s).setup = s.setup ∧ (clearCounts s).seq = s.seq ∧ (clearCounts s).ctxA = s.ctxA ∧
    (clearCounts s).ctxB = s.ctxB ∧ (clearCounts s).loader = s.loader ∧ (clearCounts s).raster = s.raster ∧
    (clearCounts s).ring = s.ring ∧ (clearCounts s).timer = s.timer ∧ (clearCounts s).plan = s.plan ∧
    (clearCounts s).head = s.head ∧ (clearCounts s).thermal = s.thermal ∧ (clearCounts s).lines = s.lines ∧
    (clearCounts s).peers = s.peers ∧ (clearCounts s).store = s.store ∧ (clearCounts s).report = s.report ∧
    (clearCounts s).freeCount = s.freeCount ∧ (clearCounts s).pending = s.pending := by
  unfold clearCounts
  (try dsimp only)
  (repeat' split) <;> simp

@[simp] theorem clearCounts_ctx (s : State) (j : CtxId) : (clearCounts s).ctx j = s.ctx j := by
  cases j <;> simp [State.ctx]

@[simp] theorem endScan_frame (s : State) :
    (endScan s).number = s.number ∧ (endScan s).setup = s.setup ∧ (endScan s).seq = s.seq ∧
    (endScan s).ctxA = s.ctxA ∧ (endScan s).ctxB = s.ctxB ∧ (endScan s).loader = s.loader ∧
    (endScan s).raster = s.raster ∧ (endScan s).ring = s.ring ∧ (endScan s).timer = s.timer ∧
    (endScan s).plan = s.plan ∧ (endScan s).head = s.head ∧ (endScan s).thermal = s.thermal ∧
    (endScan s).lines = s.lines ∧ (endScan s).link = s.link ∧ (endScan s).peers = s.peers ∧
    (endScan s).report = s.report ∧ (endScan s).freeCount = s.freeCount ∧ (endScan s).pending = s.pending := by
  unfold endScan
  (try dsimp only)
  (repeat' split) <;> simp

@[simp] theorem endScan_ctx (s : State) (j : CtxId) : (endScan s).ctx j = s.ctx j := by
  cases j <;> simp [State.ctx]

@[simp] theorem tick_frame (s : State) :
    (tick s).station = s.station ∧ (tick s).number = s.number ∧ (tick s).setup = s.setup ∧
    (tick s).seq = s.seq ∧ (tick s).ctxA = s.ctxA ∧ (tick s).ctxB = s.ctxB ∧ (tick s).loader = s.loader ∧
    (tick s).raster = s.raster ∧ (tick s).ring = s.ring ∧ (tick s).plan = s.plan ∧ (tick s).head = s.head ∧
    (tick s).thermal = s.thermal ∧ (tick s).lines = s.lines ∧ (tick s).peers = s.peers ∧
    (tick s).store = s.store ∧ (tick s).report = s.report ∧ (tick s).freeCount = s.freeCount ∧
    (tick s).pending = s.pending := by
  unfold tick
  (try dsimp only)
  (repeat' split) <;> simp

@[simp] theorem tick_ctx (s : State) (j : CtxId) : (tick s).ctx j = s.ctx j := by
  cases j <;> simp [State.ctx]

end Sys2Proof.Machine
end

