-- ==== Sys2Proof/Laws/Memory.lean ====
section
/-! SUPPORT. The laws of the store memory: a read after a write, and that every operation keeps the
canonical form. -/

namespace Sys2Proof.Machine

/-- Below the first listed address every byte reads as erased. -/
theorem Memory.read_eq_of_lt {m : Memory} {x : Nat} (h : ∀ c ∈ m, x < c.1) : m.read x = 255 := by
  cases m with
  | nil => rfl
  | cons c m => simp [Memory.read, h c (by simp)]

theorem Memory.WF.tail {c : Host.Cell} {m : Memory} (h : Memory.WF (c :: m)) : Memory.WF m :=
  ⟨(List.pairwise_cons.1 h.1).2, fun d hd => h.2 d (List.mem_cons_of_mem _ hd)⟩

/-- Every cell of a written memory is the written one or an old one. -/
theorem Memory.mem_write {m : Memory} {x : Nat} {v : Byte} {c : Host.Cell} (h : c ∈ m.write x v) :
    (c = (x, v) ∧ v ≠ 255) ∨ c ∈ m := by
  induction m with
  | nil => by_cases hv : v = 255 <;> simp_all [Memory.write]
  | cons d m ih =>
    obtain ⟨a, b⟩ := d
    unfold Memory.write at h
    split at h
    · split at h
      · exact .inr h
      · rcases List.mem_cons.1 h with rfl | h
        · exact .inl ⟨rfl, ‹_›⟩
        · exact .inr h
    · split at h
      · split at h
        · exact .inr (List.mem_cons_of_mem _ h)
        · rcases List.mem_cons.1 h with rfl | h
          · exact .inl ⟨rfl, ‹_›⟩
          · exact .inr (List.mem_cons_of_mem _ h)
      · rcases List.mem_cons.1 h with rfl | h
        · exact .inr (by simp)
        · exact (ih h).imp id (List.mem_cons_of_mem _)

/-- A write keeps the canonical form. -/
theorem Memory.WF.write {m : Memory} (h : m.WF) {x : Nat} (hx : x < Config.storeBytes) (v : Byte) :
    (m.write x v).WF := by
  refine ⟨?_, fun c hc => ?_⟩
  · obtain ⟨hp, -⟩ := h
    induction m with
    | nil => unfold Memory.write; split <;> simp
    | cons d m ih =>
      obtain ⟨a, b⟩ := d
      obtain ⟨h1, h2⟩ := List.pairwise_cons.1 hp
      unfold Memory.write
      split
      · split
        · exact hp
        · refine List.pairwise_cons.2 ⟨fun c hc => ?_, hp⟩
          rcases List.mem_cons.1 hc with rfl | hc
          · assumption
          · exact Nat.lt_trans ‹_› (h1 c hc)
      · split
        · subst_vars
          split
          · exact h2
          · exact List.pairwise_cons.2 ⟨h1, h2⟩
        · refine List.pairwise_cons.2 ⟨fun c hc => ?_, ih h2⟩
          rcases Memory.mem_write hc with ⟨rfl, -⟩ | hc
          · simp only; omega
          · exact h1 c hc
  · rcases Memory.mem_write hc with ⟨rfl, hv⟩ | hc
    · exact ⟨hx, hv⟩
    · exact h.2 c hc

/-- A read after a write to the same address gives the byte written. -/
theorem Memory.read_write_same {m : Memory} (h : m.Pairwise fun c d => c.1 < d.1) (x : Nat) (v : Byte) :
    (m.write x v).read x = v := by
  induction m with
  | nil => unfold Memory.write; split <;> simp_all [Memory.read]
  | cons d m ih =>
    obtain ⟨a, b⟩ := d
    obtain ⟨h1, h2⟩ := List.pairwise_cons.1 h
    unfold Memory.write
    split
    · split
      · simp [Memory.read, *]
      · simp [Memory.read]
    · split
      · subst_vars
        split
        · rw [Memory.read_eq_of_lt fun c hc => h1 c hc]; exact Eq.symm ‹_›
        · simp [Memory.read]
      · simp [Memory.read, *]

/-- A write leaves every other address as it was. -/
theorem Memory.read_write_other {m : Memory} (h : m.Pairwise fun c d => c.1 < d.1) {x y : Nat} (hxy : y ≠ x)
    (v : Byte) : (m.write x v).read y = m.read y := by
  induction m with
  | nil =>
    by_cases hv : v = 255
    · simp [Memory.write, hv]
    · simp only [Memory.write, hv, Memory.read, if_false]; split <;> simp [*]
  | cons d m ih =>
    obtain ⟨a, b⟩ := d
    obtain ⟨h1, h2⟩ := List.pairwise_cons.1 h
    unfold Memory.write
    split
    · split
      · rfl
      · simp only [Memory.read]; split
        · rw [if_pos (by omega)]
        · rfl
    · split
      · subst_vars
        split
        · simp only [Memory.read]
          split
          · rw [Memory.read_eq_of_lt fun c hc => Nat.lt_trans ‹_› (h1 c hc)]
          · rfl
        · simp only [Memory.read]
          split
          · rfl
          · rfl
      · simp [Memory.read, ih h2]

/-- A program within the store keeps the canonical form. -/
theorem Memory.WF.program {m : Memory} (h : m.WF) {a : Nat} {bs : List Byte}
    (ha : a + bs.length ≤ Config.storeBytes) : (m.program a bs).WF := by
  induction bs generalizing m a with
  | nil => exact h
  | cons b bs ih =>
    simp only [List.length_cons] at ha
    exact ih (h.write (by omega) _) (by omega)

/-- A program changes no byte outside its own (R151). -/
theorem Memory.read_program_other {m : Memory} (h : m.WF) {a y : Nat} {bs : List Byte}
    (ha : a + bs.length ≤ Config.storeBytes) (hy : y < a ∨ a + bs.length ≤ y) :
    (m.program a bs).read y = m.read y := by
  induction bs generalizing m a with
  | nil => rfl
  | cons b bs ih =>
    simp only [List.length_cons] at ha hy
    rw [Memory.program, ih (h.write (by omega) _) (by omega) (by omega),
      Memory.read_write_other h.1 (by omega)]

/-- Each programmed byte has the bits that were 1 and that the program leaves at 1 (R151). -/
theorem Memory.read_program {m : Memory} (h : m.WF) {a : Nat} {bs : List Byte}
    (ha : a + bs.length ≤ Config.storeBytes) (i : Nat) (hi : i < bs.length) :
    (m.program a bs).read (a + i) = m.read (a + i) &&& bs[i] := by
  induction bs generalizing m a i with
  | nil => simp at hi
  | cons b bs ih =>
    simp only [List.length_cons] at ha hi
    have hw := h.write (x := a) (by omega) (m.read a &&& b)
    cases i with
    | zero =>
      rw [Memory.program, Memory.read_program_other hw (by omega) (by omega)]
      simpa using Memory.read_write_same h.1 a _
    | succ i =>
      have := ih hw (a := a + 1) (by omega) i (by omega)
      rw [Memory.program, show a + (i + 1) = a + 1 + i by omega, this,
        Memory.read_write_other h.1 (by omega)]
      rfl

/-- An erase keeps the canonical form. -/
theorem Memory.WF.eraseSector {m : Memory} (h : m.WF) (i : Nat) : (m.eraseSector i).WF :=
  ⟨h.1.filter _, fun c hc => h.2 c (List.mem_of_mem_filter hc)⟩

/-- Every byte of an erased sector reads 255, and every other byte reads as before (R151). -/
theorem Memory.read_eraseSector {m : Memory} (h : m.Pairwise fun c d => c.1 < d.1) (i y : Nat) :
    (m.eraseSector i).read y = if inSector i y then 255 else m.read y := by
  induction m with
  | nil => simp [Memory.eraseSector, Memory.read]
  | cons d m ih =>
    obtain ⟨a, b⟩ := d
    obtain ⟨h1, h2⟩ := List.pairwise_cons.1 h
    have ih := ih h2
    unfold Memory.eraseSector at *
    rw [List.filter_cons]
    by_cases hs : inSector i a = true
    · simp only [hs, Bool.not_true, Bool.false_eq_true, if_false, ih]
      split
      · rfl
      · simp only [Memory.read]
        split
        · rw [Memory.read_eq_of_lt fun c hc => Nat.lt_trans ‹_› (h1 c hc)]
        · rw [if_neg]; rintro rfl; simp_all
    · simp only [Bool.not_eq_true] at hs
      simp only [hs, Bool.not_false, if_true, Memory.read, ih]
      split
      · simp
      · split
        · subst_vars; simp [hs]
        · rfl

theorem Memory.WF.partProgram {m : Memory} (h : m.WF) (k : Nat) {a : Nat} {bs : List Byte}
    (ha : a + bs.length ≤ Config.storeBytes) : (Memory.partProgram k m a bs).WF := by
  induction bs generalizing m a with
  | nil => exact h
  | cons b bs ih =>
    simp only [List.length_cons] at ha
    exact ih (h.write (by omega) _) (by omega)

theorem Memory.WF.partErase {m : Memory} (h : m.WF) (k : Nat) {i : Nat}
    (hi : sectorAddress (i + 1) ≤ Config.storeBytes) : (Memory.partErase k m i).WF := by
  unfold Memory.partErase
  have : ∀ l : List Nat, (∀ j ∈ l, j < Config.sectorBytes) → ∀ m : Memory, m.WF →
      (l.foldl (fun m j => m.write (sectorAddress i + j) (Config.freeByte k (sectorAddress i + j))) m).WF := by
    intro l
    induction l with
    | nil => exact fun _ m hm => hm
    | cons j l ih =>
      intro hl m hm
      refine ih (fun j' hj' => hl j' (List.mem_cons_of_mem _ hj')) _ (hm.write ?_ _)
      have := hl j (by simp)
      simp only [sectorAddress, Config.sectorBytes] at *
      omega
  exact this _ (fun j hj => List.mem_range.1 hj) m h

/-- A completed operation within the store keeps the canonical form. -/
theorem StoreOp.apply_wf {m : Memory} (h : m.WF) {op : StoreOp} (ho : op.endAddress ≤ Config.storeBytes) :
    (op.apply m).WF := by
  cases op with
  | erase i => exact h.eraseSector i
  | line a bs => exact h.program ho
  | mark a bs => exact h.program ho

/-- An interrupted operation keeps the canonical form. -/
theorem StoreOp.interrupt_wf {m : Memory} (h : m.WF) (k : Nat) (op : StoreOp) : (op.interrupt m k).WF := by
  unfold StoreOp.interrupt
  split
  · cases op with
    | erase i => exact h.partErase k ‹_›
    | line a bs => exact h.partProgram k ‹_›
    | mark a bs => exact h.partProgram k ‹_›
  · exact h

/-- The memory after reset has the canonical form. -/
theorem State.reset_memory_wf : Memory.WF State.reset.store.memory := by
  refine ⟨?_, ?_⟩ <;> simp [State.reset, State.afterColdStart, Store.reset]

end Sys2Proof.Machine
end

