-- ==== Sys2Proof/Laws/Ops.lean ====
section
/-! SUPPORT. What the shared operations do, once for each: the conditions, the queues of frames and records,
the marks, the ring, the demand frame and the store controller. Their frames are in Laws/Frames.lean. -/

set_option linter.unusedSimpArgs false

namespace Sys2Proof.Machine

/-! ## Conditions (R173) -/

theorem setCond_eq_set (s : State) (c : Cond) (v : Bool) :
    setCond s c v = { s with link := { s.link with tx := (setCond s c v).link.tx }, report := (setCond s c v).report } := by
  unfold setCond
  split <;> simp [State.setLink, State.setReport]

theorem setCond_link (s : State) (c : Cond) (v : Bool) :
    (setCond s c v).link = { s.link with tx := (setCond s c v).link.tx } := by
  unfold setCond
  split <;> simp [State.setLink]

@[simp] theorem setCond_queue (s : State) (c : Cond) (v : Bool) :
    (setCond s c v).report.queue = s.report.queue := by
  unfold setCond
  split <;> simp [State.setLink, ReportUnit.change]

theorem condPut_isIn (m : CondSet) (c d : Cond) (v : Bool) :
    d.isIn (condPut m c v) = if d = c then v else d.isIn m := by
  cases c <;> cases d <;> cases v <;> simp [condPut, Cond.isIn, Cond.bit, Cond.index]

theorem setCond_values (s : State) (c : Cond) (v : Bool) :
    (setCond s c v).report.values = if c.isIn s.report.values = v then s.report.values else condPut s.report.values c v := by
  unfold setCond
  split <;> simp [State.setLink, ReportUnit.change]

@[simp] theorem setCond_isIn_same (s : State) (c : Cond) (v : Bool) : c.isIn (setCond s c v).report.values = v := by
  rw [setCond_values]
  split <;> simp_all [condPut_isIn]

theorem setCond_isIn_other (s : State) (c d : Cond) (v : Bool) (h : d ≠ c) :
    d.isIn (setCond s c v).report.values = d.isIn s.report.values := by
  rw [setCond_values]
  split <;> simp [condPut_isIn, h]

theorem setCond_latches (s : State) (c : Cond) (v : Bool) :
    (setCond s c v).report.latches
      = if c.isIn s.report.values = v then s.report.latches else s.report.latches ||| c.bit := by
  unfold setCond
  split <;> simp_all [State.setLink, ReportUnit.change]

theorem setCond_pending (s : State) (c : Cond) (v : Bool) : (setCond s c v).report.pending
    = (s.report.pending || (c.isIn s.setup.mask && decide (c.isIn s.report.values ≠ v))) := by
  unfold setCond
  split <;> simp_all [ReportUnit.change]

/-! ## The transmitter's waking (R140) -/

/-- A woken transmitter is not Idle. -/
@[simp] theorem Tx.wake_ne_idle (t : Tx) : t.wake.state ≠ .idle := by
  unfold Tx.wake
  split <;> simp_all

@[simp] theorem Tx.wake_inHand (t : Tx) : t.wake.inHand = t.inHand := by
  unfold Tx.wake
  split <;> rfl

@[simp] theorem Tx.wake_attempts (t : Tx) : t.wake.attempts = t.attempts := by
  unfold Tx.wake
  split <;> rfl

@[simp] theorem Tx.noteChange_state (t : Tx) (c : Cond) : (t.noteChange c).state = t.state := by
  unfold Tx.noteChange
  split <;> simp_all

/-! ## The parts of the link that a label's end, a VOID and the purge reach -/

@[simp] theorem Link.withLabelTraffic_receiver (l m : Link) : (l.withLabelTraffic m).receiver = l.receiver := rfl
@[simp] theorem Link.withLabelTraffic_quiet (l m : Link) : (l.withLabelTraffic m).quiet = l.quiet := rfl
@[simp] theorem Link.withLabelTraffic_held (l m : Link) : (l.withLabelTraffic m).held = l.held := rfl
@[simp] theorem Link.withLabelTraffic_commandQueue (l m : Link) :
    (l.withLabelTraffic m).commandQueue = l.commandQueue := rfl
@[simp] theorem Link.withLabelTraffic_storeQueue (l m : Link) :
    (l.withLabelTraffic m).storeQueue = l.storeQueue := rfl
@[simp] theorem Link.withLabelTraffic_voidQueue (l m : Link) : (l.withLabelTraffic m).voidQueue = m.voidQueue := rfl
@[simp] theorem Link.withLabelTraffic_demand (l m : Link) : (l.withLabelTraffic m).demand = m.demand := rfl
@[simp] theorem Link.withLabelTraffic_backlog (l m : Link) : (l.withLabelTraffic m).backlog = m.backlog := rfl
@[simp] theorem Link.withLabelTraffic_tx (l m : Link) : (l.withLabelTraffic m).tx = m.tx := rfl
@[simp] theorem Link.withLabelTraffic_rng (l m : Link) : (l.withLabelTraffic m).rng = l.rng := rfl
@[simp] theorem Link.withLabelTraffic_counts (l m : Link) :
    (l.withLabelTraffic m).counts = { l.counts with dropped := m.counts.dropped } := rfl

/-! ## Frames and records to be sent (R139, R175) -/

theorem pushVoid_of_room {s : State} (h : s.link.voidQueue.length < 4) (f : VoidFrame) :
    pushVoid s f = { s with link := { s.link with voidQueue := s.link.voidQueue ++ [f], tx := s.link.tx.wake } } := by
  simp [pushVoid, Config.queueDepth, h, State.setLink]

theorem pushVoid_of_full {s : State} (h : 4 ≤ s.link.voidQueue.length) (f : VoidFrame) :
    pushVoid s f = countDropped s := by
  simp [pushVoid, Config.queueDepth, Nat.not_lt.mpr h]

theorem pushRecord_of_room {s : State} (h : s.report.queue.length < 8) (r : Record) :
    pushRecord s r = { s with link := { s.link with tx := s.link.tx.wake },
                              report := { s.report with queue := s.report.queue ++ [r] } } := by
  simp [pushRecord, Config.listDepth, h, State.setLink, State.setReport]

theorem pushRecord_of_full {s : State} (h : 8 ≤ s.report.queue.length) (r : Record) :
    pushRecord s r = setCond s .reportsDropped true := by
  simp [pushRecord, Config.listDepth, Nat.not_lt.mpr h]

theorem countDropped_eq (s : State) :
    countDropped s = setCond { s with link := { s.link with
      counts := { s.link.counts with dropped := min (s.link.counts.dropped + 1) 65535 } } } .framesDropped true := rfl

theorem pushVoid_placed (s : State) (f : VoidFrame) : VoidPlaced s f (pushVoid s f) := by
  refine ⟨fun h => by simp [pushVoid_of_room h], fun h => ?_⟩
  rw [pushVoid_of_full h, countDropped_eq, setCond_link]
  simp

theorem pushRecord_placed (s : State) (r : Record) : RecordPlaced s r (pushRecord s r) :=
  ⟨fun h => by simp [pushRecord_of_room h], fun h => by simp [pushRecord_of_full h]⟩

/-- The record handed at a label's completion is the one of R35 and R36. -/
theorem Context.record_eq (c : Context) : Record.label c.record = c.completedRecord := by
  rcases hc : c.cancelled <;> rcases hv : c.voided <;> rcases hk : c.kind <;> rcases ht : c.truncated <;>
    rcases hl : c.light <;> simp [Context.record, Context.outcome, Context.completedRecord, hc, hv, hk, ht, hl]

/-! ## Marks (R11, R12) -/

theorem ownVoid_of_voided {s : State} {seq : Nat} (h : s.labelVoided seq = true) (reason : Reason) :
    ownVoid s seq reason = s := by simp [ownVoid, h]

theorem ownVoid_of_not_voided {s : State} {seq : Nat} (h : s.labelVoided seq = false) (reason : Reason) :
    ownVoid s seq reason = pushVoid (markVoided s seq reason) { seq := seq, reason := reason } := by
  simp [ownVoid, h]

theorem markVoided_ctx (s : State) (seq : Nat) (reason : Reason) (i : CtxId) :
    (markVoided s seq reason).ctx i = if (s.ctx i).holds seq then (s.ctx i).voidWith reason else s.ctx i := by
  cases i <;> rfl

theorem markCancelled_ctx (s : State) (seq : Nat) (i : CtxId) :
    (markCancelled s seq).ctx i = if (s.ctx i).holds seq then { s.ctx i with cancelled := true } else s.ctx i := by
  cases i <;> rfl

/-! ## The ring (R59) -/

theorem Ring.pushHistory_length (r : Ring) (x : Slot) : (r.pushHistory x).history.length ≤ 2 := by
  simp [Ring.pushHistory]
  omega

theorem Ring.mem_pushHistory (r : Ring) (x : Slot) : x ∈ (r.pushHistory x).history := by
  have h : (r.history ++ [x]).drop (r.history.length - 1) = r.history.drop (r.history.length - 1) ++ [x] :=
    List.drop_append_of_le_length (by omega)
  simp [Ring.pushHistory, h]

/-! ## The demand frame (R103 to R107) and the peer tables (R109) -/

theorem gatherDemands_length (seq first : Nat) (ds : List Nat) (es : List DemandEntry) :
    ds.length ≤ (gatherDemands seq first ds es).1.length
      ∧ (gatherDemands seq first ds es).1.length ≤ max 4 ds.length
      ∧ (gatherDemands seq first ds es).2.length ≤ es.length := by
  induction es generalizing ds with
  | nil => simp [gatherDemands]
  | cons e es ih =>
    unfold gatherDemands
    split
    · have := ih (ds ++ [e.demand])
      simp at this ⊢
      omega
    · simp

theorem enterDemand_length (stale : Bool) (es : List DemandEntry) (e : DemandEntry) (h : es.length ≤ 8) :
    (enterDemand stale es e).length ≤ 8 := by
  unfold enterDemand Config.listDepth
  split
  · exact h
  · split
    · simpa using h
    · split
      · simp; omega
      · exact h

theorem enterDemands_length (stale : Nat → Bool) (seq : Nat) (ds : List Nat) (r : Nat) (es : List DemandEntry)
    (h : es.length ≤ 8) : (enterDemands stale seq r ds es).length ≤ 8 := by
  induction ds generalizing r es with
  | nil => exact h
  | cons d ds ih => exact ih _ _ (enterDemand_length _ _ _ h)

theorem trimDemand_of_none {s : State} (h : s.link.demand = none) : trimDemand s = s := by
  simp [trimDemand, h]

theorem trimDemand_of_fresh {s : State} {f : DemandFrame} (h : s.link.demand = some f) (hd : f.demands ≠ [])
    (hs : s.isStale f.seq f.first = false) : trimDemand s = s := by
  obtain ⟨seq, first, demands, frozen⟩ := f
  cases demands with
  | nil => exact absurd rfl hd
  | cons d ds =>
    simp only [trimDemand, h, dropStaleRows, hs, Bool.false_eq_true, if_false, List.cons_ne_nil]
    show s.setLink { s.link with demand := some ⟨seq, first, d :: ds, frozen⟩ } = s
    rw [← h]
    rfl

/-! ## The transmitter -/

theorem State.hasTraffic_iff (s : State) : s.hasTraffic = true ↔
    s.link.voidQueue ≠ [] ∨ s.link.demand ≠ none ∨ s.report.pending = true ∨ s.report.queue ≠ [] := by
  unfold State.hasTraffic
  cases s.link.voidQueue <;> cases s.link.demand <;> cases s.report.pending <;> cases s.report.queue <;> simp

/-! ## The store controller (R156, R163) -/

theorem storeRecord_of_room {s : State} (h : s.report.queue.length < 8) (cmd : StoreCmd) (number : Nat)
    (result : StoreResult) (generation received : Nat) :
    storeRecord s cmd number result generation received = { s with
      link := { s.link with tx := s.link.tx.wake },
      report := { s.report with queue := s.report.queue ++ [.store
        { cmd := cmd, number := number, result := result, generation := generation, received := received }] } } :=
  pushRecord_of_room h _

theorem takeStoreHead_of_head {s : State} {f : StoreFrame} {rest : List StoreFrame} (h : s.link.storeQueue = f :: rest)
    (h1 : s.station ≠ .starting) (h2 : s.store.serving = none) :
    takeStoreHead s f.cmd = takeStoreFrame { s with link := { s.link with storeQueue := rest } } f := by
  simp [takeStoreHead, State.storeWaiting, h1, h2, h, takeNextStore, popStore, State.setLink]

theorem serveReads_of_none_waits {s : State} (h : s.store.waitLoader = false) :
    serveReads s = { s with store := { s.store with waitLoader := false, waitRaster := false } } := by
  simp [serveReads, h, State.setStore]

theorem serveLoaderRead_of_read {s : State} {l : Load} {number : Nat} (h : s.loader = some l)
    (hl : l.status = .read number) :
    serveLoaderRead s = advanceLoad s l (readFound s.store.memory l.found number) := by
  simp [serveLoaderRead, h, hl]

theorem serveLookup_of_lookup {s : State} {l : Load} {number : Nat} (h : s.loader = some l)
    (hl : l.status = .lookup number) :
    serveLookup s = advanceLoad s l (noteLookup l.found (lookUp s.store.catalog number)) := by
  simp [serveLookup, h, hl]

/-- A load ends only when nothing of it waits and no lookup or read is still to be asked for (R52). -/
theorem State.loadEnds_eq_true {s : State} {l : Load} (h : s.loadEnds l = true) :
    s.store.waitLoader = false ∧ l.lookupWaits = false ∧ (l.status = .done ∨ ∃ reason, l.status = .failed reason) := by
  unfold State.loadEnds at h
  cases hs : l.status <;> simp_all

/-- A catalog change of a number the load has found nothing of leaves the load as it is (R52). -/
theorem forgetFound_of_not_found {s : State} {number : Nat} (h : ∀ l ∈ s.loader, ∀ f ∈ l.found, f.number ≠ number) :
    forgetFound s number = s := by
  cases hl : s.loader with
  | none => simp [forgetFound, hl]
  | some l =>
    have : dropFound l.found number = l.found := by
      simp only [dropFound, List.filter_eq_self]
      intro f hf
      simpa using h l (by simp [hl]) f hf
    simp [forgetFound, hl, this, State.setLoader]
    cases s; simp_all

/-- What cutting a render's reads off can do (R64): nothing, or the render's reads of that context's label end
where they stand. -/
theorem cutReads_cases (s : State) (i : CtxId) : cutReads s i = s ∨ ∃ r, s.raster.rendering = some r ∧ r.ctx = i
    ∧ s.renderRead r = false
    ∧ cutReads s i = { s with raster := { s.raster with rendering := some { r with reads := false, cut := true } },
                              store := { s.store with waitRaster := false } } := by
  unfold cutReads
  split
  · split
    · rename_i r hr hc
      exact .inr ⟨r, hr, hc.1, hc.2.2, rfl⟩
    · exact .inl rfl
  · exact .inl rfl

/-- The line at a jam's end: released, an edge, or held dominant for at least the jam's 17 bit times (R136, R142). -/
theorem releaseJam_cases (held : Bool) (s : State) :
    releaseJam held s = s.setLink { s.link with quiet := (releaseJam held s).link.quiet, held := held }
    ∧ (held = false → (releaseJam held s).link.quiet = 0)
    ∧ (held = true → 17 ≤ (releaseJam held s).link.quiet ∧ (releaseJam held s).link.quiet ≤ 24) := by
  cases held <;> simp [releaseJam, jamSpan, State.setLink]

/-- Time that passes leaves a quiet count in its range (R136). -/
theorem quietAfter_le {l : Link} (bits : Nat) : l.quietAfter bits ≤ 24 := by
  unfold Link.quietAfter
  split <;> omega

/-- No time takes a line that is not yet quiet, and not held, to quiet before LINE_QUIET (R136, log 3). -/
theorem quietAfter_lt {l : Link} (bits : Nat) (h : l.quiet < 16) (h' : l.held = false) : l.quietAfter bits < 16 := by
  unfold Link.quietAfter
  rw [if_pos ⟨h, h'⟩]
  omega

theorem endServing_of_quiet {s : State} (h : s.link.storeQueue = []) (hl : ∀ l ∈ s.loader, l.lookupWaits = false) :
    endServing s = s.setStore { s.store with serving := none, due := [] } := by
  cases hs : s.loader with
  | none => simp [endServing, takeNextStore, serveWaitingLookup, hs, h]
  | some l =>
    have := hl l (by simp [hs])
    simp [endServing, takeNextStore, serveWaitingLookup, hs, this, h]

theorem completeOp_of_kind {s : State} {op : StoreOp} {isKind : StoreOp → Bool} (h1 : s.store.current = some op)
    (h2 : s.store.executing = true) (h3 : isKind op = true) (h4 : op.endAddress ≤ Config.storeBytes) :
    completeOp s isKind = .next (continueServing (serveReads (s.setStore (s.store.operationDone op)))) := by
  simp [completeOp, h1, h2, h3, h4]

/-! ## Stored objects (R178) -/

/-- The body bytes read of an object: those before the end of its last sector, after its 64-byte header. -/
theorem CatEntry.reaches_iff (e : CatEntry) (b : Nat) : e.reaches b = true ↔ 64 + b < 16384 * e.count := by
  simp only [CatEntry.reaches, bodyAddress, sectorAddress, Config.sectorBytes, Config.headerBytes, decide_eq_true_eq,
    Nat.mul_add, Nat.add_assoc, Nat.add_lt_add_iff_left]

/-- A body byte past the body's length or past the last sector reads 0. -/
theorem bodyByte_past {e : CatEntry} {b : Nat} (h : e.length ≤ b ∨ e.reaches b = false) (m : Memory) :
    bodyByte m e b = 0 := by
  rcases h with h | h
  · simp [bodyByte, Nat.not_lt.mpr h]
  · simp [bodyByte, h]

end Sys2Proof.Machine
end

