-- ==== Sys2Proof/WellFormed.lean ====
section
/-! DEFINITION. Which commands the outside world can send: the operand ranges the manual gives. `exec`
is total and needs none of them. -/

namespace Sys2Proof

/-- Two rising edges of RWP are at least one pulse unit apart (T_pred is 1..65535, R118); a frame that
reaches its last check bit has a payload of at most 480 bytes (R137); an accepted DEMAND frame holds 1 to
4 demands (R147); only the form loader looks objects up in the catalog (R165); at a collision the line has been
dominant for at most the 8 equal bits that the station drove itself (R135, R141). -/
def Instr.wellFormed : Instr → Bool
  | .rowPulse dt => decide (1 ≤ dt)
  | .frameAccepted f => decide (f.payload.length ≤ 480)
  | .demand _ _ _ _ ds => decide (1 ≤ ds.length) && decide (ds.length ≤ 4)
  | .collision sinceEdge => decide (sinceEdge.toNat ≤ 8)
  | .storeReadRequest .rasterizer .lookup => false
  | .storeReadRequest .rasterizer .read => true
  | .storeReadRequest .loader _ => true
  | .coldStart _ _ | .scanComplete | .slwHoldExpiry | .topOfForm | .frameReceiveError _ | .lineQuiet
  | .void _ _ _ _ | .setup | .query | .clear | .job | .cancel | .cancelAll | .storeBegin | .storeData
  | .storeEnd | .storeDelete | .sectorEraseComplete | .lineProgramComplete | .markProgramComplete
  | .operationFailed | .minimumRunComplete | .suspendComplete | .loadComplete | .renderComplete
  | .dataLoadComplete | .latchComplete | .mainPulseComplete | .boostPulseComplete
  | .conversionComplete _ | .transmitOpportunity | .jamEnd _ | .backoffEnd | .frameSent
  | .frameBegins => true

end Sys2Proof
end

