-- ==== Sys2Proof/Tests/Slice0.lean ====
section
/-! SUPPORT. The model's own tests: the checks of WellFormed on ill-formed terms, worked numbers of the manual,
single steps on small states, and for every statement of Certificates/Slice0/Obligations.lean that has
hypotheses a concrete case that meets them. -/

namespace Sys2Proof.Tests

set_option Elab.async false

open Sys2Proof.Machine

/-! ## WellFormed -/

theorem test_wf_rowPulse : (Instr.rowPulse 0).wellFormed = false ∧ (Instr.rowPulse 1).wellFormed = true := by decide

theorem test_wf_frame_length :
    (Instr.frameAccepted { address := 0, kind := 0, payload := List.replicate 481 0, check := 0 }).wellFormed = false
    ∧ (Instr.frameAccepted { address := 0, kind := 0, payload := List.replicate 480 0, check := 0 }).wellFormed
        = true := by decide +kernel

theorem test_wf_demand : (Instr.demand 0 1 1 0 []).wellFormed = false
    ∧ (Instr.demand 0 1 1 0 [1, 2, 3, 4]).wellFormed = true
    ∧ (Instr.demand 0 1 1 0 [1, 2, 3, 4, 5]).wellFormed = false := by decide

theorem test_wf_lookup : (Instr.storeReadRequest .rasterizer .lookup).wellFormed = false
    ∧ (Instr.storeReadRequest .loader .lookup).wellFormed = true := by decide

theorem test_wf_collision : (Instr.collision 8).wellFormed = true ∧ (Instr.collision 9).wellFormed = false := by decide

/-! ## Worked numbers of the manual -/

/-- R137's check of the nine digits. -/
theorem test_check : checkOf [49, 50, 51, 52, 53, 54, 55, 56, 57] = 10673#16 := by decide +kernel

/-- 00_scope.md 4.3: successors and distances on the circle of 65,535. -/
theorem test_seq : nextSeq 65535 = 1 ∧ nextSeq 7 = 8 ∧ seqDistance 1 65535 = 1 ∧ seqDistance 5 6 = 65534 := by decide

/-- The main width and the boosts of the worked example of section 6.7. -/
theorem test_widths : mainWidth 600 10 40 = 562 ∧ boostWidth 562 16 = 140 ∧ boostWidth 562 12 = 105
    ∧ boostWidth 562 8 = 70 := by decide +kernel

/-- The allowance of the worked example of section 7.8. -/
theorem test_allowance : allowance 640 3 420 [300, 640] = 203 := by decide +kernel

/-- R142's source from the numbers 0 and 2. -/
theorem test_random : nextRandom 0 = 13849 ∧ nextRandom 2 = 64195 := by decide

/-! ## Small states -/

/-- The next state of an outcome. -/
def next? : Host.Outcome State Fault Refusal → Option State
  | .next t => some t
  | .fault _ | .refused _ => none

/-- Station 0 of 2, in ACTIVE. -/
def act : State :=
  { State.reset with
    station := .active
    setup := { n := 2, p := 640, bm := 600, ka := 16, kb := 12, kc := 8, tSlow := 60, tStop := 70, mask := 127 }
    peers := emptyPeers 2 0 }

def withCommand (s : State) (f : CommandFrame) : State := s.setLink { s.link with commandQueue := [f] }

def withStoreFrame (s : State) (f : StoreFrame) : State := s.setLink { s.link with storeQueue := [f] }

/-- Jobs 1 to `n` queued. -/
def queued (n : Nat) : State :=
  act.setSeq { act.seq with queue := (List.range n).map fun i => jobEntry (i + 1) 7 8 [] }

def jobCtx (st : CtxState) : Context :=
  { Context.free with state := st, seq := 1, form := some 7, h := some 10, darkness := some 8 }

/-- Label 1 at the head of the queue, in context A in the given state. -/
def headIn (st : CtxState) : State := { queued 1 with ctxA := { jobCtx st with rendered := 1 } }

/-- Label 1 in context A, in Running with no row taken, its first row of three dots Rendered. -/
def running : State :=
  { act with
    seq := { act.seq with lc := 1 }
    ctxA := jobCtx .running
    ring := { act.ring with lead :=
      [{ state := .rendered, seq := 1, row := some 0, image := 7, demand := 3, fired := 0 }] } }

def plan1 : Plan :=
  { seq := 1, row := 0, phases := [{ main := 7, boosts := [{ boost := .a, width := 140, data := 1 }] }], w0 := 562,
    trim := 0, miss := true, step := { phase := 0, boost := none, stage := .strobe }, fired := 0, stopping := false }

/-- Row 0 of label 1 in flight, in its main pulse. -/
def flying : State :=
  { running with
    ctxA := { jobCtx .running with taken := 1 }
    ring := { act.ring with firing := some { state := .firing, seq := 1, row := some 0, image := 7, demand := 3, fired := 0 } }
    plan := some plan1
    head := plan1.lines }

def flyingAt (st : FiringStep) : State := flying.setPlan (some { plan1 with step := st })

/-- The outcome, reason and completed rows of a label record. -/
def labelOutcome : Record → Option (LabelOutcome × Option Reason × Nat)
  | .label l => some (l.outcome, l.reason, l.completed)
  | .store _ | .ident _ => none

/-- The label records of an outcome's next state. -/
def outcomes (o : Host.Outcome State Fault Refusal) : List (LabelOutcome × Option Reason × Nat) :=
  match next? o with
  | some t => t.report.queue.filterMap labelOutcome
  | none => []

/-! ## The step, reset and the scan -/

theorem test_StepTakesFront : (act.setPending [.query]).pending = .query :: [] ∧ act.pending = []
    ∧ (next? (step (act.setLink { act.link with quiet := 14 }))).map (fun t => t.link.quiet) = some 15
    ∧ (next? (step (act.setLink { act.link with quiet := 23 }))).map (fun t => t.link.quiet) = some 24 := by
  decide +kernel

theorem test_ExecKeepsPending : (next? (exec .query act)).isSome = true := by decide +kernel

theorem test_ExecStopsOnlyPastStore :
    exec .lineProgramComplete (act.setStore { act.store with
      current := some (.line 1048575 [0, 0]), phase := .running false }) = .fault (.noSuchStoreAddress 1048576) := by
  rfl

theorem test_ColdStartResets :
    let s := act.setStore { act.store with memory := [(5, 7)], current := some (.line 1 [0, 0]), phase := .running false }
    s.MemoryOk ∧ s.store.current = some (.line 1 [0, 0]) ∧ (0 < 1 ∨ 1 + [0, 0].length ≤ 0)
    ∧ ((3 : Nat) < 1 ∨ 1 + ([0, 0] : List Byte).length ≤ 3) ∧ act.store.current = none := by
  refine ⟨?_, by decide, by decide, by decide, by decide⟩
  refine ⟨by decide, ?_⟩
  intro c hc
  obtain rfl : c = (5, 7) := by simpa [act, State.setStore] using hc
  decide

/-- A store of five walked places: object 9 of generation 1 in sector 0 and of generation 2 in sector 1, a write
broken off in sector 2, bytes without a header in sector 3, and erased sectors. -/
def scanned : Memory :=
  [(0, 9), (1, 3), (2, 0), (3, 0), (4, 0), (5, 0), (6, 0), (7, 1), (10, 240),
   (16384, 9), (16385, 3), (16386, 0), (16387, 0), (16388, 0), (16389, 0), (16390, 0), (16391, 2), (16394, 240),
   (32768, 8), (32769, 1), (32770, 0), (32771, 0), (32772, 0), (32773, 0), (32774, 0), (32775, 1), (32778, 252),
   (49152, 0)]

def object9 (first generation : Nat) : CatEntry :=
  { number := 9, kind := .graphic, first := first, count := 1, length := 0, generation := generation }

theorem test_ScanRebuildsStore :
    State.reset.station = .starting ∧ act.station ≠ .starting
    ∧ (scanStore scanned).1 = [object9 1 2] ∧ (scanStore scanned).2.take 5 = [.dirty, .used, .dirty, .dirty, .free]
    ∧ Memory.WF scanned ∧ scanHeader scanned 3 = none ∧ scanned.read 49152 ≠ 255
    ∧ (scanHeader scanned 2).isSome = true ∧ scanned.read 32778 ≠ 240
    ∧ seqDistance 2 1 = 1 := by
  decide +kernel

theorem test_ScanReaches : ScanReaches scanned 0 ∧ ScanReaches scanned 1 ∧ ScanReaches scanned 2 ∧ ScanReaches scanned 3
    ∧ ScanReaches scanned 63 := by
  refine ⟨⟨by decide, 0, rfl⟩, ⟨by decide, 1, ?_⟩, ⟨by decide, 2, ?_⟩, ⟨by decide, 3, ?_⟩, ⟨by decide, 63, ?_⟩⟩ <;>
    decide +kernel

theorem test_ScanFinds : ScanFinds scanned (object9 0 1) ∧ ScanFinds scanned (object9 1 2) := by
  refine ⟨⟨test_ScanReaches.1, ?_, ?_, ?_⟩, ⟨test_ScanReaches.2.1, ?_, ?_, ?_⟩⟩ <;> decide +kernel

/-- R154: a run that ends at sector 63 and one that would run past it, and an empty body's check. -/
theorem test_scanHeader :
    let at63 := fun (low : Byte) => ([(1032192, 9), (1032193, 3), (1032194, 0), (1032195, 0), (1032196, 63),
      (1032197, low), (1032198, 0), (1032199, 7), (1032202, 0)] : Memory)
    scanHeader (at63 192) 63 = some ⟨9, .graphic, 63, 1, 16320, 7⟩ ∧ scanHeader (at63 193) 63 = none
    ∧ scanHeader scanned 2 = some ⟨8, .form, 2, 1, 0, 1⟩ ∧ bodyCheckGood scanned (object9 0 1) = true
    ∧ bodyCheckGood [(8, 0)] (object9 0 1) = false := by decide +kernel

theorem test_coldStart : (next? (exec (.coldStart true false) act)).map (fun t => (t.station, t.number, t.link.rng))
    = some (.starting, 2, 2) := by decide +kernel

theorem test_scan : (next? (exec .scanComplete State.reset)).map (fun t => (t.station, freeSectors t.store.sectors))
    = some (.unset, 64) := by decide +kernel

/-! ## The invariants -/

theorem test_StepKeeps : (next? (step act)).isSome = true := by decide +kernel

theorem test_act_memoryOk : act.MemoryOk := ⟨by decide, by decide⟩

theorem test_act_queuesOk : act.QueuesOk ∧ act.DemandOk := by
  refine ⟨⟨by decide, by decide, by decide, by decide, by decide, by decide, by decide⟩, ?_⟩
  intro f hf
  simp [act, State.reset, State.afterColdStart, Link.reset] at hf

/-- The idle transmitter, and its waking by a record handed to the report queue. -/
theorem test_act_trafficOk : act.TrafficOk ∧ act.link.tx.state = .idle
    ∧ (next? (exec .query (withCommand act .query))).map (fun t => t.link.tx.state) = some .deferring := by
  exact ⟨fun _ => by decide, by decide, by decide +kernel⟩

theorem test_inertOk : (State.reset.setStation .unset).InertOk ∧ act.InertOk
    ∧ (next? (exec .scanComplete State.reset)).map (fun t => t.station) = some .unset := by
  refine ⟨⟨fun _ => by decide, fun _ => by decide⟩, ⟨fun h => absurd rfl h, fun h => ?_⟩, by decide +kernel⟩
  exact absurd h (by decide)

theorem test_act_linesOk : act.LinesOk := by
  refine ⟨by decide, by decide, by decide, by decide, by decide⟩

theorem test_act_ringOk : act.RingOk := by
  refine ⟨by decide, by decide, by decide, by decide, by decide, by decide⟩

theorem test_flying_strobeOk : flying.StrobeOk ∧ (next? (step flying)).isSome = true := by
  exact ⟨rfl, by decide +kernel⟩

theorem test_act_rangesOk : act.RangesOk := by
  refine ⟨?_, ⟨?_, ?_⟩, ?_, ⟨?_, ?_⟩, ?_, ?_, ?_, ?_, ?_, ?_, ?_, ?_⟩ <;> decide

theorem test_act_storeOk : act.StoreOk := by
  refine ⟨by decide, by decide, ?_, trivial, ?_, by decide⟩
  · intro w hw
    simp [act, State.reset, State.afterColdStart, Store.reset] at hw
  · intro op hop
    simp [act, State.reset, State.afterColdStart, Store.reset] at hop

/-! ## Frames on the line -/

theorem test_PayloadsRoundTrip :
    (CommandFrame.setup 127 65535 65535 127 127 127 127 127 127).Fits
    ∧ (CommandFrame.job 65535 255 255 [{ number := 127, value := List.replicate 240 0 }]).Fits
    ∧ (CommandFrame.cancel 65535).Fits ∧ (StoreFrame.begin 255 127 4294967295).Fits
    ∧ (StoreFrame.data 4294967295 [0]).Fits ∧ (StoreFrame.delete 255).Fits
    ∧ (∀ d ∈ [65535], d < 65536) ∧ [65535].length < 256 := by
  refine ⟨by simp [CommandFrame.Fits], ⟨by decide, by decide, by decide, by decide, ?_⟩, by simp [CommandFrame.Fits],
    by simp [StoreFrame.Fits], by simp [StoreFrame.Fits], by simp [StoreFrame.Fits], by decide, by decide⟩
  intro f hf
  obtain rfl := List.mem_singleton.mp hf
  decide +kernel

/-- R176: the upper bit of a byte whose values use fewer bits is not read: Ka of 80h is 0. -/
theorem test_upper_bit : parsePayload 0x10#8 [1, 1, 0, 2, 0, 128, 1, 255, 60, 70, 129]
      = some (.command (.setup 1 256 512 0 1 127 60 70 1)) := by decide +kernel

/-- The JOB of section 12.6 in bytes. -/
theorem test_job_bytes :
    parsePayload 0x20#8 [0, 41, 20, 10, 2, 1, 3, 65, 66, 49, 3, 7, 50, 49, 49, 51, 50, 50, 49]
      = some (.command (.job 41 20 10 [⟨1, [65, 66, 49]⟩, ⟨3, [50, 49, 49, 51, 50, 50, 49]⟩]))
    ∧ parsePayload 0x20#8 [0, 41, 20, 10, 2, 1, 3, 65, 66, 49, 3, 7, 50, 49, 49, 51, 50, 50, 49, 0] = none := by
  decide +kernel

/-- The label record of section 12.6. -/
theorem test_record_bytes :
    ((Record.label { seq := 41, outcome := .light, reason := none, completed := 1200, trimmed := 4, miss := 2,
                      light := true, fieldClipped := false, substituted := false, truncated := false }).frame 0).payload
      = [2, 0, 41, 2, 0, 4, 176, 0, 4, 0, 2, 1] := by decide +kernel

theorem test_demand_counts : parsePayload 0x40#8 [0, 1, 0, 0, 4, 0, 1, 0, 2, 0, 3, 0, 4] = some (.demand 1 0 [1, 2, 3, 4])
    ∧ parsePayload 0x40#8 [0, 1, 0, 0, 0] = none := by decide +kernel

/-- Tests 3 and 4 of R147 at the ends of each layout's length. -/
theorem test_bad_payloads :
    let lengths := fun (kind : Byte) => (List.range 14).filter fun n => (parsePayload kind (List.replicate n 0)).isSome
    lengths 0x10 = [11] ∧ lengths 0x11 = [0] ∧ lengths 0x12 = [0] ∧ lengths 0x20 = [5] ∧ lengths 0x21 = [2]
    ∧ lengths 0x30 = [6] ∧ lengths 0x32 = [2] ∧ lengths 0x33 = [1] ∧ lengths 0x40 = [] ∧ lengths 0x41 = [3]
    ∧ lengths 0x13 = [] ∧ lengths 0x31 = [5, 6, 7, 8, 9, 10, 11, 12, 13]
    ∧ (parsePayload 0x31#8 (List.replicate 260 0)).isSome = true ∧ parsePayload 0x31#8 (List.replicate 261 0) = none
    ∧ parsePayload 0x20#8 ([0, 1, 7, 8, 17] ++ List.replicate 34 0) = none
    ∧ (parsePayload 0x20#8 ([0, 1, 7, 8, 1, 1, 240] ++ List.replicate 240 0)).isSome = true
    ∧ parsePayload 0x20#8 ([0, 1, 7, 8, 1, 1, 241] ++ List.replicate 241 0) = none := by decide +kernel

theorem test_StuffingRoundTrip : stuff (List.replicate 9 false) = List.replicate 8 false ++ [true, false]
    ∧ stuff (List.replicate 8 true) = List.replicate 8 true ++ [false]
    ∧ (List.replicate 8 false ++ [true, false] : List Bool) = [] ++ List.replicate 8 false ++ [true, false] := by decide

/-! ## Pulse energy and the strobe budget -/

theorem test_WidthFactors : darknessFactor 0 = 192 ∧ (14 : Nat) < 15 ∧ darknessFactor 16 = 312
    ∧ temperatureFactor (-10) = 326 ∧ temperatureFactor 80 = 146 := by decide

theorem test_PulseWidths : (100 : Nat) ≤ 100 ∧ (1500 : Nat) ≤ 1500 ∧ mainWidth 1500 15 (-10) = 2000
    ∧ mainWidth 100 0 80 = 42 ∧ boostWidth 2000 63 = 1968 ∧ boostWidth 1 63 = 0
    ∧ presentBoosts act.setup 562 = [(.a, 140), (.b, 105), (.c, 70)] := by decide +kernel

theorem test_DotClasses : (639 : Nat) < 640 ∧ dotClass 3 1 0 0 = 0 ∧ dotClass 3 0 1 0 = 1 ∧ dotClass 3 0 0 0 = 2
    ∧ dotClass 1 0 0 0 = 3 ∧ (energySet 11 1 2 act.setup 562).classCounts = [1, 1, 0, 1] := by decide +kernel

theorem test_AllowanceCases : reserve 256 4 = 32 ∧ allowance 256 4 32 [640, 640, 640] = 32
    ∧ allowance 256 4 33 [640, 640, 640] = 32 ∧ allowance 2560 1 640 [] = 640 ∧ allowance 256 1 129 [] = 256
    ∧ pool 640 3 [420, 300, 640] = 322 ∧ totalExcess 640 3 [420, 300, 640] = 1042
    ∧ (let v : PeerTable := { peer := 1, entries := [⟨1, 0, 5⟩, ⟨1, 1, 6⟩] }
       v.entries = [⟨1, 0, 5⟩] ++ ⟨1, 1, 6⟩ :: [] ∧ v.view 1 1 = 6 ∧ v.view 1 2 = 640
       ∧ (act.setPeers [v]).rowMiss 1 2 = true ∧ (act.setPeers [v]).rowMiss 1 1 = false) := by
  decide +kernel

theorem test_HeadWithinBudget : (∀ k j : Fin 2, (fun _ => 640 : Fin 2 → Nat) j ≤ (fun _ _ => 640 : Fin 2 → Fin 2 → Nat) k j)
    ∧ allowance 256 2 640 [640] + allowance 256 2 640 [640] = 256 := by decide +kernel

theorem test_PhasesDivideRow : Dots.columns 11 = [0, 1, 3] ∧ phaseCount 3 2 = 2 ∧ phaseColumns [0, 1, 3] 2 0 = [0, 1]
    ∧ phaseColumns [0, 1, 3] 2 1 = [3] := by decide +kernel

theorem test_PlanWithinAllowance :
    let x : Slot := { state := .rendered, seq := 1, row := some 0, image := 7, demand := 3, fired := 0 }
    ((running.planFor running.ctxA x 0).phases.map fun ph => (ph.main, ph.boosts.map fun b => b.data))
      = [(7, [7, 7])] := by decide +kernel

/-- Dots of classes 0, 1 and 3 by the two history records: boost A drives the last two, B and C the last. -/
theorem test_phaseBoosts :
    let record := fun (fired : Dots) => ({ state := .history, seq := 1, row := none, image := 0, demand := 0, fired := fired } : Slot)
    let s := running.setRing { running.ring with history := [record 2, record 1] }
    let x : Slot := { state := .rendered, seq := 1, row := some 0, image := 11, demand := 3, fired := 0 }
    s.ring.firstHistory = 1 ∧ s.ring.secondHistory = 2
    ∧ ((s.phasesFor 562 x 1 0).map fun ph => (ph.main, ph.boosts.map fun b => (b.boost, b.width, b.data)))
      = [(11, [(.a, 140, 10), (.b, 105, 8), (.c, 70, 8)])] := by decide +kernel

/-- The trim levels of the worked example of section 8.7, and those of one phase at the boundaries. -/
theorem test_TrimLevels :
    let ph : Phase := { main := 7, boosts := [⟨.a, 140, 7⟩, ⟨.b, 105, 7⟩, ⟨.c, 70, 4⟩] }
    availableTime 2773 = 2753 ∧ planTime 562 [ph, ph, ph] = 3891 ∧ trimLevel 562 2753 [ph, ph, ph] = 2
    ∧ trimLevel 562 1297 [ph] = 0 ∧ trimLevel 562 1296 [ph] = 1 ∧ trimLevel 562 1121 [ph] = 2
    ∧ trimLevel 562 911 [ph] = 3
    ∧ (trimTo 2 [ph]).map (fun p => p.boosts.map BoostData.boost) = [[.a]] := by decide +kernel

theorem test_DemandPlaced :
    let frame : DemandFrame := { seq := 1, first := 0, demands := [3], frozen := false }
    let s := running.setLink { running.link with demand := some frame }
    running.link.demand = none ∧ running.link.backlog = []
    ∧ (handDemand s ⟨1, 1, 9⟩).link.demand = some { frame with demands := [3, 9] }
    ∧ (handDemand s ⟨1, 2, 9⟩).link.backlog = [⟨1, 2, 9⟩]
    ∧ (let b := running.setLink { running.link with backlog := [⟨3, 0, 1⟩, ⟨1, 4, 5⟩, ⟨1, 5, 6⟩, ⟨1, 7, 8⟩] }
       (b.link.backlog.filter fun x => !b.isStale x.seq x.row) = [⟨1, 4, 5⟩, ⟨1, 5, 6⟩, ⟨1, 7, 8⟩]
       ∧ (formDemand b).link.demand = some { seq := 1, first := 4, demands := [5, 6], frozen := false }
       ∧ (formDemand b).link.backlog = [⟨1, 7, 8⟩])
    ∧ (let b := running.setLink { running.link with backlog := [⟨3, 0, 1⟩] }
       ∀ e ∈ b.link.backlog, b.isStale e.seq e.row = true) := by decide +kernel

/-- A row pulse and a TOF with stale rows in the pending frame, the backlog and a peer's table. -/
def announced : State :=
  { running with
    link := { running.link with demand := some { seq := 1, first := 0, demands := [3, 4], frozen := false },
                                backlog := [⟨9, 0, 1⟩] }
    peers := [{ peer := 1, entries := [⟨1, 0, 5⟩, ⟨1, 1, 6⟩] }] }

theorem test_StaleRemoved :
    running.isStale 9 0 = true ∧ running.isStale 2 7 = false ∧ running.isStale 1 0 = false
    ∧ (running.setCtxA { running.ctxA with taken := 1 }).isStale 1 0 = true ∧ (queued 1).isStale 0 0 = true
    ∧ announced.station = .active
    ∧ (next? (exec .topOfForm announced)).map (fun t => t.link.demand) = some none
    ∧ (next? (exec .topOfForm announced)).map (fun t => t.peers.map PeerTable.entries) = some [[]]
    ∧ (let s := announced.setLink { announced.link with
         demand := some { seq := 1, first := 0, demands := [3, 4], frozen := true } }
       (next? (exec (.rowPulse 1) s)).map (fun t => t.link.demand.map DemandFrame.first) = some (some 0)) := by
  decide +kernel

/-- R104 and R111 at a row pulse: row 0 leaves the pending frame and the peer's table, seq 9 the backlog. -/
theorem test_stale_rowPulse :
    let t := next? (exec (.rowPulse 1) announced)
    t.map (fun t => t.link.demand) = some (some { seq := 1, first := 1, demands := [4], frozen := false })
    ∧ t.map (fun t => t.link.backlog) = some [] ∧ t.map (fun t => t.peers.map PeerTable.entries) = some [[⟨1, 1, 6⟩]]
    ∧ t.map (fun t => (t.isStale 1 0, t.isStale 1 1)) = some (true, false) := by decide +kernel

/-! ## Forms, bars and drawing -/

theorem test_BarGeometry : (∀ x ∈ [1, 1, 1], 1 ≤ x) ∧ barSpans 1 (effectiveReduction 1 3) 0 [1, 1, 1] = [(0, 1), (2, 1)]
    ∧ barSpans 4 (effectiveReduction 4 3) 0 [2, 1, 1] = [(0, 5), (12, 1)] ∧ [2, 1, 1][2 * 1]? = some 1 := by
  decide +kernel

/-- A catalog of one form in sector 0 whose count byte is 0 or 129. -/
def formEntry : CatEntry := { number := 7, kind := .form, first := 0, count := 1, length := 3, generation := 1 }

/-- What a lookup and a read of the form 7 found. -/
def found7 (entry : Option CatEntry) (content : Option Content) : Found :=
  { number := 7, entry := entry, content := content }

/-- Where the load of the form 7 stands with these findings. -/
def statusWith (found : List Found) : LoadStatus := (runLoad none 7 ⟨[], 2, 0⟩ found (Load.start .a 7)).status

theorem test_LoadFailures :
    statusWith [] = .lookup 7 ∧ statusWith [found7 none none] = .failed .missingObject
    ∧ statusWith [found7 (some formEntry) none] = .read 7
    ∧ statusWith [found7 (some formEntry) (some (.form none))] = .failed .badForm
    ∧ ([found7 none none].find? fun f => f.number = 7) = some (found7 none none)
    ∧ (bodyByte [(66, 0)] formEntry 2).toNat = 0 ∧ (bodyByte [(66, 129)] formEntry 2).toNat = 129
    ∧ readForm [(66, 1), (67, 5)] { formEntry with length := 4 } = none
    ∧ recordOffset [(66, 1), (67, 5)] { formEntry with length := 4 } 0 = some 3
    ∧ recordSize [(66, 1), (67, 5)] { formEntry with length := 4 } 3 = none := by decide +kernel

/-- The element of the given body at (600, 10). -/
def elementOf (body : ElementBody) : Element := { mode := .black, x := 600, y := 10, rotation := .r90, body := body }

/-- A glyph set of height 2 that defines the code 65 with an advance of 3. -/
def glyphLead : List Byte := 2 :: List.replicate 8 0 ++ [64] ++ List.replicate 23 0 ++ List.replicate 65 0 ++ [3]

def foundSet : Found :=
  { number := 4, entry := some { formEntry with number := 4, kind := .glyphSet }, content := some (.lead glyphLead) }

/-- The box, corner and flags that an element is entered with. -/
def entered (r : Except Reason LoadAcc) : Option (List (List Nat) × List Bool) :=
  match r with
  | .ok acc => some (acc.table.map fun e => [e.c0, e.c1, e.r0, e.r1], [acc.fieldClipped, acc.substituted])
  | .error _ => none

/-- The reason with which an element fails a load. -/
def failure (r : Except Reason LoadAcc) : Option Reason :=
  match r with
  | .ok _ => none
  | .error reason => some reason

/-- The element examined at station 0 of 2 with a label of 20 rows. -/
def enterElement (body : ElementBody) (obj : Option Found) : Except Reason LoadAcc :=
  examine { fields := [⟨1, [50, 49, 49]⟩, ⟨2, [65, 66]⟩, ⟨3, [53]⟩], n := 2, number := 0 } 20 0 (elementOf body) obj
    LoadAcc.start

theorem test_ElementsEntered :
    entered (enterElement (.box 100 50 0) none) = some ([[600, 699, 10, 19]], [false, false])
    ∧ entered (enterElement (.text 4 (.field 2) 1 1 1) (some foundSet)) = some ([[600, 601, 10, 12]], [true, false])
    ∧ entered (enterElement (.text 4 (.field 2) 1 1 2) (some foundSet)) = some ([[600, 601, 10, 13]], [false, true])
    ∧ failure (enterElement (.text 4 (.field 2) 1 1 2) none) = some .missingObject
    ∧ failure (enterElement (.graphic 9) (some foundSet)) = some .missingObject := by decide +kernel

theorem test_shapesEntered :
    entered (enterElement (.graphic 4) (some { foundSet with
        entry := some { formEntry with number := 4, kind := .graphic }, content := some (.lead [0, 5, 0, 3]) }))
        = some ([[600, 604, 10, 12]], [false, false])
    ∧ entered (enterElement (.bars 1 3 8 1 .picket) none) = some ([[600, 611, 10, 17]], [false, false])
    ∧ entered (enterElement (.bars 1 3 8 1 .ladder) none) = some ([[600, 607, 10, 19]], [false, false])
    ∧ failure (enterElement (.bars 3 3 8 1 .picket) none) = some .badBars
    ∧ (examineFrom none ⟨[], 2, 0⟩ [] 20 0 [elementOf (.box 100 50 0)] LoadAcc.start).1 = .done := by decide +kernel

/-- A catalogued graphic, looked up and read. -/
def foundGraphic : Found :=
  { number := 4, entry := some { formEntry with number := 4, kind := .graphic }, content := some (.lead [0, 5, 0, 3]) }

/-- Where step 3 stands at a Graphic of object 4 at the given column. -/
def graphicAt (served : Option Nat) (found : List Found) (x : Nat) : LoadStatus :=
  (examineFrom served ⟨[], 2, 0⟩ found 20 0 [{ elementOf (.graphic 4) with x := x }] LoadAcc.start).1

/-- R43 and R52: a Graphic is looked up, unless its corner lies right of the slice (log 32), and looked up again while
a command on its number is being served (log 22). -/
theorem test_elementLookups :
    graphicAt none [] 639 = .lookup 4 ∧ graphicAt none [] 640 = .done ∧ graphicAt none [foundGraphic] 639 = .done
    ∧ graphicAt none [{ foundGraphic with content := none }] 639 = .read 4
    ∧ graphicAt (some 4) [foundGraphic] 639 = .lookup 4
    ∧ graphicAt none [{ number := 4, entry := none, content := none }] 639 = .failed .missingObject := by decide +kernel

/-- A form of one element of the given record bytes. -/
def recordOf (bytes : List Byte) : Option (List (ElementBody × Rotation)) :=
  let m : Memory := (66, 1) :: ((List.range bytes.length).zip bytes).map fun p => (67 + p.1, p.2)
  (readForm m { formEntry with length := 3 + bytes.length }).map fun body =>
    body.elements.map fun el => (el.body, el.rotation)

/-- Section 12.5's records, their kind-specific fields clamped (R40, R75). -/
theorem test_recordFields :
    recordOf [1, 0, 0, 5, 0, 6, 2, 0, 0, 255, 255, 3] = some [(.box 1 4800 3, .r0)]
    ∧ recordOf [2, 1, 0, 5, 0, 6, 3, 4, 0, 2, 9, 1, 0, 2, 65, 66] = some [(.text 4 (.literal [65, 66]) 4 1 1, .r270)]
    ∧ recordOf [2, 1, 0, 5, 0, 6, 4, 4, 1, 2, 1, 2, 255, 1, 65] = some [(.text 4 (.field 2) 1 2 240, .r0)]
    ∧ recordOf [3, 0, 0, 5, 0, 6, 1, 2, 99, 0, 50, 7, 1] = some [(.bars 2 10 50 3 .ladder, .r0)]
    ∧ recordOf [4, 0, 0, 5, 0, 6, 1, 9] = some [(.graphic 9, .r0)] := by decide +kernel

/-- A table entry of the given part whose clipped box is the first eight columns and rows. -/
def entryOf (part : Part) : TableEntry :=
  { index := 0, mode := .black, x := 0, y := 0, c0 := 0, c1 := 7, r0 := 0, r1 := 7, part := part }

/-- The dots of a row that the entry draws over an empty image, with its cursor moved for the row. -/
def drawn (m : Memory) (cat : List CatEntry) (r : Nat) (part : Part) : Nat :=
  (applyEntry m cat 0 r 0 { entry := entryOf part, cursor := cursorFor (entryOf part) 1 r }).toNat

theorem test_ElementDots :
    let spans := [2, 1, 1]
    let cat : List CatEntry := [{ formEntry with kind := .graphic, length := 6 }]
    drawn [] [] 1 (.box 4 3 1) = 9 + 240 ∧ drawn [] [] 0 (.bars .picket 1 8 0 0 spans 4 2 (some (1, 2))) = 11
    ∧ drawn [] [] 0 (.bars .picket 1 8 0 0 spans 4 2 none) = 0
    ∧ drawn [] [] 1 (.bars .ladder 1 8 0 0 spans 4 2 none) = 255
    ∧ drawn [] [] 2 (.bars .ladder 1 8 0 0 spans 4 2 none) = 0
    ∧ drawn [] [] 3 (.bars .ladder 1 8 0 0 spans 4 2 none) = 255
    ∧ drawn [(69, 160)] cat 1 (.graphic ⟨7, 1⟩ 8 2) = 5 ∧ drawn [(69, 160)] cat 1 (.graphic ⟨7, 2⟩ 8 2) = 0
    ∧ refFind cat ⟨7, 1⟩ = some { formEntry with kind := .graphic, length := 6 } ∧ refFind cat ⟨7, 2⟩ = none
    ∧ (1 ≤ 1 ∧ 0 < 1 ∧ ∀ x ∈ spans, 1 ≤ x) := by decide +kernel

/-- One glyph of code 0, two rows high and three wide, drawn at each rotation: ink in its upper row's first dot and
its lower row's last. -/
theorem test_textDots :
    let cat : List CatEntry := [{ formEntry with kind := .glyphSet, length := 291 }]
    let m : Memory := [(64, 2), (65, 128)] ++ (List.range 31).map (fun i => (66 + i, 0)) ++ [(97, 3)]
      ++ (List.range 255).map (fun i => (98 + i, 0)) ++ [(353, 128), (354, 32)]
    let text := fun rotation => Part.text rotation 1 1 ⟨7, 1⟩ 2 3 2 [⟨0, 3, false⟩]
    refFind cat ⟨7, 1⟩ = some { formEntry with kind := .glyphSet, length := 291 }
    ∧ (drawn m cat 0 (text .r0)) % 8 = 1 ∧ (drawn m cat 1 (text .r0)) % 8 = 4
    ∧ (drawn m cat 0 (text .r90)) % 4 = 2 ∧ (drawn m cat 2 (text .r90)) % 4 = 1
    ∧ (drawn m cat 0 (text .r180)) % 8 = 1 ∧ (drawn m cat 1 (text .r180)) % 8 = 4
    ∧ (drawn m cat 2 (text .r270)) % 4 = 1 ∧ (drawn m cat 0 (text .r270)) % 4 = 2 := by decide +kernel

/-- Label 1 in context A with its position on the given row and a table of one box on rows 1 and 2. -/
def atRow (row : Nat) : State :=
  let box := { entryOf (.box 8 2 0) with r0 := 1, r1 := 2 }
  { headIn .loading with
    ctxA := { jobCtx .loading with rendered := 0, table := [box] }
    raster := { act.raster with position := some { ctx := .a, row := row }, pending := [box] } }

theorem test_RasterBegins :
    (advanceRaster (atRow 0)).raster.rendering = some { ctx := .a, seq := 1, row := 0, drawn := true, reads := false, cut := false }
    ∧ (advanceRaster (atRow 1)).raster.active.length = 1
    ∧ (atRow 1).raster.rendering = none ∧ (atRow 1).ring.lead.length < 5 ∧ (atRow 1).loadingCtx .a = false
    ∧ (advanceRaster ((atRow 1).setRaster { (atRow 1).raster with position := none })).raster.position = some ⟨.a, 0⟩
    ∧ act.raster.position = none ∧ act.nextCtx = none
    ∧ (let s := (atRow 1).setCtxA { (atRow 1).ctxA with state := .running, taken := 4 }
       1 < s.ctxA.taken ∧ (advanceRaster s).raster.position = some ⟨.a, 4⟩)
    ∧ (let s := (atRow 1).setCtxA { (atRow 1).ctxA with cancelled := true }
       (advanceRaster s).raster.rendering = some { ctx := .a, seq := 1, row := 1, drawn := false, reads := false, cut := false })
    ∧ (let s := (atRow 1).setLoader (some (Load.start .a 7))
       s.loadingCtx .a = true ∧ (advanceRaster s).raster.rendering = none)
    ∧ (let s := running.setRaster { running.raster with position := none }
       (moveToStarted s .a).raster.position = some ⟨.a, 0⟩)
    ∧ (pendingList [{ entryOf (.box 1 1 0) with r0 := 3 }, entryOf (.box 2 2 0)]).map (fun e => e.r0) = [0, 3] := by
  decide +kernel

/-- A glyph set 7 of height 255 in two sectors, which defines codes 0 to 255 with advance 255: the glyph rows of
code 4 begin at 289 + 4 * 255 * 32 = 32929, past the last body byte 32703 of the sectors. -/
def tallSet : Memory := (64, 255) :: (List.range 32).map (fun i => (65 + i, 255)) ++ (List.range 256).map fun i => (97 + i, 255)

/-- R73 and R178: a text column of a substituted blank reads no glyph row, one of a glyph does, and one whose glyph
rows lie past the object's last sector does not; a graphic reads each row that begins before it: 320 bytes a row from
offset 4, so the rows to 50 of one sector's 16,320 body bytes. -/
theorem test_readsAt :
    let cat : List CatEntry := [{ formEntry with kind := .glyphSet, count := 2, length := 60000 }]
    let one : List CatEntry := [{ formEntry with kind := .graphic, length := 60000 }]
    let text := entryOf (.text .r90 1 1 ⟨7, 1⟩ 255 5 255 [⟨0, 2, true⟩, ⟨1, 3, false⟩, ⟨4, 3, false⟩])
    let wide := entryOf (.graphic ⟨7, 1⟩ 2560 100)
    [1, 2, 5].map (text.readsAt tallSet cat 0) = [false, true, false]
    ∧ [0, 50, 51].map (wide.readsAt [] one 0) = [true, true, false] ∧ wide.readsAt [] [] 0 0 = false
    ∧ (entryOf (.box 8 2 0)).readsAt [] one 0 0 = false := by decide +kernel

/-! ## JOB, CANCEL and VOID -/

/-- A load of the uncatalogued form 7 into context A. -/
def loading : State := { headIn .loading with loader := some (Load.start .a 7) }

/-- The loader's read hold stands. -/
def holding (s : State) : State := s.setStore { s.store with holdLoader := true }

/-- A frame is being received. -/
def hearing (s : State) : State := s.setLink { s.link with receiver := .receiving }

theorem test_JobFieldsResolve :
    resolveFields [⟨1, [65]⟩, ⟨0, [66]⟩, ⟨17, [66]⟩, ⟨16, [67]⟩, ⟨1, [68]⟩] = [⟨1, [68]⟩, ⟨16, [67]⟩] := by decide

theorem test_JobQueued :
    (let s := withCommand act (.job 1 7 8 [])
     s.station = .active ∧ s.link.commandQueue = [.job 1 7 8 []] ∧ s.seq.lc = 0 ∧ s.seq.queue = [])
    ∧ (let s := withCommand (queued 3) (.job 4 7 8 [])
       s.link.commandQueue = [.job 4 7 8 []] ∧ s.seq.queue.length = 3
       ∧ seqDistance 4 (nextSeq 3) = 0 ∧ s.seq.queue.getLast?.map (fun e => e.seq) = some 3)
    ∧ (next? (exec .job (withCommand (queued 3) (.job 4 7 8 [])))).map (fun t => t.seq.queue.map fun e => e.seq)
        = some [1, 2, 3, 4]
    ∧ (next? (exec .job (withCommand act (.job 1 7 8 [])))).map (fun t => (t.ctxA.state, t.loader))
        = some (.loading, some (Load.start .a 7))
    ∧ act.seq.queue = [] ∧ (queued 1).headHeld (jobEntry 1 7 8 []) = false ∧ (queued 1).ctxA.state = .free
    ∧ (headIn .loading).headHeld (jobEntry 1 7 8 []) = true := by decide +kernel

theorem test_JobGap :
    (let s := withCommand (queued 1) (.job 4 7 8 [])
     s.station = .active ∧ s.seq.preVoid = 0 ∧ seqDistance 4 s.seq.expected = 2 ∧ s.seq.queue.length + 2 < 4
     ∧ s.link.voidQueue.length + 2 ≤ 4)
    ∧ (next? (exec .job (withCommand (queued 1) (.job 4 7 8 [])))).map (fun t =>
        (t.seq.queue.map fun e => e.seq, t.link.voidQueue)) = some ([1, 2, 3, 4], [⟨2, .missed⟩, ⟨3, .missed⟩])
    ∧ (let s := withCommand ((queued 1).setSeq { (queued 1).seq with preVoid := 3 }) (.job 5 7 8 [])
       seqDistance 5 s.seq.expected = 3 ∧ ¬(s.seq.queue.length + 3 < 4)
       ∧ (next? (exec .job s)).map (fun t => (t.seq.queue.map fun e => e.voided, t.seq.preVoid))
           = some ([none, some .missed, some .peerVoid, some .missed], 0)
       ∧ (next? (exec .job s)).map (fun t => (t.link.voidQueue, t.report.queue))
           = some ([⟨2, .missed⟩, ⟨4, .missed⟩], [.label (refusalRecord 5 .queueFull)]))
    ∧ seqDistance 32770 (queued 1).seq.expected = 32768 ∧ seqDistance 32769 (queued 1).seq.expected = 32767 := by
  decide +kernel

/-- R8 and R139 with the VOID queue at 3: one VOID joins it, the next is dropped. -/
theorem test_gap_drops :
    let s := withCommand (queued 1) (.job 4 7 8 [])
    let s := s.setLink { s.link with voidQueue := [⟨90, .hot⟩, ⟨91, .hot⟩, ⟨92, .hot⟩] }
    4 < s.link.voidQueue.length + 2
    ∧ (next? (exec .job s)).map (fun t => (t.link.voidQueue.length, t.link.counts.dropped,
        Cond.framesDropped.isIn t.report.values)) = some (4, 1, true) := by decide +kernel

theorem test_JobNotQueued :
    (queued 1).station = .active ∧ (queued 1).seq.queue ≠ [] ∧ seqDistance 32770 (queued 1).seq.expected = 32768
    ∧ (queued 4).seq.queue.length = 4 ∧ seqDistance 32772 (queued 4).seq.expected = 32767
    ∧ (queued 4).report.queue.length < 8
    ∧ (let s : State := { queued 4 with ctxA := jobCtx .loading }
       ∀ e ∈ s.seq.queue.head?, s.headHeld e = true)
    ∧ (let s : State := { queued 4 with ctxA := { jobCtx .running with seq := 9 }, ctxB := { jobCtx .ending with seq := 8 } }
       s.ctxA.state ≠ .free ∧ s.ctxB.state ≠ .free
       ∧ (next? (exec .job (withCommand s (.job 5 7 8 [])))).map (fun t => (t.link.commandQueue, t.report.queue))
           = some ([], [.label (refusalRecord 5 .queueFull)]))
    ∧ (withCommand (act.setStation .unset) (.job 0 7 8 [])).link.commandQueue = [.job 0 7 8 []]
    ∧ (act.setStation .outside).station = .outside
    ∧ (next? (exec .job (withCommand (queued 1) (.job 32770 7 8 [])))).map (fun t => t.link.counts.stale) = some 1
    ∧ (next? (exec .job (withCommand (act.setStation .unset) (.job 4 7 8 [])))).map (fun t => t.report.queue)
        = some [.label (refusalRecord 4 .notSetUp)] := by
  decide +kernel

theorem test_CancelMarks :
    (let s := withCommand flying (.cancel 1)
     s.station = .active ∧ s.labelHeld 1 = true ∧ s.plan = some plan1 ∧ plan1.step.stage = .strobe
     ∧ s.ctxA.holds 1 = true)
    ∧ (withCommand flying (.cancel 9)).labelHeld 9 = false
    ∧ (next? (exec .cancel (withCommand flying (.cancel 1)))).map (fun t => (t.ctxA.cancelled, t.plan.map Plan.stopping))
        = some (true, some true)
    ∧ (loading.ctx .a).seq = 1 ∧ (loading.ctx .a).state = .loading ∧ loading.loader = some (Load.start .a 7)
    ∧ (next? (exec .cancel (withCommand (holding loading) (.cancel 1)))).map (fun t =>
        (t.loader, t.store.holdLoader, t.ctxA.cancelled)) = some (none, false, true)
    ∧ (let s : State := { loading with ctxB := { jobCtx .running with seq := 9 } }
       s.labelHeld 9 = true ∧ (∀ e ∈ s.seq.queue.head?, s.headHeld e = true)
       ∧ s.ctxA.holds 9 = false ∧ s.ctxA.state ≠ .free
       ∧ (next? (exec .cancel (withCommand s (.cancel 9)))).map (fun t => (t.loader, t.ctxA)) = some (s.loader, s.ctxA))
    ∧ (let s : State := { queued 1 with ctxB := { jobCtx .running with seq := 9 } }
       s.ctxA.holds 9 = false ∧ s.ctxA.state = .free
       ∧ (next? (exec .cancel (withCommand s (.cancel 9)))).map (fun t => (t.ctxA.state, t.ctxA.seq))
           = some (.loading, 1)) := by
  decide +kernel

theorem test_CancelAllMarks :
    (withCommand flying (.cancel 0)).link.commandQueue = [.cancel 0] ∧ flying.ctxA.state ≠ .free
    ∧ (next? (exec .cancelAll (withCommand flying (.cancel 0)))).map (fun t => t.ctxA.cancelled) = some true
    ∧ (next? (exec .cancelAll (withCommand (holding loading) (.cancel 0)))).map (fun t => (t.loader, t.store.holdLoader))
        = some (none, false)
    ∧ (let s := withCommand (act.setStation .unset) (.cancel 0)
       (next? (exec .cancelAll s)).map (fun t => t.link.commandQueue) = some []) := by
  decide +kernel

theorem test_VoidMarks :
    (hearing flying).link.canReceive = true ∧ (0#4).toNat = flying.number ∧ flying.labelHeld 1 = true
    ∧ (running.labelHeld 2 = false ∧ running.seq.queue = [] ∧ running.seq.lc ≠ 0 ∧ 2 = nextSeq running.seq.lc)
    ∧ running.labelHeld 3 = false ∧ 3 ≠ nextSeq running.seq.lc
    ∧ (next? (exec (.void 15 1 1 8) (hearing flying))).map (fun t => t.ctxA.voided) = some (some .peerVoid)
    ∧ (next? (exec (.void 15 1 2 8) (hearing running))).map (fun t => t.seq.preVoid) = some 2
    ∧ (next? (exec (.void 15 1 1 8) (hearing (holding loading)))).map (fun t => (t.loader, t.store.holdLoader))
        = some (none, false) := by decide +kernel

/-- Row 0 of label 1 in its latch: Running, and in Ending with the report queue's record. -/
theorem test_RowEndsAtOnce :
    let s := flyingAt { phase := 0, boost := none, stage := .latch }
    let e := s.setCtxA { s.ctxA with state := .ending, h := some 1 }
    s.plan.isSome = true ∧ s.ring.firing.isSome = true ∧ s.runningLabelCtx 1 = some .a ∧ e.runningLabelCtx 1 = some .a
    ∧ (next? (exec .cancel (withCommand s (.cancel 1)))).map (fun t => (t.plan, t.ctxA.completed, t.ctxA.miss,
        t.ring.history.map Slot.seq)) = some (none, 1, 1, [1])
    ∧ (next? (exec .cancelAll (withCommand e (.cancel 0)))).map (fun t => t.ctxA.state) = some .free
    ∧ outcomes (exec .cancelAll (withCommand e (.cancel 0))) = [(.cancelled, none, 1)]
    ∧ outcomes (exec (.void 15 1 1 8) (hearing e)) = [(.voided, some .peerVoid, 1)]
    ∧ outcomes (exec (.conversionComplete 70) e) = [(.voided, some .hot, 1)] := by decide +kernel

/-! ## Top of form -/

theorem test_TofStartsArmed :
    (headIn .armed).seq.queue = jobEntry 1 7 8 [] :: [] ∧ (headIn .armed).ctxA.state = .armed
    ∧ (headIn .armed).ctxA.seq = 1 ∧ (headIn .armed).ctxB.state = .free ∧ (headIn .armed).thermal.hot = false
    ∧ (let s := (headIn .armed).setThermal { act.thermal with hot := true }
       s.labelVoided 1 = false ∧ s.link.voidQueue.length < 4)
    ∧ (next? (exec .topOfForm (headIn .armed))).map (fun t => (t.seq.lc, t.ctxA.state)) = some (1, .running)
    ∧ (let s := (headIn .armed).setThermal { act.thermal with hot := true }
       (next? (exec .topOfForm (s.setCtxA { s.ctxA with voided := some .peerVoid }))).map (fun t =>
         (t.ctxA.voided, t.link.voidQueue)) = some (some .peerVoid, [])) := by
  decide +kernel

theorem test_TofStartsBlank :
    (headIn .loading).ctxA.state = .loading ∧ (headIn .loading).labelVoided 1 = false
    ∧ (let s := act.setSeq { act.seq with lc := 65535, preVoid := 1 }
       s.seq.queue = [] ∧ s.ctxA.state = .free ∧ s.ctxB.state = .free ∧ s.seq.preVoid = nextSeq s.seq.lc)
    ∧ (next? (exec .topOfForm (headIn .loading))).map (fun t => (t.ctxA.voided, t.link.voidQueue))
        = some (some .notArmed, [⟨1, .notArmed⟩])
    ∧ (next? (exec .topOfForm (act.setSeq { act.seq with lc := 65535 }))).map (fun t => (t.seq.lc, t.ctxA.voided))
        = some (1, some .noJob)
    ∧ running.seq.queue = [] ∧ running.runningCtx = some .a ∧ running.ctxB.state = .free
    ∧ (next? (exec .topOfForm running)).map (fun t => (t.ctxA.seq, t.ctxA.voided, t.ctxB.state))
        = some (2, some .noJob, .free)
    ∧ (next? (exec .topOfForm flying)).map (fun t => (t.ctxA.state, t.ctxB.seq, t.ctxB.voided))
        = some (.ending, 2, some .noJob)
    ∧ (let s := { running with ctxB := { jobCtx .ending with seq := 9 } }
       (next? (exec .topOfForm s)).map (fun t => (t.ctxA.seq, t.ctxB.seq)) = some (2, 9)) := by decide +kernel

/-- A head already Voided keeps its reason and sends no VOID, as a placeholder does; a VOID at a full queue is dropped
and counted; and a head that no record was Free to arm, unmarked and voided. -/
theorem test_TofStartsBlank_voided :
    let held := (headIn .loading).setCtxA { (headIn .loading).ctxA with kind := .placeholder, voided := some .missed }
    let full := (headIn .loading).setLink { act.link with
      voidQueue := [⟨9, .hot⟩, ⟨10, .hot⟩, ⟨11, .hot⟩, ⟨12, .hot⟩] }
    let unheld := fun v => { running with
      seq := { running.seq with queue := [{ jobEntry 2 7 8 [] with voided := v }] }
      ctxA := { jobCtx .running with h := none }, ctxB := { jobCtx .ending with seq := 9 } }
    held.ctxA.voided ≠ none ∧ (unheld none).labelVoided 2 = false
    ∧ (next? (exec .topOfForm held)).map (fun t => (t.ctxA.state, t.ctxA.voided, t.link.voidQueue))
        = some (.running, some .missed, [])
    ∧ (next? (exec .topOfForm full)).map (fun t => (t.ctxA.voided, t.link.voidQueue.length, t.link.counts.dropped))
        = some (some .notArmed, 4, 1)
    ∧ (next? (exec .topOfForm (unheld none))).map (fun t => (t.ctxA.seq, t.ctxA.voided, t.link.voidQueue))
        = some (2, some .notArmed, [⟨2, .notArmed⟩])
    ∧ (next? (exec .topOfForm (unheld (some .peerVoid)))).map (fun t => (t.ctxA.seq, t.ctxA.voided, t.link.voidQueue))
        = some (2, some .peerVoid, []) := by decide +kernel

/-- R10, R14 and R29: the TOF that consumes the pre-void seq clears it, one ahead of Lc stays, and a blank label starts
in the Free record beside a label in Ending. -/
theorem test_TofStartsBlank_preVoid :
    let s := fun v => { flying with ctxA := { flying.ctxA with state := .ending }, seq := { flying.seq with preVoid := v } }
    (s 2).seq.queue = [] ∧ (s 2).seq.lc ≠ 0 ∧ (s 2).ctxA.seq ≠ nextSeq (s 2).seq.lc ∧ (s 2).ctxB.state = .free
    ∧ (next? (exec .topOfForm (s 2))).map (fun t => (t.seq.lc, t.seq.preVoid, t.ctxA.state, t.ctxB.voided))
        = some (2, 0, .ending, some .peerVoid)
    ∧ (next? (exec .topOfForm (s 0))).map (fun t => (t.ctxB.seq, t.ctxB.voided, t.link.voidQueue))
        = some (2, some .noJob, [⟨2, .noJob⟩])
    ∧ (next? (exec .topOfForm (s 5))).map (fun t => t.seq.preVoid) = some 5 := by decide +kernel

/-- R28 for a head that no context holds: labels 8 and 9 occupy the two records, label 9 running. -/
theorem test_tof_unheld :
    let s : State := { queued 1 with ctxA := { jobCtx .running with seq := 9 }, ctxB := { jobCtx .ending with seq := 8 } }
    s.seq.queue = jobEntry 1 7 8 [] :: [] ∧ s.ctxB.seq ≠ 1 ∧ s.plan = none ∧ s.labelVoided 1 = false
    ∧ (next? (exec .topOfForm s)).map (fun t => (t.seq.lc, t.ctxA.seq, t.ctxA.voided, t.ctxB.seq))
        = some (1, 1, some .notArmed, 8) := by decide +kernel

theorem test_TofEndsRunning :
    flying.runningCtx = some .a ∧ flying.seq.lc ≠ 0 ∧ flying.report.queue.length < 8 ∧ flying.ctxA.h ≠ none
    ∧ flying.plan = some plan1 ∧ plan1.seq = flying.ctxA.seq ∧ nextSeq flying.seq.lc ≠ flying.ctxA.seq
    ∧ running.plan = none ∧ running.runningCtx = some .a
    ∧ (running.setCtxA { running.ctxA with h := none }).runningCtx = some .a
    ∧ act.seq.lc = 0 ∧ act.seq.queue = [] ∧ State.reset.station ≠ .active
    ∧ (next? (exec .topOfForm flying)).map (fun t => (t.ctxA.state, t.ctxA.truncated)) = some (.ending, true)
    ∧ (let lead := [{ state := .rendered, seq := 1, row := some 1, image := 7, demand := 3, fired := 0 }, renderingSlot 1 2]
       (next? (exec .topOfForm (flying.setRing { flying.ring with lead := lead }))).map (fun t =>
        t.ring.lead.map fun x => (x.seq, x.row)) = some [(1, some 2), (2, some 0)]) := by
  decide +kernel

/-! ## Loads and renders -/

/-- `loading` over a store with a form of one box. -/
def stored : State :=
  loading.setStore { loading.store with
    memory := [(64, 0), (65, 10), (66, 1), (67, 1), (68, 0), (69, 0), (70, 0), (71, 0), (72, 0), (73, 0), (74, 0),
               (75, 4), (76, 0), (77, 4), (78, 0)]
    catalog := [{ formEntry with length := 15 }] }

/-- The state after the commands, one after the other. -/
def after (s : State) : List Instr → Option State
  | [] => some s
  | c :: cs => (next? (exec c s)).bind fun t => after t cs

/-- `loading` and `stored` with the form looked up, and `stored` with the form read. -/
def lookedUp (s : State) : State := (after s [.storeReadRequest .loader .lookup]).getD s
def formRead : State := (after stored [.storeReadRequest .loader .lookup, .storeReadRequest .loader .read]).getD stored

theorem test_LoadCompletes :
    loading.loader = some (Load.start .a 7) ∧ (Load.start .a 7).status = .lookup 7
    ∧ (lookedUp loading).loader.map Load.status = some (.failed .missingObject)
    ∧ loading.ctxA.state ≠ .free ∧ loading.labelVoided 1 = false ∧ loading.link.voidQueue.length < 4
    ∧ (next? (exec .loadComplete (lookedUp loading))).map (fun t => (t.ctxA.voided, t.link.voidQueue))
        = some (some .missingObject, [⟨1, .missingObject⟩])
    ∧ (lookedUp stored).loader.map Load.status = some (.read 7)
    ∧ (next? (exec .loadComplete (lookedUp stored))).map (fun t => t.ctxA.h) = some (some 10)
    ∧ formRead.loader.map Load.status = some .done ∧ formRead.store.holdLoader = true
    ∧ formRead.store.waitLoader = false ∧ formRead.loader.map Load.lookupWaits = some false
    ∧ (next? (exec .loadComplete formRead)).map (fun t => (t.ctxA.h, t.ctxA.table.length, t.loader, t.store.holdLoader))
        = some (some 10, 1, none, false) := by
  decide +kernel

/-- A failed load voids its label's entry in the queue as its context, and no other; of a voided label it changes
nothing (R11, R22). -/
theorem test_LoadCompletes_marks :
    let s := lookedUp { loading with seq := { loading.seq with queue := [jobEntry 1 7 8 [], jobEntry 2 7 8 []] } }
    let v := s.setCtxA { s.ctxA with voided := some .peerVoid }
    s.labelVoided 1 = false ∧ v.labelVoided 1 = true
    ∧ (next? (exec .loadComplete s)).map (fun t => (t.seq.lc, t.seq.queue.map JobEntry.voided))
        = some (0, [some .missingObject, none])
    ∧ (next? (exec .loadComplete v)).map (fun t => (t.ctxA.voided, t.link.voidQueue, t.loader))
        = some (some .peerVoid, [], none) := by decide +kernel

/-- Row 1 of label 1 rendering: a graphic of three columns at the label's corner, read under the rasterizer's hold. -/
def rendering : State :=
  { headIn .loading with
    ctxA := { jobCtx .loading with h := some 2, rendered := 1 }
    raster := { rendering := some { ctx := .a, seq := 1, row := 1, drawn := true, reads := true, cut := false },
                position := some { ctx := .a, row := 1 }, pending := [],
                active := [{ entry := entryOf (.graphic ⟨7, 1⟩ 8 2), cursor := 1 }] }
    ring := { act.ring with lead := [renderingSlot 1 1] }
    store := { act.store with
      memory := [(64, 0), (65, 8), (66, 0), (67, 2), (68, 0), (69, 224)]
      catalog := [{ formEntry with kind := .graphic, length := 6 }], holdRaster := true } }

theorem test_RenderCompletes :
    rendering.raster.rendering = some { ctx := .a, seq := 1, row := 1, drawn := true, reads := true, cut := false }
    ∧ rendering.store.holdRaster = true ∧ rendering.store.waitRaster = false ∧ rendering.ctxA.seq = 1
    ∧ rendering.ctxA.state = .loading
    ∧ (rendering.setCtxA { rendering.ctxA with state := .running, taken := 2 }).ctxA.taken = 2
    ∧ (next? (exec .renderComplete rendering)).map (fun t =>
        (t.ctxA.state, t.ctxA.rendered, t.link.demand.map DemandFrame.demands, t.lines.rdyReleased))
        = some (.armed, 2, some [3], true)
    ∧ (next? (exec .renderComplete rendering)).map (fun t => (t.ring.lead.map Slot.image, t.store.holdRaster))
        = some ([7], false)
    ∧ (let s := rendering.setStore { rendering.store with holdRaster := false }
       (next? (exec .renderComplete s)).map (fun t => t.ctxA.rendered) = some 1)
    ∧ (let s := rendering.setCtxA { rendering.ctxA with state := .running, taken := 2 }
       (next? (exec .renderComplete s)).map (fun t => (t.ring.lead, t.ctxA.rendered)) = some ([], 1)) := by
  decide +kernel

/-- R28 and R64: a TOF that starts the label of a render in progress blank cuts off the reads that are not served;
the row then completes without a hold and without its graphic. A read served before is kept. -/
theorem test_cutReads :
    let asked := { rendering with store := { rendering.store with
      holdRaster := true, waitRaster := true, phase := .suspending, serving := some (.data [15]),
      current := some (.line 33082 [15]) } }
    rendering.ctxA.state = .loading ∧ rendering.labelVoided 1 = false
    ∧ (next? (exec .topOfForm asked)).map (fun t => (t.raster.rendering.map fun r => [r.reads, r.cut], t.store.waitRaster))
        = some (some [false, true], false)
    ∧ (after asked [.topOfForm, .renderComplete]).map (fun t => (t.ring.lead.map Slot.image).headD 9) = some 0
    ∧ (after rendering [.topOfForm, .renderComplete]).map (fun t => (t.ring.lead.map Slot.image).headD 9) = some 7 := by
  decide +kernel

/-! ## Row pulses and plans -/

theorem test_RowPulseTimesAndGaps :
    act.station = .active ∧ act.plan = none ∧ act.runningCtx = none ∧ State.reset.station ≠ .active
    ∧ (next? (exec (.rowPulse 7) (act.setTimer { act.timer with seen := true }))).map (fun t =>
        (t.timer.tPred, t.ring.history)) = some (7, [gapRecord])
    ∧ (after act [.lineQuiet, .rowPulse 3]).map (fun t => t.link.quiet) = some 22
    ∧ (next? (exec (.rowPulse 4) (act.setLink { act.link with quiet := 16 }))).map (fun t => t.link.quiet) = some 24
    ∧ (next? (exec (.rowPulse 9) act)).map (fun t => t.link.quiet) = some 15 := by decide +kernel

/-- `s` with a full VOID queue. -/
def voidsFull (s : State) : State :=
  s.setLink { s.link with voidQueue := [⟨9, .hot⟩, ⟨10, .hot⟩, ⟨11, .hot⟩, ⟨12, .hot⟩] }

theorem test_RowsWithoutPlan :
    running.plan = none ∧ running.runningCtx = some .a ∧ running.runningLabelCtx 1 = some .a
    ∧ running.ctxA.taken < running.ctxA.h.getD 4800
    ∧ (let s := running.setRing act.ring
       s.ring.findRow 1 0 = none ∧ s.labelVoided 1 = false ∧ s.link.voidQueue.length < 4
       ∧ (next? (exec (.rowPulse 100) (voidsFull s))).map (fun t => (t.ctxA.voided, t.link.voidQueue.length,
           t.link.counts.dropped)) = some (some .lateRow, 4, 1)
       ∧ (next? (exec (.rowPulse 100) (s.setCtxA { s.ctxA with voided := some .hot }))).map (fun t =>
           (t.ctxA.voided, t.ctxA.completed, t.link.voidQueue)) = some (some .hot, 1, []))
    ∧ (let s := running.setCtxA { running.ctxA with h := none, taken := 5 }
       s.ctxA.h = none ∧ 5 ≤ s.ctxA.taken ∧ s.runningCtx = some .a ∧ s.ctxA.taken + 1 < s.ctxA.h.getD 4800)
    ∧ (running.ring.findRow 1 0).isSome = true
    ∧ (let s := running.setCtxA { running.ctxA with cancelled := true }
       s.ctxA.cancelled = true ∧ s.runningLabelCtx 1 = some .a) := by decide +kernel

/-- `running` at its label's last row: row 0 of height 1, and row 4,799 of a label of unknown height. -/
def runningOne : State := running.setCtxA { running.ctxA with h := some 1 }

def runningOpen : State :=
  running.setCtxA { running.ctxA with h := none, taken := 4799, completed := 4799, voided := some .notArmed }

/-- The last rows of a cancelled label, of an unmarked label whose row is late, and of a label of unknown height. -/
theorem test_RowsWithoutPlan_last :
    runningOne.ctxA.taken + 1 = runningOne.ctxA.h.getD 4800 ∧ runningOpen.ctxA.taken + 1 = runningOpen.ctxA.h.getD 4800
    ∧ runningOpen.runningLabelCtx 1 = some .a
    ∧ outcomes (exec (.rowPulse 100) (runningOne.setCtxA { runningOne.ctxA with cancelled := true }))
        = [(.cancelled, none, 1)]
    ∧ outcomes (exec (.rowPulse 100) (runningOne.setRing act.ring)) = [(.voided, some .lateRow, 1)]
    ∧ outcomes (exec (.rowPulse 100) runningOpen) = [(.voided, some .notArmed, 4800)]
    ∧ (next? (exec (.rowPulse 100) runningOpen)).map (fun t => t.ctxA.state) = some .free := by decide +kernel

theorem test_RowFires :
    running.station = .active ∧ running.ctxA.voided = none ∧ running.ctxA.cancelled = false
    ∧ running.thermal.hot = false ∧ (running.ring.findRow 1 0).map Slot.demand = some 3
    ∧ 256 ≤ running.setup.p ∧ 1 ≤ running.setup.n ∧ running.setup.n ≤ 4
    ∧ (next? (exec (.rowPulse 1) running)).map (fun t => (t.plan.map Plan.trim, t.head.shifting, t.ctxA.taken))
        = some (some 0, some 7, 1) := by decide +kernel

theorem test_RowPulseCuts :
    flying.plan = some plan1 ∧ flying.ring.firing.isSome = true ∧ plan1.stopping = false
    ∧ flying.runningLabelCtx 1 = some .a ∧ plan1.step.boost = none ∧ flying.labelVoided 1 = false
    ∧ flying.runningCtx = some .a ∧ flying.ctxA.taken + 1 < flying.ctxA.h.getD 4800
    ∧ (next? (exec (.rowPulse 1) flying)).map (fun t => (t.thermal.hold, t.link.voidQueue.head?, t.ctxA.voided))
        = some (32, some ⟨1, .firedShort⟩, some .firedShort)
    ∧ (let s := flyingAt { phase := 0, boost := some 0, stage := .strobe }
       s.runningCtx = some .a ∧ ¬(0 + 1 < plan1.phases.length)
       ∧ (next? (exec (.rowPulse 1) s)).map (fun t => (t.ctxA.light, t.ctxA.trimmed)) = some (true, 1)
       ∧ (next? (exec (.rowPulse 1) s)).map (fun t => (t.ctxA.voided, t.link.voidQueue))
           = some (some .lateRow, [⟨1, .lateRow⟩])) := by
  decide +kernel

/-- R127 and R128 for a row of a marked label: no VOID, the mark and the counts kept, the hold count by the plan's trim. -/
theorem test_cut_marked :
    let cut := fun (trim : Nat) => { flying with
      ctxA := { flying.ctxA with voided := some .peerVoid }, plan := some { plan1 with trim := trim, stopping := true },
      thermal := { flying.thermal with hold := 5 } }
    let result := fun (s : State) => (next? (exec (.rowPulse 1) s)).map fun t =>
      (t.link.voidQueue, t.ctxA.voided, t.ctxA.trimmed, t.thermal.hold)
    (cut 0).ctxA.voided ≠ none ∧ (cut 0).runningCtx = some .a ∧ (cut 0).ctxA.taken + 1 < (cut 0).ctxA.h.getD 4800
    ∧ result (cut 0) = some ([], some .peerVoid, 0, 4) ∧ result (cut 2) = some ([], some .peerVoid, 1, 32)
    ∧ (let s := (cut 0).setCtxA { (cut 0).ctxA with state := .ending }
       s.runningLabelCtx 1 = some .a ∧ s.ctxA.state = .ending ∧ s.report.queue.length < 8) := by decide +kernel

/-- R35 and R36 for a cut row in Ending: boosts lost give Light, a lost main pulse gives Voided with Fired short. -/
theorem test_cut_ending :
    let ending := fun (st : FiringStep) => (flyingAt st).setCtxA { flying.ctxA with state := .ending }
    let boost := ending { phase := 0, boost := some 0, stage := .strobe }
    let main := ending { phase := 0, boost := none, stage := .strobe }
    let outcome := fun s => (next? (exec (.rowPulse 1) s)).map fun t => t.report.queue.map fun r => match r with
      | .label l => some (l.outcome, l.reason)
      | .store _ | .ident _ => none
    boost.ctxA.state = .ending ∧ boost.runningLabelCtx 1 = some .a ∧ boost.report.queue.length < 8
    ∧ outcome boost = some [some (.light, none)] ∧ outcome main = some [some (.voided, some .firedShort)] := by
  decide +kernel

/-- Label 1 in Ending with its last row in a boost pulse, label 2 Running, and the given queue. -/
def lastRow (q : List JobEntry) : State :=
  { flyingAt { phase := 0, boost := some 0, stage := .strobe } with
    ctxA := { flying.ctxA with state := .ending }, ctxB := { jobCtx .running with seq := 2 }
    seq := { lc := 2, queue := q, preVoid := 0 } }

def reportsFull (s : State) : State :=
  s.setReport { s.report with queue := List.replicate 8 (.store ⟨.data, 9, .done, 1, 0⟩) }

/-- The seq in context A, the report queue's length and Reports dropped after a command. -/
def leavesA (c : Instr) (s : State) : Option (Nat × Nat × Bool) :=
  (next? (exec c s)).map fun t => (t.ctxA.seq, t.report.queue.length, Cond.reportsDropped.isIn t.report.values)

/-- R34, R37 and R21: a label in Ending completes at its last pulse and at a cut; its context takes the queue's head,
or is Free with the queue empty, and a full report queue drops the label's record. -/
theorem test_ending_completes :
    plan1.step.stage = .strobe ∧ (lastRow []).runningLabelCtx 1 = some .a ∧ (lastRow []).ctxA.state = .ending
    ∧ leavesA .boostPulseComplete (lastRow []) = some (0, 1, false)
    ∧ leavesA .boostPulseComplete (lastRow [jobEntry 3 7 8 []]) = some (3, 1, false)
    ∧ leavesA .boostPulseComplete (reportsFull (lastRow [])) = some (0, 8, true)
    ∧ leavesA (.rowPulse 1) (lastRow [jobEntry 3 7 8 []]) = some (3, 1, false)
    ∧ leavesA (.rowPulse 1) (reportsFull (lastRow [])) = some (0, 8, true)
    ∧ (next? (exec (.rowPulse 1) (lastRow []))).map (fun t => t.ctxA.state) = some .free := by decide +kernel

theorem test_PlanGoesOn :
    (flyingAt { phase := 0, boost := none, stage := .load }).plan
        = some { plan1 with step := { phase := 0, boost := none, stage := .load } }
    ∧ (flyingAt { phase := 0, boost := none, stage := .latch }).plan.isSome = true
    ∧ plan1.phases[0]?.map (fun ph => ph.boosts.length) = some 1
    ∧ (next? (exec .mainPulseComplete flying)).map (fun t => (t.plan.map Plan.step, t.plan.map Plan.fired))
        = some (some { phase := 0, boost := some 0, stage := .load }, some 7)
    ∧ (next? (exec .mainPulseComplete flying)).map (fun t => t.head.shifting) = some (some 1)
    ∧ (let two := { plan1 with phases := [{ main := 7, boosts := [] }, { main := 24, boosts := [] }] }
       (next? (exec .mainPulseComplete (flying.setPlan (some two)))).map (fun t => t.head.shifting) = some (some 24)) := by
  decide +kernel

theorem test_PulseEndsRow :
    plan1.phases.length ≤ 0 + 1 ∧ plan1.phases.map (fun ph => ph.boosts.length) = [1]
    ∧ (next? (exec .boostPulseComplete (flyingAt { phase := 0, boost := some 0, stage := .strobe }))).map (fun t =>
        (t.plan, t.ctxA.completed, t.ctxA.miss, t.ring.history.length)) = some (none, 1, 1, 1)
    ∧ (next? (exec .mainPulseComplete (flying.setPlan (some { plan1 with stopping := true })))).map (fun t => t.plan)
        = some none := by decide +kernel

/-! ## Temperature, SLW, SETUP, QUERY and CLEAR -/

theorem test_ReadingsAndSlw :
    (next? (exec (.conversionComplete 70) flying)).map (fun t =>
        (t.thermal.warm, t.thermal.hot, t.ctxA.voided, t.lines.slwAsserted)) = some (true, true, some .hot, true)
    ∧ (next? (exec (.conversionComplete 200) State.reset)).map (fun t => t.thermal.t) = some 100
    ∧ act.thermal.hold = 0 ∧ flying.labelVoided 1 = false ∧ flying.ctxA.h ≠ none
    ∧ (act.setThermal { act.thermal with hold := 32 }).thermal.hold ≠ 0
    ∧ (act.setStation .outside).station = .outside := by decide +kernel

/-- R131 for labels in Ending and in Running: a row in its load ends at once with its label; the VOIDs in order. -/
theorem test_hotEnding :
    let s : State := { flyingAt { phase := 0, boost := none, stage := .load } with
      ctxA := { flying.ctxA with state := .ending }, ctxB := { jobCtx .running with seq := 2 } }
    s.runningLabelCtx plan1.seq = some .a ∧ s.labelVoided 1 = false ∧ s.labelVoided 2 = false ∧ s.thermal.hot = false
    ∧ (next? (exec (.conversionComplete 70) s)).map (fun t => (t.link.voidQueue, t.ctxB.voided, t.plan))
        = some ([⟨1, .hot⟩, ⟨2, .hot⟩], some .hot, none)
    ∧ (next? (exec (.conversionComplete 70) s)).map (fun t => t.report.queue.map fun r => match r with
        | .label l => some (l.seq, l.outcome, l.reason)
        | .store _ | .ident _ => none) = some [some (1, .voided, some .hot)] := by decide +kernel

theorem test_SetupTaken :
    (let s := withCommand (State.reset.setStation .unset) (.setup 1 0 0 0 0 0 25 0 0)
     s.station = .unset ∧ s.ctxA = Context.free ∧ s.seq.queue = [] ∧ s.plan = none)
    ∧ (next? (exec .setup (withCommand (State.reset.setStation .unset) (.setup 1 0 9999 99 0 0 99 0 0)))).map (fun t =>
        (t.station, t.setup.p, t.setup.bm, t.setup.ka, t.setup.tSlow, t.setup.tStop))
        = some (.active, 256, 1500, 63, 85, 90)
    ∧ (withCommand act (.setup 1 0 0 0 0 0 25 0 0)).station = .active := by decide +kernel

theorem test_QueryAndClear :
    (next? (exec .query (withCommand act .query))).map (fun t => t.report.queue.length) = some 1
    ∧ (next? (exec .clear (withCommand (act.setReport { act.report with values := 127 }) .clear))).map (fun t =>
        (t.report.values, t.report.latches, t.report.pending)) = some (7, 120, true) := by decide +kernel

/-- R173: a change sets the latch and, by the mask, the slot; the same value again changes nothing. -/
theorem test_setCond :
    let hot := setCond act .hot true
    let unmasked := setCond (act.setSetup { act.setup with mask := 1 }) .hot true
    (hot.report.values, hot.report.latches, hot.report.pending, hot.link.tx.state) = (2, 2, true, .deferring)
    ∧ (unmasked.report.latches, unmasked.report.pending, unmasked.link.tx.state) = (2, false, .idle)
    ∧ setCond hot .hot true = hot ∧ Cond.hot.isIn act.report.values = false := by decide +kernel

/-! ## The link -/

/-- A QUERY of the control station for station 0. -/
def queryFrame : RxFrame := checkedFrame 14 17 []

theorem test_FramesRouted :
    (hearing act).link.canReceive = true ∧ queryFrame.payload.length ≤ 480
    ∧ queryFrame.check = checkOf (14 :: 17 :: be16 0 ++ []) ∧ queryFrame.address.toNat / 16 = act.number
    ∧ parsePayload 17 [] = some (.command .query) ∧ parsePayload 19 [] = none
    ∧ parsePayload 0x33#8 [7] = some (.store (.delete 7)) ∧ parsePayload 0x50#8 [1] = some .ignored
    ∧ (act.setLink { act.link with commandQueue := [.query, .query, .query, .query] }).link.commandQueue.length = 4
    ∧ (next? (exec (.frameAccepted queryFrame) (hearing act))).map (fun t => (t.link.commandQueue, t.link.receiver))
        = some ([.query], .ready)
    ∧ (next? (exec (.frameAccepted { queryFrame with check := 0 }) (hearing act))).map (fun t => t.link.counts.badFrames)
        = some 1
    ∧ (next? (exec (.frameAccepted queryFrame) act)).map (fun t => t.link.commandQueue) = some [] := by decide +kernel

theorem test_ReceiverEvents :
    act.link.tx.state ≠ .sending ∧ act.link.tx.state ≠ .jamming ∧ act.link.receiver ≠ .receiving
    ∧ (next? (exec (.frameReceiveError (.lengthAbove480 2#3)) (hearing act))).map (fun t =>
        (t.link.receiver, t.link.quiet, t.link.counts.badFrames)) = some (.ignoring, 2, 1)
    ∧ (next? (exec (.frameReceiveError .stuffDominant) (hearing act))).map (fun t =>
        (t.link.receiver, t.link.quiet, t.link.counts.badFrames)) = some (.ignoring, 8, 0)
    ∧ (next? (exec .lineQuiet (hearing act))).map (fun t =>
        (t.link.receiver, t.link.quiet, t.link.counts.badFrames)) = some (.ready, 16, 1)
    ∧ (next? (exec .frameBegins (act.setLink { act.link with quiet := 16 }))).map (fun t => t.link.receiver)
        = some .receiving
    ∧ (next? (exec .frameBegins (act.setLink { act.link with quiet := 15 }))).map (fun t => t.link.receiver)
        = some .ready := by decide +kernel

theorem test_DemandEntered :
    (15#4 : BitVec 4) = 15#4 ∧ (hearing act).link.canReceive = true
    ∧ (next? (exec (.demand 15 1 2 0 [700, 0, 1, 2]) (hearing running))).map (fun t =>
        t.peers.map fun p => p.entries)
        = some [[⟨2, 0, 640⟩, ⟨2, 1, 0⟩, ⟨2, 2, 1⟩, ⟨2, 3, 2⟩]]
    ∧ enterDemand false [] ⟨1, 4799, 1⟩ = [⟨1, 4799, 1⟩] ∧ enterDemand false [] ⟨1, 4800, 1⟩ = []
    ∧ enterDemand false [⟨1, 3, 9⟩] ⟨1, 3, 1⟩ = [⟨1, 3, 1⟩] ∧ enterDemand true [] ⟨1, 3, 1⟩ = [] := by decide +kernel

/-- Label 1 in Running with two rows announced by a frozen frame, a VOID waiting, and the transmitter in the given
state with the quiet count at 24. -/
def sending (st : TxState) (h : Option InHand) (n : Nat) : State :=
  running.setLink { running.link with
    quiet := 24, tx := { state := st, inHand := h, attempts := n }, voidQueue := [⟨1, .hot⟩],
    demand := some ⟨1, 0, [3, 4], true⟩ }

/-- The same with no VOID waiting, the label's first `n` rows taken and row 2 in the backlog. -/
def sendingDemand (st : TxState) (h : Option InHand) (attempts taken : Nat) : State :=
  let s := sending st h attempts
  { s with ctxA := { s.ctxA with taken := taken }
           link := { s.link with voidQueue := [], backlog := [⟨1, 2, 5⟩] } }

/-- Whether the DEMAND is in hand in the next state, and the pending frame's first row and demands. -/
def inHand? (o : Host.Outcome State Fault Refusal) : Option (Bool × Option (List Nat)) :=
  (next? o).map fun t => (decide (t.link.tx.inHand = some .demand), t.link.demand.map fun f => f.first :: f.demands)

/-- R136: after a collision's fragment the line is dominant; it is not quiet before 16 bit times after its rise. -/
theorem test_heldLine :
    (after (hearing act) [.frameReceiveError .stuffDominant, .rowPulse 3000]).map (fun t => (t.link.held, t.link.quiet))
        = some (true, 24)
    ∧ (after (hearing act) [.frameReceiveError .stuffDominant, .rowPulse 3000, .frameBegins]).map (fun t =>
        (t.link.held, t.link.quiet, t.link.receiver)) = some (false, 0, .ignoring)
    ∧ (after (hearing act) [.frameReceiveError .stuffDominant, .rowPulse 3000, .lineQuiet]).map (fun t =>
        (t.link.held, t.link.quiet, t.link.receiver)) = some (false, 16, .ready)
    ∧ (let s := sending .deferring none 0
       (next? (exec .transmitOpportunity (s.setLink { s.link with held := true }))).map (fun t => t.link.tx.state)
        = some .deferring) := by decide +kernel

theorem test_TransmitAttempts :
    (sending .deferring none 0).link.quiet = 24
    ∧ (next? (exec .transmitOpportunity (sending .deferring none 0))).map (fun t => t.link.tx)
        = some ⟨.sending, some (.void ⟨1, .hot⟩), 0⟩
    ∧ inHand? (exec .transmitOpportunity (sendingDemand .deferring none 0 1)) = some (true, some [1, 4])
    ∧ inHand? (exec .transmitOpportunity (sendingDemand .deferring none 0 2)) = some (true, some [2, 5])
    ∧ inHand? (exec .transmitOpportunity (sendingDemand .deferring (some .demand) 3 1))
        = some (true, some [1, 4])
    ∧ inHand? (exec .transmitOpportunity (sendingDemand .deferring (some .demand) 3 3)) = some (false, none) := by decide +kernel

theorem test_frameSent :
    (next? (exec .frameSent (sending .sending (some (.void ⟨1, .hot⟩)) 3))).map (fun t => (t.link.voidQueue, t.link.tx))
        = some ([], ⟨.deferring, none, 0⟩)
    ∧ inHand? (exec .frameSent (sendingDemand .sending (some .demand) 0 0)) = some (false, some [2, 5])
    ∧ running.link.tx.state = .idle := by decide +kernel

/-- R138, R177 and section 12.6: a VOID of label 1 with reason Hot from station 2. -/
theorem test_sentFrame :
    let s : State := { sending .sending (some (.void ⟨1, .hot⟩)) 0 with number := 2 }
    s.number ≤ 3 ∧ s.sentFrame.map (fun g => (g.toRx.address, g.toRx.kind, g.toRx.payload))
      = some (0xF2#8, 0x41#8, be16 1 ++ [byteOf Reason.hot.code])
    ∧ (sendingDemand .sending (some .demand) 0 0).sentFrame.map (fun g => (g.toRx.address, g.payload))
        = some (0xF0#8, [0, 1, 0, 0, 2, 0, 3, 0, 4]) := by decide +kernel

/-- The address, kind and payload of a record in hand. -/
def recordBytes (r : Record) : Option (Byte × Byte × List Byte) :=
  (sending .sending (some (.report r)) 0).sentFrame.map fun g => (g.toRx.address, g.kind, g.payload)

/-- The records of section 12.2 with the codes of section 12.3; T of -2 °C is FEh. -/
theorem test_recordPayloads :
    recordBytes (.store ⟨.stop, 9, .checkMismatch, 258, 65536⟩) = some (0xE0#8, 0x50#8, [3, 0x32, 9, 9, 1, 2, 0, 1, 0, 0])
    ∧ recordBytes (.label { seq := 41, outcome := .voided, reason := some .hot, completed := 1, trimmed := 2, miss := 3,
                            light := false, fieldClipped := true, substituted := false, truncated := true })
        = some (0xE0#8, 0x50#8, [2, 0, 41, 4, 9, 0, 1, 0, 2, 0, 3, 10])
    ∧ recordBytes (.ident { number := 0, state := .active, n := 2, sectorsFree := 63, objects := 1, t := -2, lc := 258,
                            queueDepth := 1, counts := { badFrames := 1, collisions := 2, excessive := 3, dropped := 4,
                                                         stale := 5 } })
        = some (0xE0#8, 0x51#8,
            [0, 2, 2, 2, 128, 64, 63, 1, 254, 1, 2, 1, 0, 1, 0, 2, 0, 3, 0, 4, 0, 5]) := by decide +kernel

theorem test_Collisions :
    (next? (exec .collision (sending .sending (some (.void ⟨1, .hot⟩)) 11))).map (fun t => t.link.tx)
        = some ⟨.jamming, some (.void ⟨1, .hot⟩), 12⟩
    ∧ inHand? (exec .collision (sendingDemand .sending (some .demand) 10 1)) = some (true, some [1, 4, 5])
    ∧ inHand? (exec .collision (sendingDemand .sending (some .demand) 10 2)) = some (false, some [2, 5]) := by decide +kernel

/-- Section 9.7: station 2 collides at bit 11 with the line's last edge at the beginning of bit 9, and its jam to bit
27 is released under station 0's; station 0's jam to bit 30 ends in the line's rise. -/
theorem test_jamRelease :
    let hit := sending .sending (some (.void ⟨1, .hot⟩)) 0
    (next? (exec (.collision 2) hit)).map (fun t => t.link.quiet) = some 2
    ∧ (after hit [.collision 2, .jamEnd true]).map (fun t => (t.link.quiet, t.link.held)) = some (19, true)
    ∧ (after hit [.collision 5, .jamEnd false]).map (fun t => (t.link.quiet, t.link.held)) = some (0, false)
    ∧ (after hit [.collision 0, .jamEnd true]).map (fun t => t.link.quiet) = some 17 := by decide +kernel

theorem test_jamEnd :
    (next? (exec .jamEnd (sending .jamming (some (.void ⟨1, .hot⟩)) 12))).map (fun t =>
        (t.link.voidQueue, t.link.counts.excessive)) = some ([], 1)
    ∧ (next? (exec .jamEnd (sending .jamming (some (.void ⟨1, .hot⟩)) 11))).map (fun t => (t.link.rng, t.link.tx.state))
        = some (13849, .backingOff 6)
    ∧ inHand? (exec .jamEnd (sendingDemand .jamming (some .demand) 12 0)) = some (false, some [2, 5])
    ∧ (next? (exec .jamEnd (sendingDemand .jamming none 3 0))).map (fun t => t.link.tx.attempts) = some 0
    ∧ (next? (exec .backoffEnd (sending (.backingOff 6) (some (.void ⟨1, .hot⟩)) 1))).map (fun t => t.link.tx.state)
        = some .deferring := by decide +kernel

/-! ## The form store -/

/-- A write of 300 bytes as object 9 in sector 2, 250 bytes received. -/
def write9 : WriteCtx :=
  { number := 9, kind := .graphic, length := 300, generation := 1, first := 2, count := 1, received := 250, check := 5 }

def writing : State := act.setStore { act.store with write := some write9, catalog := [formEntry] }

theorem test_StoreCommandsTaken :
    act.store.serving = none ∧ act.store.phase = .idle ∧ act.report.queue.length < 8
    ∧ findRun act.store.sectors (sectorsFor 300) = some 0 ∧ findRun act.store.sectors (sectorsFor 1048576) = none
    ∧ act.inUse 255 = false ∧ (queued 1).inUse 7 = true ∧ ObjKind.ofCode 3 = some .graphic
    ∧ (next? (exec .storeBegin (withStoreFrame act (.begin 255 3 300)))).map (fun t => t.store.current)
        = some (some (.line 0 [255, 3, 0, 0, 1, 44, 0, 1, 255, 255, 252]))
    ∧ (next? (exec .storeBegin (withStoreFrame act (.begin 0 3 300)))).map (fun t => t.report.queue)
        = some [.store ⟨.begin, 0, .badRequest, 0, 0⟩]
    ∧ (next? (exec .storeBegin (withStoreFrame writing (.begin 0 3 300)))).map (fun t => (t.report.queue, t.store.write))
        = some ([.store ⟨.begin, 9, .abandoned, 1, 250⟩, .store ⟨.begin, 0, .badRequest, 0, 0⟩], none) := by
  decide +kernel

/-- R156 and R158: In use through a table, the runs at the last sector, and Equation (10-1) at a sector's end. -/
theorem test_storeTerms :
    let e : TableEntry := { index := 0, mode := .black, x := 0, y := 0, c0 := 0, c1 := 0, r0 := 0, r1 := 0,
                            part := .graphic ⟨5, 1⟩ 1 1 }
    let map := List.replicate 63 SectorState.used ++ [.dirty]
    (act.setCtxA { jobCtx .running with table := [e] }).inUse 5 = true ∧ act.inUse 5 = false
    ∧ { loading with loader := some { Load.start .a 7 with table := [e] } }.inUse 5 = true
    ∧ map.length = 64 ∧ findRun map 1 = some 63 ∧ findRun map 2 = none ∧ dirtyOf map 62 2 = [63]
    ∧ sectorsFor 16320 = 1 ∧ sectorsFor 16321 = 2 ∧ sectorsFor 1048512 = 64 := by decide +kernel

theorem test_storeData :
    (next? (exec .storeData (withStoreFrame writing (.data 250 (List.replicate 50 1))))).map (fun t => t.store.due.length)
        = some 0
    ∧ (next? (exec .storeData (withStoreFrame writing (.data 249 [1])))).map (fun t => (t.store.write, t.report.queue))
        = some (none, [.store ⟨.data, 9, .orderError, 1, 250⟩])
    ∧ (next? (exec .storeData (withStoreFrame act (.data 0 [1])))).map (fun t => t.report.queue)
        = some [.store ⟨.data, 0, .noWrite, 0, 0⟩] := by decide +kernel

theorem test_storeEnd :
    (next? (exec .storeEnd (withStoreFrame writing (.stop 5)))).map (fun t => t.store.write) = some none
    ∧ (next? (exec .storeEnd (withStoreFrame (writing.setStore { writing.store with
        write := some { write9 with received := 300 } }) (.stop 5)))).map (fun t => t.store.current)
        = some (some (.mark 32776 [0, 5, 240])) := by decide +kernel

theorem test_storeDelete :
    (next? (exec .storeDelete (withStoreFrame writing (.delete 7)))).map (fun t => t.store.current)
        = some (some (.mark 10 [0]))
    ∧ (next? (exec .storeDelete (withStoreFrame writing (.delete 9)))).map (fun t => t.report.queue)
        = some [.store ⟨.delete, 9, .busy, 1, 0⟩]
    ∧ (next? (exec .storeDelete (withStoreFrame writing (.delete 8)))).map (fun t => t.report.queue)
        = some [.store ⟨.delete, 8, .notFound, 0, 0⟩] := by decide +kernel

/-- A STORE-DATA taken while the rasterizer's read hold stands begins no operation: it is due (R163). -/
theorem test_StoreCommandsTaken_held :
    let s := withStoreFrame (writing.setStore { writing.store with holdRaster := true }) (.data 250 [1])
    s.store.holdRaster = true ∧ s.store.current = none
    ∧ (next? (exec .storeData s)).map (fun t => (t.store.current, t.store.due, t.store.phase))
        = some (none, [.line 33082 [1]], .idle) := by decide +kernel

/-- A STORE-DATA of the byte 15 being programmed over the byte 51 at offset 250. -/
def programming : State :=
  writing.setStore { writing.store with
    memory := [(33082, 51)], serving := some (.data [15]), current := some (.line 33082 [15]), phase := .running false }

theorem test_StoreOperations :
    programming.store.executing = true ∧ (StoreOp.line 33082 [15]).endAddress ≤ 1048576
    ∧ programming.store.holdLoader = false ∧ programming.store.holdRaster = false
    ∧ programming.store.waitLoader = false ∧ programming.link.storeQueue = [] ∧ programming.loader = none
    ∧ programming.store.due = []
    ∧ (next? (exec .lineProgramComplete programming)).map (fun t => (t.store.memory, t.store.write.map WriteCtx.received,
        t.report.queue)) = some ([(33082, 3)], some 251, [.store ⟨.data, 9, .done, 1, 251⟩])
    ∧ (next? (exec .operationFailed programming)).map (fun t => (t.store.write, t.report.queue))
        = some (none, [.store ⟨.data, 9, .failed, 1, 250⟩]) := by decide +kernel

/-- The next store command is taken in the event that ends one: a STORE-DELETE of the object 7 begins its mark. -/
theorem test_StoreOperations_next :
    let s := programming.setLink { programming.link with storeQueue := [.delete 7] }
    s.station ≠ .starting ∧ s.store.due = [] ∧ s.link.storeQueue = .delete 7 :: []
    ∧ (next? (exec .lineProgramComplete s)).map (fun t => (t.store.current, t.link.storeQueue, t.report.queue))
        = some (some (.mark 10 [0]), [], [.store ⟨.data, 9, .done, 1, 251⟩])
    ∧ (next? (exec .operationFailed s)).map (fun t => (t.store.current, t.link.storeQueue, t.report.queue))
        = some (some (.mark 10 [0]), [], [.store ⟨.data, 9, .failed, 1, 250⟩]) := by decide +kernel

/-- An operation that completes with the rasterizer's read waiting serves it, and the next stays due (R164). -/
theorem test_StoreOperations_held :
    let s := programming.setStore { programming.store with
      due := [.line 33280 [1]], phase := .suspending, holdRaster := true, waitRaster := true }
    s.store.executing = true ∧ s.store.holdRaster = true
    ∧ (next? (exec .lineProgramComplete s)).map (fun t => (t.store.current, t.store.due, t.store.phase,
        t.store.holdRaster, t.store.waitRaster)) = some (none, [.line 33280 [1]], .idle, true, false) := by
  decide +kernel

/-- The Deleted mark of the object that a write replaces has failed: the write still ends Done, the replaced object's
sector is Dirty and its entry is gone (R162). -/
theorem test_StoreOperations_stopTrue :
    let s := programming.setStore { programming.store with
      catalog := [object9 5 7, { object9 6 7 with number := 8 }], serving := some (.stop true)
      current := some (.mark 81930 [0]) }
    s.store.serving = some (.stop true) ∧ (StoreOp.mark 81930 [0]).endAddress ≤ 1048576
    ∧ (next? (exec .operationFailed s)).map (fun t => (t.store.write, t.store.sectors.getD 5 .used,
        t.store.catalog.length, t.report.queue))
        = some (none, .dirty, 2, [.store ⟨.stop, 9, .done, 1, 250⟩]) := by decide +kernel

theorem test_programming_memoryOk : programming.MemoryOk := by
  refine ⟨by decide, ?_⟩
  intro c hc
  obtain rfl : c = (33082, 51) := by simpa [programming, State.setStore] using hc
  decide

theorem test_eraseAndMark :
    (next? (exec .sectorEraseComplete (act.setStore { act.store with
      memory := [(5, 0), (16384, 0)], serving := some (.begin write9 [0]), current := some (.erase 0),
      due := [.line 0 [1]], phase := .running true }))).map (fun t => (t.store.memory, t.store.current))
        = some ([(16384, 0)], some (.line 0 [1]))
    ∧ (next? (exec .markProgramComplete (writing.setStore { writing.store with
      serving := some (.delete 7), current := some (.mark 10 [0]), phase := .running true }))).map (fun t =>
        (t.store.memory, t.store.catalog.length)) = some ([(10, 0)], 0) := by decide +kernel

/-- A line program is running while a load and a row each need a read. -/
def reading (s : State) (phase : MemPhase) : State :=
  { s with store := { s.store with
      serving := some (.data [15]), current := some (.line 33082 [15]), phase := phase } }

/-- The memory's phase and the holds and waits of the two readers in the next state. -/
def reads? (o : Host.Outcome State Fault Refusal) : Option (MemPhase × List Bool) :=
  (next? o).map fun t =>
    (t.store.phase, [t.store.holdLoader, t.store.waitLoader, t.store.holdRaster, t.store.waitRaster])

theorem test_StoreReads :
    (next? (exec .minimumRunComplete programming)).map (fun t => t.store.phase) = some (.running true)
    ∧ reads? (exec (.storeReadRequest .rasterizer .read) (reading rendering (.running false)))
        = some (.running false, [false, false, true, true])
    ∧ reads? (exec (.storeReadRequest .rasterizer .read) (reading rendering (.running true)))
        = some (.suspending, [false, false, true, true])
    ∧ reads? (exec (.storeReadRequest .loader .read) (reading (lookedUp stored) (.running true)))
        = some (.suspending, [true, true, false, false])
    ∧ reads? (exec (.storeReadRequest .loader .read) (lookedUp stored)) = some (.idle, [true, false, false, false])
    ∧ (lookedUp stored).store.waitLoader = false ∧ (lookedUp stored).loader.map Load.lookupWaits = some false
    ∧ rendering.raster.rendering.map Render.reads = some true ∧ act.loader = none ∧ act.raster.rendering = none := by
  decide +kernel

/-- R164: the suspend's completion serves the loader's waiting read, and the operation waits for its hold. -/
theorem test_suspend_serves :
    let s := (reading (lookedUp stored) .suspending)
    let s := s.setStore { s.store with holdLoader := true, waitLoader := true }
    (next? (exec .suspendComplete s)).map (fun t => (t.store.phase, t.store.waitLoader, t.loader.map Load.status))
      = some (.suspended, false, some .done)
    ∧ s.store.releaseLoader.phase = .suspending ∧ ({ s.store with phase := .suspended }).releaseLoader.phase = .running false := by
  decide +kernel

/-- R165: a lookup of the number that a STORE-DELETE is about to remove waits for the command's end. -/
theorem test_lookup_waits :
    let s := stored.setStore { stored.store with
      serving := some (.delete 7), current := some (.mark 10 [0]), phase := .running true }
    (Load.start .a 7).status = .lookup 7 ∧ s.store.servedNumber = some 7 ∧ s.store.executing = true
    ∧ s.store.due = [] ∧ s.store.waitLoader = false ∧ s.link.storeQueue = []
    ∧ (next? (exec (.storeReadRequest .loader .lookup) s)).map (fun t => t.loader.map Load.lookupWaits) = some (some true)
    ∧ (after s [.storeReadRequest .loader .lookup, .markProgramComplete]).map (fun t =>
        (t.loader.map Load.found, t.loader.map Load.status))
        = some (some [found7 none none], some (.failed .missingObject)) := by decide +kernel

/-- R52: what a load found of a number is forgotten when a command on the number completes (log 22). -/
theorem test_lookup_again :
    let s := { lookedUp stored with seq := act.seq, ctxA := { (lookedUp stored).ctxA with seq := 2 }, store :=
      { stored.store with serving := some (.delete 7), current := some (.mark 10 [0]), phase := .running true } }
    s.loader.map (fun l => l.found.map Found.number) = some [7]
    ∧ (next? (exec .markProgramComplete s)).map (fun t => t.loader.map Load.found) = some (some []) := by decide +kernel

end Sys2Proof.Tests
end

/-! ### What every step keeps of the queues (O9) -/

namespace Sys2Proof.Machine

/-- From `s` to `t` the three invariants of the queues carry over, each on its own. -/
def KeepsQueues (s t : State) : Prop :=
  (s.QueuesOk → t.QueuesOk) ∧ (s.DemandOk → t.DemandOk) ∧ (s.TrafficOk → t.TrafficOk)

/-- What the three invariants speak of is the same in `t` as in `s`. -/
def SameTraffic (s t : State) : Prop :=
  t.seq.queue.length = s.seq.queue.length ∧ t.link.voidQueue = s.link.voidQueue
  ∧ t.link.commandQueue = s.link.commandQueue ∧ t.link.storeQueue = s.link.storeQueue
  ∧ t.link.demand = s.link.demand ∧ t.link.backlog = s.link.backlog ∧ t.link.tx = s.link.tx
  ∧ t.report.pending = s.report.pending ∧ t.report.queue = s.report.queue ∧ t.peers = s.peers

section Keeps
variable {s u t : State}

@[simp] theorem KeepsQueues.refl (s : State) : KeepsQueues s s := ⟨id, id, id⟩

theorem KeepsQueues.trans (h : KeepsQueues s u) (h' : KeepsQueues u t) : KeepsQueues s t :=
  ⟨h'.1 ∘ h.1, h'.2.1 ∘ h.2.1, h'.2.2 ∘ h.2.2⟩

theorem KeepsQueues.ite {p : Prop} [Decidable p] {v w : State} (hv : KeepsQueues s v) (hw : KeepsQueues s w) :
    KeepsQueues s (if p then v else w) := by
  split
  · exact hv
  · exact hw

theorem SameTraffic.keeps (h : SameTraffic u t) : KeepsQueues u t := by
  obtain ⟨hseq, hvoid, hcmd, hstore, hdemand, hback, htx, hpend, hrep, hpeers⟩ := h
  simp [KeepsQueues, State.QueuesOk, State.DemandOk, State.TrafficOk, *]

theorem KeepsQueues.same (h : KeepsQueues s u) (e : SameTraffic u t) : KeepsQueues s t := h.trans e.keeps

/-! #### The blocks outside the traffic -/

theorem setCtx_keeps {i v} (h : KeepsQueues s u) : KeepsQueues s (u.setCtx i v) := by cases i <;> exact h
theorem setLoader_keeps {v} (h : KeepsQueues s u) : KeepsQueues s (u.setLoader v) := h
theorem setRaster_keeps {v} (h : KeepsQueues s u) : KeepsQueues s (u.setRaster v) := h
theorem setRing_keeps {v} (h : KeepsQueues s u) : KeepsQueues s (u.setRing v) := h
theorem setTimer_keeps {v} (h : KeepsQueues s u) : KeepsQueues s (u.setTimer v) := h
theorem setPlan_keeps {v} (h : KeepsQueues s u) : KeepsQueues s (u.setPlan v) := h
theorem setHead_keeps {v} (h : KeepsQueues s u) : KeepsQueues s (u.setHead v) := h
theorem setThermal_keeps {v} (h : KeepsQueues s u) : KeepsQueues s (u.setThermal v) := h
theorem setLines_keeps {v} (h : KeepsQueues s u) : KeepsQueues s (u.setLines v) := h
theorem setStore_keeps {v} (h : KeepsQueues s u) : KeepsQueues s (u.setStore v) := h
theorem setStation_keeps {v} (h : KeepsQueues s u) : KeepsQueues s (u.setStation v) := h
theorem setSetup_keeps {v} (h : KeepsQueues s u) : KeepsQueues s (u.setSetup v) := h
theorem setFreeCount_keeps {v} (h : KeepsQueues s u) : KeepsQueues s (u.setFreeCount v) := h
theorem setPending_keeps {v} (h : KeepsQueues s u) : KeepsQueues s (u.setPending v) := h

theorem advanceRaster_keeps (h : KeepsQueues s u) : KeepsQueues s (advanceRaster u) :=
  h.same (by simp [SameTraffic])
theorem settle_keeps (h : KeepsQueues s u) : KeepsQueues s (settle u) := h.same (by simp [SameTraffic])
theorem arm_keeps (h : KeepsQueues s u) : KeepsQueues s (arm u) := h.same (by simp [SameTraffic])
theorem leaveIfOn_keeps {i} (h : KeepsQueues s u) : KeepsQueues s (leaveIfOn u i) :=
  h.same (by simp [SameTraffic])
theorem moveToStarted_keeps {i} (h : KeepsQueues s u) : KeepsQueues s (moveToStarted u i) :=
  h.same (by simp [SameTraffic])
theorem movePosition_keeps {i row} (h : KeepsQueues s u) : KeepsQueues s (movePosition u i row) :=
  h.same (by simp [SameTraffic])
theorem stopLoad_keeps {i} (h : KeepsQueues s u) : KeepsQueues s (stopLoad u i) :=
  h.same (by simp [SameTraffic])
theorem stopLoadOf_keeps {seq} (h : KeepsQueues s u) : KeepsQueues s (stopLoadOf u seq) :=
  h.same (by simp [SameTraffic])
theorem cutReads_keeps {i} (h : KeepsQueues s u) : KeepsQueues s (cutReads u i) :=
  h.same (by simp [SameTraffic])
theorem armIfReady_keeps {i} (h : KeepsQueues s u) : KeepsQueues s (armIfReady u i) :=
  h.same (by simp [SameTraffic])
theorem reloadHold_keeps (h : KeepsQueues s u) : KeepsQueues s (reloadHold u) := h
theorem decreaseHold_keeps (h : KeepsQueues s u) : KeepsQueues s (decreaseHold u) := h
theorem drivePlan_keeps {p} (h : KeepsQueues s u) : KeepsQueues s (drivePlan u p) := h
theorem driveRdy_keeps (h : KeepsQueues s u) : KeepsQueues s (driveRdy u) := h
theorem recordGap_keeps (h : KeepsQueues s u) : KeepsQueues s (recordGap u) := h
theorem recordEmpty_keeps {x seq row} (h : KeepsQueues s u) : KeepsQueues s (recordEmpty u x seq row) := h
theorem beginFiring_keeps {x p} (h : KeepsQueues s u) : KeepsQueues s (beginFiring u x p) :=
  h.same (by simp [SameTraffic])
theorem abandonWrite_keeps {w} (h : KeepsQueues s u) : KeepsQueues s (abandonWrite u w) := h
theorem serveReads_keeps (h : KeepsQueues s u) : KeepsQueues s (serveReads u) :=
  h.same (by simp [SameTraffic])
theorem serveWaitingLookup_keeps (h : KeepsQueues s u) : KeepsQueues s (serveWaitingLookup u) :=
  h.same (by simp [SameTraffic])
theorem forgetFound_keeps {n} (h : KeepsQueues s u) : KeepsQueues s (forgetFound u n) :=
  h.same (by simp [SameTraffic])
theorem suspended_keeps (h : KeepsQueues s u) : KeepsQueues s (suspended u) :=
  h.same (by simp [SameTraffic])
theorem requestRead_keeps (h : KeepsQueues s u) : KeepsQueues s (requestRead u) :=
  h.same (by simp [SameTraffic])
theorem requestLookup_keeps {l} (h : KeepsQueues s u) : KeepsQueues s (requestLookup u l) :=
  h.same (by simp [SameTraffic])
theorem endScan_keeps (h : KeepsQueues s u) : KeepsQueues s (endScan u) := h

/-! #### Marks: they keep the length of the job queue -/

theorem markVoided_keeps {seq reason} (h : KeepsQueues s u) : KeepsQueues s (markVoided u seq reason) :=
  h.same (by simp [SameTraffic, markVoided])
theorem markCancelled_keeps {seq} (h : KeepsQueues s u) : KeepsQueues s (markCancelled u seq) :=
  h.same (by simp [SameTraffic, markCancelled])
theorem markAllCancelled_keeps (h : KeepsQueues s u) : KeepsQueues s (markAllCancelled u) :=
  h.same (by simp [SameTraffic, markAllCancelled])

/-! #### The sources of the transmitter -/

/-- A change of the condition slot alone: it wakes the transmitter when it leaves something to send. -/
theorem setCond_keeps {c v} (h : KeepsQueues s u) : KeepsQueues s (setCond u c v) := by
  refine h.trans ?_
  unfold setCond
  split
  · exact .refl u
  · refine ⟨id, id, fun ht hi => ?_⟩
    by_cases hp : (u.report.change u.setup.mask c v).pending = true
    · simp [hp] at hi
    · have hidle : u.link.tx.state = .idle := by simpa [hp] using hi
      obtain ⟨hh, hv, hd, -, hq⟩ := ht hidle
      simp_all [ReportUnit.change, Tx.noteChange]

theorem pushRecord_keeps {r} (h : KeepsQueues s u) : KeepsQueues s (pushRecord u r) := by
  refine h.trans ?_
  rcases Nat.lt_or_ge u.report.queue.length 8 with hr | hr
  · rw [pushRecord_of_room hr]
    refine ⟨fun hq => ?_, id, fun _ hi => by simp at hi⟩
    simp only [State.QueuesOk, List.length_append, List.length_singleton] at hq ⊢
    tauto
  · rw [pushRecord_of_full hr]
    exact setCond_keeps (.refl u)

theorem countDropped_keeps (h : KeepsQueues s u) : KeepsQueues s (countDropped u) :=
  setCond_keeps (h.same (by simp [SameTraffic]))

theorem pushVoid_keeps {f} (h : KeepsQueues s u) : KeepsQueues s (pushVoid u f) := by
  refine h.trans ?_
  rcases Nat.lt_or_ge u.link.voidQueue.length 4 with hv | hv
  · rw [pushVoid_of_room hv]
    refine ⟨fun hq => ?_, id, fun _ hi => by simp at hi⟩
    simp only [State.QueuesOk, List.length_append, List.length_singleton] at hq ⊢
    tauto
  · rw [pushVoid_of_full hv]
    exact countDropped_keeps (.refl u)

/-- A frame of the transmitter's own that is gone: the transmitter's state stays. -/
theorem Tx.dropDemand_state (t : Tx) : t.dropDemand.state = t.state := by
  unfold Tx.dropDemand
  split <;> rfl

theorem Tx.dropDemand_inHand_of_none {t : Tx} (h : t.inHand = none) : t.dropDemand.inHand = none := by
  simp [Tx.dropDemand, h]

@[simp] theorem setBacklog_keeps (h : KeepsQueues s u) {es : List DemandEntry}
    (hes : es.length ≤ u.link.backlog.length ∨ es.length ≤ 8) :
    KeepsQueues s (u.setLink { u.link with backlog := es }) := by
  refine h.trans ⟨?_, id, id⟩
  rintro ⟨hjobs, hvoid, hcmd, hstore, hback, hrest⟩
  exact ⟨hjobs, hvoid, hcmd, hstore, by simp; omega, hrest⟩

theorem formDemand_keeps (h : KeepsQueues s u) : KeepsQueues s (formDemand u) := by
  refine h.trans ?_
  have hfresh : (u.freshEntries u.link.backlog).length ≤ u.link.backlog.length := List.length_filter_le _ _
  unfold formDemand
  split
  · exact .refl u
  · split
    · exact setBacklog_keeps (.refl u) (.inl (by simp))
    · rename_i e es heq
      obtain ⟨hg1, hg2, hg3⟩ := gatherDemands_length e.seq e.row [e.demand] es
      rw [heq, List.length_cons] at hfresh
      refine ⟨?_, fun _ f hf => ?_, fun _ hi => by simp at hi⟩
      · rintro ⟨hjobs, hvoid, hcmd, hstore, hback, hrest⟩
        exact ⟨hjobs, hvoid, hcmd, hstore, by simp; omega, hrest⟩
      · obtain rfl : _ = f := by simpa using hf
        simp at hg1 hg2
        exact ⟨hg1, hg2⟩

theorem discardDemand_keeps (h : KeepsQueues s u) : KeepsQueues s (discardDemand u) := by
  refine formDemand_keeps (h.trans ⟨id, fun _ f hf => by simp at hf, fun ht hi => ?_⟩)
  obtain ⟨hh, hv, -, hp, hq⟩ := ht (by simpa [Tx.dropDemand_state] using hi)
  exact ⟨by simp [Tx.dropDemand_inHand_of_none hh], hv, rfl, hp, hq⟩

theorem dropStaleRows_length (stale : Nat → Bool) (r : Nat) (ds : List Nat) :
    (dropStaleRows stale r ds).2.length ≤ ds.length := by
  induction ds generalizing r with
  | nil => simp [dropStaleRows]
  | cons d ds ih =>
    unfold dropStaleRows
    split
    · exact (ih _).trans (by simp)
    · simp

/-- A pending DEMAND frame whose demands are replaced by 1 to 4 others, beside a backlog no longer than it was. -/
theorem replaceDemand_keeps (h : KeepsQueues s u) {f g : DemandFrame} {es : List DemandEntry}
    (hf : u.link.demand = some f) (h1 : 1 ≤ g.demands.length) (h4 : f.demands.length ≤ 4 → g.demands.length ≤ 4)
    (hes : es.length ≤ u.link.backlog.length) :
    KeepsQueues s (u.setLink { u.link with demand := some g, backlog := es }) := by
  refine h.trans ⟨?_, fun hd g' hg' => ?_, fun ht hi => ?_⟩
  · rintro ⟨hjobs, hvoid, hcmd, hstore, hback, hrest⟩
    exact ⟨hjobs, hvoid, hcmd, hstore, by simp; omega, hrest⟩
  · obtain rfl : g = g' := by simpa using hg'
    exact ⟨h1, h4 (hd f (by simp [hf])).2⟩
  · obtain ⟨-, -, hnone, -⟩ := ht hi
    simp [hf] at hnone

theorem trimDemand_keeps (h : KeepsQueues s u) : KeepsQueues s (trimDemand u) := by
  unfold trimDemand
  split
  · exact h
  · rename_i f hf
    have hlen := dropStaleRows_length (u.isStale f.seq) f.first f.demands
    dsimp only
    split
    · exact discardDemand_keeps h
    · rename_i hne
      exact replaceDemand_keeps h hf (List.length_pos_iff.2 hne) (by simp; omega) le_rfl

theorem removeStaleDemands_keeps (h : KeepsQueues s u) : KeepsQueues s (removeStaleDemands u) := by
  have h' := setBacklog_keeps h (es := u.freshEntries u.link.backlog) (.inl (List.length_filter_le _ _))
  unfold removeStaleDemands
  dsimp only
  split
  · split
    · exact h'
    · exact trimDemand_keeps h'
  · exact h'

theorem appendBacklog_keeps {e} (h : KeepsQueues s u) : KeepsQueues s (appendBacklog u e) := by
  unfold appendBacklog Config.listDepth
  split
  · exact setBacklog_keeps h (.inr (by simp; omega))
  · exact h

theorem handDemand_keeps {e} (h : KeepsQueues s u) : KeepsQueues s (handDemand u e) := by
  unfold handDemand
  split
  · split
    · refine h.trans ⟨id, fun _ f hf => ?_, fun _ hi => by simp at hi⟩
      obtain rfl : _ = f := by simpa using hf
      simp
    · exact formDemand_keeps (appendBacklog_keeps h)
  · rename_i f hf
    split
    · rename_i hroom
      exact replaceDemand_keeps h hf (by simp) (by simp; omega) le_rfl
    · exact appendBacklog_keeps h

/-! #### The peer tables -/

theorem setPeers_keeps (h : KeepsQueues s u) {ps : List PeerTable}
    (hps : u.QueuesOk → ∀ t ∈ ps, t.entries.length ≤ 8) : KeepsQueues s (u.setPeers ps) := by
  refine h.trans ⟨fun hq => ?_, id, id⟩
  have ⟨hjobs, hvoid, hcmd, hstore, hback, hrep, _⟩ := hq
  exact ⟨hjobs, hvoid, hcmd, hstore, hback, hrep, hps hq⟩

theorem State.QueuesOk.peers (h : u.QueuesOk) : ∀ t ∈ u.peers, t.entries.length ≤ 8 := by
  obtain ⟨-, -, -, -, -, -, hpeers⟩ := h
  exact hpeers

theorem purgePeers_keeps (h : KeepsQueues s u) : KeepsQueues s (purgePeers u) := by
  refine setPeers_keeps h fun hq t ht => ?_
  obtain ⟨p, hp, rfl⟩ := List.mem_map.1 ht
  exact (List.length_filter_le _ _).trans (hq.peers p hp)

theorem takeDemand_keeps {src seq first ds} (h : KeepsQueues s u) :
    KeepsQueues s (takeDemand u src seq first ds) := by
  unfold takeDemand
  split
  · refine setPeers_keeps h fun hq t ht => ?_
    obtain ⟨p, hp, rfl⟩ := List.mem_map.1 ht
    split
    · exact enterDemands_length _ _ _ _ _ (hq.peers p hp)
    · exact hq.peers p hp
  · exact h

theorem purgeStale_keeps (h : KeepsQueues s u) : KeepsQueues s (purgeStale u) :=
  removeStaleDemands_keeps (purgePeers_keeps h)

/-! #### The queue of jobs -/

/-- A job queue of at most 4 entries, or no longer than it was, replaces the one that was. -/
theorem setSeq_keeps (h : KeepsQueues s u) {q : SeqUnit} (hq : q.queue.length ≤ u.seq.queue.length ∨ q.queue.length ≤ 4) :
    KeepsQueues s (u.setSeq q) := by
  refine h.trans ⟨?_, id, id⟩
  rintro ⟨hjobs, hrest⟩
  exact ⟨by simp; omega, hrest⟩

theorem SeqUnit.append_length (q : SeqUnit) (e : JobEntry) : (q.append e).queue.length = q.queue.length + 1 := by
  unfold SeqUnit.append
  split <;> simp

theorem SeqUnit.consume_length (q : SeqUnit) (seq : Nat) : (q.consume seq).queue.length ≤ q.queue.length := by
  simp [SeqUnit.consume]

theorem appendOrRefuse_keeps {e} (h : KeepsQueues s u) : KeepsQueues s (appendOrRefuse u e) := by
  unfold appendOrRefuse Config.queueDepth
  split
  · exact setSeq_keeps h (.inr (by rw [SeqUnit.append_length]; omega))
  · exact pushRecord_keeps h

theorem addPlaceholder_keeps {seq} (h : KeepsQueues s u) (hroom : u.seq.queue.length < 4) :
    KeepsQueues s (addPlaceholder u seq) := by
  unfold addPlaceholder
  split
  · exact setSeq_keeps h (.inr (by simp; omega))
  · exact pushVoid_keeps (setSeq_keeps h (.inr (by simp; omega)))

theorem addPlaceholders_keeps {n seq} (h : KeepsQueues s u) : KeepsQueues s (addPlaceholders n seq u) := by
  induction n generalizing u seq with
  | zero => exact h
  | succ n ih =>
    unfold addPlaceholders
    split
    · rename_i hroom
      exact ih (addPlaceholder_keeps h hroom)
    · exact h

/-! #### Labels and rows -/

theorem ownVoid_keeps {seq reason} (h : KeepsQueues s u) : KeepsQueues s (ownVoid u seq reason) := by
  unfold ownVoid
  split
  · exact h
  · exact pushVoid_keeps (markVoided_keeps h)

theorem completeLabel_keeps {i} (h : KeepsQueues s u) : KeepsQueues s (completeLabel u i) :=
  leaveIfOn_keeps (pushRecord_keeps (setCtx_keeps h))

theorem completeIfEnding_keeps {i} (h : KeepsQueues s u) : KeepsQueues s (completeIfEnding u i) := by
  unfold completeIfEnding
  split
  · exact completeLabel_keeps h
  · exact h

theorem endRow_keeps {seq trimmed miss short} (h : KeepsQueues s u) :
    KeepsQueues s (endRow u seq trimmed miss short) := by
  unfold endRow
  split
  · exact h
  · dsimp only
    split
    · exact completeIfEnding_keeps (ownVoid_keeps (setCtx_keeps h))
    · exact completeIfEnding_keeps (setCtx_keeps h)

theorem endFlight_keeps {p trimmed short} (h : KeepsQueues s u) : KeepsQueues s (endFlight u p trimmed short) :=
  endRow_keeps (setHead_keeps (setPlan_keeps (setRing_keeps h)))

theorem stopRow_keeps (h : KeepsQueues s u) : KeepsQueues s (stopRow u) := by
  unfold stopRow
  split
  · exact h
  · split
    · exact setPlan_keeps h
    · exact endFlight_keeps h

theorem stopRowOf_keeps {seq} (h : KeepsQueues s u) : KeepsQueues s (stopRowOf u seq) := by
  unfold stopRowOf
  split
  · split
    · exact stopRow_keeps h
    · exact h
  · exact h

theorem afterMark_keeps {seq} (h : KeepsQueues s u) : KeepsQueues s (afterMark u seq) :=
  stopRowOf_keeps (stopLoadOf_keeps h)

theorem countStale_keeps (h : KeepsQueues s u) : KeepsQueues s (countStale u) :=
  h.same (by simp [SameTraffic, countStale])

/-- The unsynchronised station has an empty queue, so that its first JOB finds room (R1, R5). -/
theorem classifyJob_keeps {e} (h : KeepsQueues s u) : KeepsQueues s (classifyJob u e) := by
  unfold classifyJob
  dsimp only
  split
  · rename_i hun
    have hempty : u.seq.queue = [] := by simp_all [SeqUnit.unsynchronised]
    exact settle_keeps (setSeq_keeps h (.inr (by simp [SeqUnit.append_length, hempty])))
  · split
    · exact settle_keeps (appendOrRefuse_keeps h)
    · split
      · exact settle_keeps (appendOrRefuse_keeps (addPlaceholders_keeps h))
      · exact countStale_keeps h

theorem takeJob_keeps {seq form darkness entries} (h : KeepsQueues s u) :
    KeepsQueues s (takeJob u seq form darkness entries) := by
  unfold takeJob
  split
  · exact h
  · exact h
  · exact pushRecord_keeps h
  · split
    · exact countStale_keeps h
    · exact classifyJob_keeps h

theorem takeCancel_keeps {seq} (h : KeepsQueues s u) : KeepsQueues s (takeCancel u seq) := by
  unfold takeCancel
  split
  · exact settle_keeps (afterMark_keeps (markCancelled_keeps h))
  · exact h

theorem takeCancelAll_keeps (h : KeepsQueues s u) : KeepsQueues s (takeCancelAll u) := by
  unfold takeCancelAll
  dsimp only
  split
  · split
    · exact settle_keeps (stopRow_keeps (stopLoad_keeps (markAllCancelled_keeps h)))
    · exact settle_keeps (stopRow_keeps (markAllCancelled_keeps h))
  · exact h

theorem takeVoid_keeps {seq} (h : KeepsQueues s u) : KeepsQueues s (takeVoid u seq) := by
  unfold takeVoid
  split
  · split
    · exact settle_keeps (afterMark_keeps (markVoided_keeps h))
    · split
      · exact setSeq_keeps h (.inl le_rfl)
      · exact h
  · exact h

/-! #### Top of form -/

theorem endRunning_keeps (h : KeepsQueues s u) : KeepsQueues s (endRunning u) := by
  unfold endRunning
  dsimp only
  split
  · exact h
  · split
    · exact completeLabel_keeps (setRing_keeps h)
    · split
      · exact leaveIfOn_keeps (setCtx_keeps (setRing_keeps h))
      · exact completeLabel_keeps (setCtx_keeps (setRing_keeps h))

theorem startArmed_keeps {i} (h : KeepsQueues s u) : KeepsQueues s (startArmed u i) := by
  unfold startArmed
  dsimp only
  split
  · exact ownVoid_keeps (setCtx_keeps h)
  · exact setCtx_keeps h

theorem startLoading_keeps {i} (h : KeepsQueues s u) : KeepsQueues s (startLoading u i) :=
  ownVoid_keeps (setCtx_keeps (cutReads_keeps (stopLoad_keeps h)))

theorem startUnheld_keeps {i e} (h : KeepsQueues s u) : KeepsQueues s (startUnheld u i e) :=
  ownVoid_keeps (setCtx_keeps h)

theorem startEmpty_keeps {i seq v} (h : KeepsQueues s u) : KeepsQueues s (startEmpty u i seq v) := by
  unfold startEmpty
  dsimp only
  split
  · exact setCtx_keeps h
  · exact ownVoid_keeps (setCtx_keeps h)

theorem startLabel_keeps (h : KeepsQueues s u) : KeepsQueues s (startLabel u) := by
  have hc : ∀ seq, KeepsQueues s (u.setSeq (u.seq.consume seq)) := fun seq =>
    setSeq_keeps h (.inl (SeqUnit.consume_length _ _))
  unfold startLabel
  dsimp only
  split
  · split
    · split
      · exact moveToStarted_keeps (startArmed_keeps (hc _))
      · exact moveToStarted_keeps (startLoading_keeps (hc _))
    · split
      · exact moveToStarted_keeps (startUnheld_keeps (hc _))
      · exact hc _
  · split
    · exact moveToStarted_keeps (startEmpty_keeps (hc _))
    · exact hc _

theorem takeTof_keeps (h : KeepsQueues s u) : KeepsQueues s (takeTof u) := by
  unfold takeTof
  split
  · split
    · exact purgeStale_keeps (setCond_keeps h)
    · exact driveRdy_keeps (advanceRaster_keeps (purgeStale_keeps (arm_keeps (startLabel_keeps (endRunning_keeps h)))))
  · exact h

/-! #### The ends of a load and of a render, and the row pulse -/

theorem popCommand_keeps (h : KeepsQueues s u) : KeepsQueues s (popCommand u) := by
  refine h.trans ⟨?_, id, id⟩
  rintro ⟨hjobs, hvoid, hcmd, hrest⟩
  exact ⟨hjobs, hvoid, by simp [popCommand]; omega, hrest⟩

theorem endLoad_keeps {l} (h : KeepsQueues s u) : KeepsQueues s (endLoad u l) := by
  have hfree : KeepsQueues s ((u.setLoader none).setStore u.store.releaseLoader) := setStore_keeps (setLoader_keeps h)
  unfold endLoad
  dsimp only
  split
  · exact setCtx_keeps hfree
  · exact ownVoid_keeps hfree
  · exact hfree
  · exact hfree

theorem keepRender_keeps {r} (h : KeepsQueues s u) : KeepsQueues s (keepRender u r) := by
  unfold keepRender
  refine armIfReady_keeps (.ite (movePosition_keeps ?_) ?_) <;>
    exact handDemand_keeps (setCtx_keeps (setRing_keeps h))

theorem endRender_keeps {r} (h : KeepsQueues s u) : KeepsQueues s (endRender u r) := by
  unfold endRender
  refine setStore_keeps ?_
  split
  · exact keepRender_keeps (setRaster_keeps h)
  · exact setRing_keeps (setRaster_keeps h)

theorem afterPulse_keeps {p} (h : KeepsQueues s u) : KeepsQueues s (afterPulse u p) := by
  unfold afterPulse
  split
  · exact drivePlan_keeps h
  · exact settle_keeps (endFlight_keeps h)

theorem cutFlight_keeps (h : KeepsQueues s u) : KeepsQueues s (cutFlight u) := by
  unfold cutFlight
  dsimp only
  split
  · exact h
  · split
    · exact reloadHold_keeps (endFlight_keeps h)
    · exact endFlight_keeps h

theorem fireRow_keeps {c x row} (h : KeepsQueues s u) : KeepsQueues s (fireRow u c x row) := by
  unfold fireRow
  dsimp only
  split
  · exact endRow_keeps (recordEmpty_keeps h)
  · exact beginFiring_keeps h

theorem lateRow_keeps {seq} (h : KeepsQueues s u) : KeepsQueues s (lateRow u seq) :=
  endRow_keeps (ownVoid_keeps (recordGap_keeps h))

theorem takeRow_keeps {i} (h : KeepsQueues s u) : KeepsQueues s (takeRow u i) := by
  unfold takeRow
  dsimp only
  split
  · exact endRow_keeps (recordGap_keeps (setCtx_keeps h))
  · split
    · exact lateRow_keeps (setCtx_keeps h)
    · exact fireRow_keeps (setCtx_keeps h)

theorem handRow_keeps (h : KeepsQueues s u) : KeepsQueues s (handRow u) := by
  unfold handRow
  split
  · split
    · exact takeRow_keeps h
    · exact recordGap_keeps h
  · exact recordGap_keeps h

theorem driveSlw_keeps (h : KeepsQueues s u) : KeepsQueues s (driveSlw u) := setCond_keeps (setLines_keeps h)

theorem pulseActive_keeps (h : KeepsQueues s u) : KeepsQueues s (pulseActive u) :=
  driveSlw_keeps (settle_keeps (purgeStale_keeps (handRow_keeps (cutFlight_keeps (decreaseHold_keeps h)))))

theorem passTime_keeps {dt} (h : KeepsQueues s u) : KeepsQueues s (passTime dt u) := by
  unfold passTime
  dsimp only
  split
  · exact h
  · exact h.same (by simp [SameTraffic])

/-! #### The store controller -/

theorem storeRecord_keeps {cmd n res g r} (h : KeepsQueues s u) : KeepsQueues s (storeRecord u cmd n res g r) :=
  pushRecord_keeps h

theorem abandonForBegin_keeps (h : KeepsQueues s u) : KeepsQueues s (abandonForBegin u) := by
  unfold abandonForBegin
  split
  · exact storeRecord_keeps (abandonWrite_keeps h)
  · exact h

theorem takeStoreBegin_keeps {number kind len} (h : KeepsQueues s u) :
    KeepsQueues s (takeStoreBegin u number kind len) := by
  have ha := abandonForBegin_keeps h
  unfold takeStoreBegin
  dsimp only
  split
  · exact storeRecord_keeps ha
  · split
    · split
      · exact storeRecord_keeps ha
      · split
        · exact storeRecord_keeps ha
        · exact setStore_keeps ha
    · exact storeRecord_keeps ha

theorem takeStoreData_keeps {offset bytes} (h : KeepsQueues s u) : KeepsQueues s (takeStoreData u offset bytes) := by
  unfold takeStoreData
  split
  · exact storeRecord_keeps h
  · split
    · exact setStore_keeps h
    · exact storeRecord_keeps (abandonWrite_keeps h)

theorem takeStoreEnd_keeps {check} (h : KeepsQueues s u) : KeepsQueues s (takeStoreEnd u check) := by
  unfold takeStoreEnd
  split
  · exact storeRecord_keeps h
  · split
    · split
      · exact storeRecord_keeps h
      · exact setStore_keeps h
    · exact storeRecord_keeps (abandonWrite_keeps h)

theorem takeStoreDelete_keeps {number} (h : KeepsQueues s u) : KeepsQueues s (takeStoreDelete u number) := by
  unfold takeStoreDelete
  split
  · exact storeRecord_keeps h
  · split
    · exact storeRecord_keeps h
    · split
      · exact storeRecord_keeps h
      · exact setStore_keeps h

theorem takeStoreFrame_keeps {f} (h : KeepsQueues s u) : KeepsQueues s (takeStoreFrame u f) := by
  cases f
  · exact takeStoreBegin_keeps h
  · exact takeStoreData_keeps h
  · exact takeStoreEnd_keeps h
  · exact takeStoreDelete_keeps h

theorem popStore_keeps (h : KeepsQueues s u) : KeepsQueues s (popStore u) := by
  refine h.trans ⟨?_, id, id⟩
  rintro ⟨hjobs, hvoid, hcmd, hstore, hrest⟩
  exact ⟨hjobs, hvoid, hcmd, by simp [popStore]; omega, hrest⟩

theorem takeNextStore_keeps (h : KeepsQueues s u) : KeepsQueues s (takeNextStore u) := by
  unfold takeNextStore
  split
  · exact takeStoreFrame_keeps (popStore_keeps h)
  · exact h

theorem takeStoreHead_keeps {cmd} (h : KeepsQueues s u) : KeepsQueues s (takeStoreHead u cmd) := by
  unfold takeStoreHead
  split
  · exact takeNextStore_keeps h
  · exact h

theorem completeServing_keeps {sv} (h : KeepsQueues s u) : KeepsQueues s (completeServing u sv) := by
  unfold completeServing
  split
  · exact storeRecord_keeps (setStore_keeps h)
  · exact storeRecord_keeps (setStore_keeps h)
  · exact storeRecord_keeps (forgetFound_keeps (setStore_keeps h))
  · exact storeRecord_keeps (forgetFound_keeps (setStore_keeps h))
  · exact h
  · exact h

theorem endServing_keeps (h : KeepsQueues s u) : KeepsQueues s (endServing u) :=
  takeNextStore_keeps (serveWaitingLookup_keeps (setStore_keeps h))

theorem continueServing_keeps (h : KeepsQueues s u) : KeepsQueues s (continueServing u) := by
  unfold continueServing
  split
  · exact h
  · split
    · exact endServing_keeps (completeServing_keeps h)
    · exact setStore_keeps h

theorem failServing_keeps {sv op} (h : KeepsQueues s u) : KeepsQueues s (failServing u sv op) := by
  unfold failServing
  split
  · exact storeRecord_keeps (setStore_keeps h)
  · exact storeRecord_keeps (abandonWrite_keeps h)
  · exact storeRecord_keeps (abandonWrite_keeps h)
  · exact completeServing_keeps h
  · exact storeRecord_keeps h
  · exact h
  · exact h

/-! #### The receiver -/

theorem setReceiver_keeps {r quiet} (h : KeepsQueues s u) : KeepsQueues s (setReceiver u r quiet) :=
  h.same (by simp [SameTraffic, setReceiver])

theorem badFrame_keeps (h : KeepsQueues s u) : KeepsQueues s (badFrame u) := by
  unfold badFrame
  split
  · exact h
  · exact h.same (by simp [SameTraffic, countBad])

theorem receiveError_keeps {e} (h : KeepsQueues s u) : KeepsQueues s (receiveError u e) := by
  unfold receiveError
  split
  · cases e
    case stuffDominant => exact h.same (by simp [SameTraffic, setReceiver])
    all_goals exact badFrame_keeps (setReceiver_keeps h)
  · exact h

theorem lineQuiet_keeps (h : KeepsQueues s u) : KeepsQueues s (lineQuiet u) := by
  have hready : ∀ q, KeepsQueues s (u.setLink { u.link with receiver := .ready, held := false, quiet := q }) :=
    fun q => h.same (by simp [SameTraffic])
  unfold lineQuiet
  dsimp only
  split
  · exact h
  · split
    · exact badFrame_keeps (hready _)
    · exact hready _

theorem frameBegins_keeps (h : KeepsQueues s u) : KeepsQueues s (frameBegins u) := by
  unfold frameBegins
  split
  · exact h
  · exact h.same (by simp [SameTraffic])

theorem enqueueCommand_keeps {f} (h : KeepsQueues s u) : KeepsQueues s (enqueueCommand u f) := by
  unfold enqueueCommand Config.queueDepth
  split
  · refine h.trans ⟨?_, id, id⟩
    rintro ⟨hjobs, hvoid, hcmd, hrest⟩
    exact ⟨hjobs, hvoid, by simp; omega, hrest⟩
  · exact countDropped_keeps h

theorem enqueueStore_keeps {f} (h : KeepsQueues s u) : KeepsQueues s (enqueueStore u f) := by
  unfold enqueueStore Config.queueDepth
  split
  · refine h.trans ⟨?_, id, id⟩
    rintro ⟨hjobs, hvoid, hcmd, hstore, hrest⟩
    exact ⟨hjobs, hvoid, hcmd, by simp; omega, hrest⟩
  · exact countDropped_keeps h

theorem route_keeps {source p} (h : KeepsQueues s u) : KeepsQueues s (route u source p) := by
  cases p
  · exact enqueueCommand_keeps h
  · exact enqueueStore_keeps h
  · exact takeDemand_keeps h
  · exact takeVoid_keeps h
  · exact h

theorem acceptChecked_keeps {address kind payload} (h : KeepsQueues s u) :
    KeepsQueues s (acceptChecked u address kind payload) := by
  unfold acceptChecked
  split
  · split
    · exact badFrame_keeps h
    · split
      · exact h
      · exact route_keeps h
  · exact h

theorem acceptFrame_keeps {f} (h : KeepsQueues s u) : KeepsQueues s (acceptFrame u f) := by
  unfold acceptFrame
  dsimp only
  split
  · split
    · exact acceptChecked_keeps (setReceiver_keeps h)
    · exact badFrame_keeps (setReceiver_keeps h)
  · exact h

/-! #### The transmitter -/

/-- A transmitter state other than Idle may take any frame in hand. -/
theorem setTx_keeps {x : Tx} (h : KeepsQueues s u) (hx : x.state ≠ .idle) : KeepsQueues s (setTx u x) :=
  h.trans ⟨id, id, fun _ hi => absurd hi hx⟩

/-- With no frame in hand the transmitter is Idle only when no source holds anything (R143, R144). -/
theorem releaseTx_keeps (h : KeepsQueues s u) : KeepsQueues s (releaseTx u) := by
  refine h.trans ⟨id, id, fun _ hi => ?_⟩
  have hno : ¬u.hasTraffic = true := fun ht => by simp [releaseTx, setTx, ht] at hi
  rw [State.hasTraffic_iff] at hno
  simp only [not_or, not_not, Bool.not_eq_true] at hno
  exact ⟨rfl, hno⟩

theorem freezeDemand_keeps {v} (h : KeepsQueues s u) : KeepsQueues s (freezeDemand u v) := by
  refine h.trans ⟨id, fun hd f hf => ?_, fun ht hi => ?_⟩
  · obtain ⟨g, hg, rfl⟩ : ∃ g, u.link.demand = some g ∧ { g with frozen := v } = f := by
      simpa [freezeDemand, Option.map_eq_some_iff] using hf
    exact hd g hg
  · obtain ⟨hh, hv, hnone, hrest⟩ := ht hi
    exact ⟨hh, hv, by simp [freezeDemand, hnone], hrest⟩

theorem beginAttempt_keeps {x n} (h : KeepsQueues s u) : KeepsQueues s (beginAttempt u x n) := by
  have hsend : ∀ v, KeepsQueues s v →
      KeepsQueues s (v.setLink { v.link with quiet := 0, tx := { state := .sending, inHand := some x, attempts := n } }) :=
    fun v hv => hv.trans ⟨id, id, fun _ hi => by simp at hi⟩
  unfold beginAttempt
  dsimp only
  split
  · exact hsend _ (freezeDemand_keeps h)
  · exact hsend _ h

/-- Nothing is selected only when no source holds anything (R140). -/
theorem State.select_eq_none (h : u.select = none) :
    u.link.voidQueue = [] ∧ u.link.demand = none ∧ u.report.pending = false ∧ u.report.queue = [] := by
  unfold State.select at h
  split at h <;> simp_all

theorem selectFrame_keeps (h : KeepsQueues s u) : KeepsQueues s (selectFrame u) := by
  have hfresh : KeepsQueues s (if u.link.voidQueue = [] then trimDemand u else u) := by
    split
    · exact trimDemand_keeps h
    · exact h
  unfold selectFrame
  dsimp only
  split
  · exact beginAttempt_keeps hfresh
  · rename_i hnone
    exact hfresh.trans ⟨id, id, fun _ _ => ⟨rfl, State.select_eq_none hnone⟩⟩

theorem retryFrame_keeps {x} (h : KeepsQueues s u) : KeepsQueues s (retryFrame u x) := by
  unfold retryFrame
  dsimp only
  split
  · split
    · exact beginAttempt_keeps (trimDemand_keeps h)
    · exact selectFrame_keeps (trimDemand_keeps h)
  all_goals exact beginAttempt_keeps h

theorem transmitOpportunity_keeps (h : KeepsQueues s u) : KeepsQueues s (transmitOpportunity u) := by
  unfold transmitOpportunity
  split
  · split
    · exact retryFrame_keeps h
    · exact selectFrame_keeps h
  · exact h

theorem refillDemand_keeps (h : KeepsQueues s u) : KeepsQueues s (refillDemand u) := by
  unfold refillDemand
  split
  · rename_i f hf
    obtain ⟨hg1, hg2, hg3⟩ := gatherDemands_length f.seq f.first f.demands u.link.backlog
    refine h.trans ⟨?_, fun hd g hg => ?_, fun ht hi => ?_⟩
    · rintro ⟨hjobs, hvoid, hcmd, hstore, hback, hrest⟩
      exact ⟨hjobs, hvoid, hcmd, hstore, by simp; omega, hrest⟩
    · obtain rfl : _ = g := by simpa using hg
      have ⟨h1, h4⟩ := hd f (by simp [hf])
      exact ⟨h1.trans hg1, by simp; omega⟩
    · obtain ⟨-, -, hnone, -⟩ := ht hi
      simp [hf] at hnone
  · exact h

theorem demandCollided_keeps (h : KeepsQueues s u) : KeepsQueues s (demandCollided u) := by
  have htrim := trimDemand_keeps (freezeDemand_keeps (v := false) h)
  unfold demandCollided
  dsimp only
  split
  · exact refillDemand_keeps htrim
  · exact htrim

theorem collide_keeps {n} (h : KeepsQueues s u) : KeepsQueues s (collide n u) := by
  have hjam : ∀ (c : Counts) (q a : Nat), KeepsQueues s (u.setLink { u.link with quiet := q, counts := c, tx :=
      { state := .jamming, inHand := u.link.tx.inHand, attempts := a } }) :=
    fun c q a => h.trans ⟨id, id, fun _ hi => by simp at hi⟩
  unfold collide
  dsimp only
  split
  · split
    · exact demandCollided_keeps (hjam _ _ _)
    · exact hjam _ _ _
  · exact h

/-- A VOID leaves the queue of a transmitter that is not Idle; Idle, the queue was empty. -/
theorem popVoid_keeps (h : KeepsQueues s u) : KeepsQueues s (popVoid u) := by
  refine h.trans ⟨?_, id, fun ht hi => ?_⟩
  · rintro ⟨hjobs, hvoid, hrest⟩
    exact ⟨hjobs, by simp [popVoid]; omega, hrest⟩
  · obtain ⟨hh, hv, hrest⟩ := ht hi
    exact ⟨hh, by simp [popVoid, hv], hrest⟩

theorem popReport_keeps (h : KeepsQueues s u) : KeepsQueues s (popReport u) := by
  refine h.trans ⟨?_, id, fun ht hi => ?_⟩
  · rintro ⟨hjobs, hvoid, hcmd, hstore, hback, hrep, hrest⟩
    exact ⟨hjobs, hvoid, hcmd, hstore, hback, by simp [popReport]; omega, hrest⟩
  · obtain ⟨hh, hv, hd, hp, hq⟩ := ht hi
    exact ⟨hh, hv, hd, hp, by simp [popReport, hq]⟩

theorem giveUpSource_keeps {x} (h : KeepsQueues s u) : KeepsQueues s (giveUpSource u x) := by
  unfold giveUpSource
  split
  · exact popVoid_keeps h
  · exact discardDemand_keeps h
  · exact h
  · exact setCond_keeps (popReport_keeps h)

theorem giveUp_keeps {x} (h : KeepsQueues s u) : KeepsQueues s (giveUp u x) :=
  releaseTx_keeps (giveUpSource_keeps (h.same (by simp [SameTraffic, countExcessive])))

theorem releaseJam_keeps {held} (h : KeepsQueues s u) : KeepsQueues s (releaseJam held u) :=
  h.same (by simp [SameTraffic, releaseJam])

theorem drawBackoff_keeps (h : KeepsQueues s u) : KeepsQueues s (drawBackoff u) := by
  refine h.trans ⟨id, id, fun _ hi => ?_⟩
  simp only [drawBackoff, State.setLink_link] at hi
  split at hi <;> simp at hi

theorem jamEnd_keeps {held} (h : KeepsQueues s u) : KeepsQueues s (jamEnd held u) := by
  unfold jamEnd
  dsimp only
  split
  · split
    · split
      · exact giveUp_keeps (releaseJam_keeps h)
      · exact drawBackoff_keeps (releaseJam_keeps h)
    · exact drawBackoff_keeps (releaseJam_keeps h)
  · exact h

theorem backoffEnd_keeps (h : KeepsQueues s u) : KeepsQueues s (backoffEnd u) := by
  unfold backoffEnd
  split
  · exact setTx_keeps h (by simp)
  all_goals exact h

/-- The source of a sent frame loses it while the transmitter is still Sending. -/
theorem sentSource_keeps {x} (h : KeepsQueues s u) (hs : u.link.tx.state = .sending) :
    KeepsQueues s (sentSource u x) := by
  unfold sentSource
  split
  · exact popVoid_keeps h
  · exact discardDemand_keeps h
  · exact h.trans ⟨id, id, fun _ hi => by simp [hs] at hi⟩
  · exact popReport_keeps h

theorem frameSent_keeps (h : KeepsQueues s u) : KeepsQueues s (frameSent u) := by
  have hline : KeepsQueues s (releaseLine u u.sentQuiet) := h.same (by simp [SameTraffic, releaseLine])
  unfold frameSent
  dsimp only
  split
  · rename_i hsending
    split
    · exact releaseTx_keeps (sentSource_keeps hline hsending)
    · exact releaseTx_keeps hline
  · exact h

/-! #### The setup and report logic -/

theorem setWarm_keeps {v} (h : KeepsQueues s u) : KeepsQueues s (setWarm u v) := setCond_keeps (setThermal_keeps h)

theorem setHot_keeps {v} (h : KeepsQueues s u) : KeepsQueues s (setHot u v) := setCond_keeps (setThermal_keeps h)

theorem voidHot_keeps {st i} (h : KeepsQueues s u) : KeepsQueues s (voidHot st u i) := by
  unfold voidHot
  split
  · exact ownVoid_keeps h
  · exact h

theorem enterHot_keeps (h : KeepsQueues s u) : KeepsQueues s (enterHot u) :=
  settle_keeps (stopRow_keeps (voidHot_keeps (voidHot_keeps (voidHot_keeps (voidHot_keeps (setHot_keeps h))))))

theorem evalWarm_keeps (h : KeepsQueues s u) : KeepsQueues s (evalWarm u) := by
  unfold evalWarm
  split
  · exact setWarm_keeps h
  · split
    · exact setWarm_keeps h
    · exact h

theorem evalHot_keeps (h : KeepsQueues s u) : KeepsQueues s (evalHot u) := by
  unfold evalHot
  split
  · split
    · exact setHot_keeps h
    · exact h
  · split
    · exact enterHot_keeps h
    · exact h

theorem driveLines_keeps (h : KeepsQueues s u) : KeepsQueues s (driveLines u) := driveSlw_keeps (driveRdy_keeps h)

theorem takeReading_keeps {reading} (h : KeepsQueues s u) : KeepsQueues s (takeReading u reading) := by
  unfold takeReading
  dsimp only
  split
  · exact setThermal_keeps h
  · exact setThermal_keeps h
  · exact driveLines_keeps (evalHot_keeps (evalWarm_keeps (setThermal_keeps h)))
  · exact driveLines_keeps (evalWarm_keeps (setThermal_keeps h))

theorem examineSlot_keeps (h : KeepsQueues s u) : KeepsQueues s (examineSlot u) := by
  unfold examineSlot
  split
  · exact h
  · exact h.trans ⟨id, id, fun _ hi => by simp at hi⟩

theorem emptyPeers_keeps {n number} (h : KeepsQueues s u) : KeepsQueues s (u.setPeers (emptyPeers n number)) := by
  refine setPeers_keeps h fun _ t ht => ?_
  obtain ⟨j, -, rfl⟩ := List.mem_map.1 ht
  simp

theorem takeSetup_keeps {v} (h : KeepsQueues s u) : KeepsQueues s (takeSetup u v) := by
  have hmode := setStation_keeps (v := stationFor u.number v.n) (setSetup_keeps (v := v) h)
  have hslot := examineSlot_keeps ((emptyPeers_keeps (n := v.n) (number := u.number) hmode).ite
    (p := ((u.setSetup v).setStation (stationFor u.number v.n)).station = .active) hmode)
  unfold takeSetup
  dsimp only
  refine driveLines_keeps (.ite (enterHot_keeps ?_) ?_) <;> exact .ite (setWarm_keeps hslot) hslot

theorem clearSticky_keeps (h : KeepsQueues s u) : KeepsQueues s (clearSticky u) :=
  setCond_keeps (setCond_keeps (setCond_keeps (setCond_keeps h)))

theorem clearCounts_keeps (h : KeepsQueues s u) : KeepsQueues s (clearCounts u) :=
  h.same (by simp [SameTraffic, clearCounts])

/-! #### The commands whose meaning has branches of its own -/

/-- A cold start empties every queue and leaves the transmitter Idle (R168). -/
theorem afterColdStart_keeps {number memory sectors freeCount pending} :
    KeepsQueues s (State.afterColdStart number memory sectors freeCount pending) := by
  simp [KeepsQueues, State.afterColdStart, Link.reset, State.QueuesOk, State.DemandOk, State.TrafficOk]

theorem completeOp_keeps {k : StoreOp → Bool} (h : completeOp s k = .next t) : KeepsQueues s t := by
  unfold completeOp at h
  split at h
  · split at h
    · split at h
      · cases h
        exact continueServing_keeps (serveReads_keeps (setStore_keeps (.refl s)))
      · cases h
    · cases h
      exact .refl s
  · cases h
    exact .refl s

theorem execRowPulse_keeps {dt} (h : execRowPulse dt s = .next t) : KeepsQueues s t := by
  have hedge := setTimer_keeps (v := (passTime dt s).timer.edge) (passTime_keeps (dt := dt) (.refl s))
  unfold execRowPulse at h
  dsimp only at h
  split at h <;> cases h
  · exact pulseActive_keeps hedge
  · exact hedge

theorem execOperationFailed_keeps (h : execOperationFailed s = .next t) : KeepsQueues s t := by
  have hfail : ∀ st n c v, KeepsQueues s (setCond (serveReads ((s.setStore st).setFreeCount n)) c v) := fun _ _ _ _ =>
    setCond_keeps (serveReads_keeps (setFreeCount_keeps (setStore_keeps (.refl s))))
  unfold execOperationFailed at h
  dsimp only at h
  split at h
  · split at h
    · split at h <;> cases h
      · exact endServing_keeps (failServing_keeps (hfail _ _ _ _))
      · exact hfail _ _ _ _
    · cases h
      exact .refl s
  · cases h
    exact .refl s

theorem execStoreReadRequest_keeps {reader what} (h : execStoreReadRequest reader what s = .next t) :
    KeepsQueues s t := by
  unfold execStoreReadRequest at h
  split at h <;> split at h
  · split at h <;> cases h
    · exact .refl s
    · exact requestRead_keeps (.refl s)
  · cases h
    exact .refl s
  · split at h <;> cases h
    · exact .refl s
    · exact requestLookup_keeps (.refl s)
  · cases h
    exact .refl s
  · split at h <;> cases h
    · exact .refl s
    · exact setStore_keeps (.refl s)
  · cases h
    exact .refl s

/-! #### Every command and every step -/

theorem exec_keeps {c : Instr} (h : exec c s = .next t) : KeepsQueues s t := by
  cases c <;> simp only [exec] at h
  case coldStart => cases h; exact afterColdStart_keeps
  case scanComplete =>
    cases h
    exact (endScan_keeps (.refl s)).ite (.refl s)
  case rowPulse => exact execRowPulse_keeps h
  case slwHoldExpiry =>
    cases h
    exact (driveSlw_keeps (.refl s)).ite (.refl s)
  case topOfForm => cases h; exact takeTof_keeps (.refl s)
  case frameAccepted => cases h; exact acceptFrame_keeps (.refl s)
  case frameReceiveError => cases h; exact receiveError_keeps (.refl s)
  case lineQuiet => cases h; exact lineQuiet_keeps (.refl s)
  case demand => cases h; exact acceptFrame_keeps (.refl s)
  case void => cases h; exact acceptFrame_keeps (.refl s)
  case setup =>
    unfold execSetup at h
    split at h
    · split at h <;> cases h
      · exact takeSetup_keeps (popCommand_keeps (.refl s))
      · exact popCommand_keeps (.refl s)
    · cases h; exact .refl s
  case query =>
    unfold execQuery at h
    split at h <;> cases h
    · exact pushRecord_keeps (popCommand_keeps (.refl s))
    · exact .refl s
  case clear =>
    unfold execClear at h
    split at h <;> cases h
    · exact clearSticky_keeps (clearCounts_keeps (popCommand_keeps (.refl s)))
    · exact .refl s
  case job =>
    unfold execJob at h
    split at h <;> cases h
    · exact takeJob_keeps (popCommand_keeps (.refl s))
    · exact .refl s
  case cancel =>
    unfold execCancel at h
    split at h <;> cases h
    · exact KeepsQueues.ite (.refl s) (takeCancel_keeps (popCommand_keeps (.refl s)))
    · exact .refl s
  case cancelAll =>
    unfold execCancelAll at h
    split at h <;> cases h
    · exact (takeCancelAll_keeps (popCommand_keeps (.refl s))).ite (.refl s)
    · exact .refl s
  case storeBegin => cases h; exact takeStoreHead_keeps (.refl s)
  case storeData => cases h; exact takeStoreHead_keeps (.refl s)
  case storeEnd => cases h; exact takeStoreHead_keeps (.refl s)
  case storeDelete => cases h; exact takeStoreHead_keeps (.refl s)
  case sectorEraseComplete => exact completeOp_keeps h
  case lineProgramComplete => exact completeOp_keeps h
  case markProgramComplete => exact completeOp_keeps h
  case operationFailed => exact execOperationFailed_keeps h
  case minimumRunComplete =>
    unfold execMinimumRunComplete at h
    split at h <;> cases h
    · exact setStore_keeps (.refl s)
    all_goals exact .refl s
  case suspendComplete =>
    unfold execSuspendComplete at h
    split at h <;> cases h
    · exact suspended_keeps (.refl s)
    all_goals exact .refl s
  case loadComplete =>
    unfold execLoadComplete at h
    split at h
    · cases h; exact .refl s
    · split at h <;> cases h
      · exact advanceRaster_keeps (endLoad_keeps (.refl s))
      · exact .refl s
  case renderComplete =>
    unfold execRenderComplete at h
    split at h
    · cases h; exact .refl s
    · split at h <;> cases h
      · exact advanceRaster_keeps (driveRdy_keeps (endRender_keeps (.refl s)))
      · exact .refl s
  case dataLoadComplete =>
    unfold execDataLoadComplete at h
    split at h
    · split at h <;> cases h
      · exact drivePlan_keeps (.refl s)
      · exact .refl s
    · cases h; exact .refl s
  case latchComplete =>
    unfold execLatchComplete at h
    split at h
    · split at h <;> cases h
      · exact drivePlan_keeps (.refl s)
      · exact .refl s
    · cases h; exact .refl s
  case mainPulseComplete =>
    unfold execMainPulseComplete at h
    split at h
    · split at h <;> cases h
      · exact afterPulse_keeps (.refl s)
      · exact .refl s
    · cases h; exact .refl s
  case boostPulseComplete =>
    unfold execBoostPulseComplete at h
    split at h
    · split at h <;> cases h
      · exact afterPulse_keeps (.refl s)
      · exact .refl s
    · cases h; exact .refl s
  case conversionComplete => cases h; exact takeReading_keeps (.refl s)
  case transmitOpportunity => cases h; exact transmitOpportunity_keeps (.refl s)
  case collision => cases h; exact collide_keeps (.refl s)
  case jamEnd => cases h; exact jamEnd_keeps (.refl s)
  case backoffEnd => cases h; exact backoffEnd_keeps (.refl s)
  case frameSent => cases h; exact frameSent_keeps (.refl s)
  case frameBegins => cases h; exact frameBegins_keeps (.refl s)
  case storeReadRequest => exact execStoreReadRequest_keeps h

theorem step_keepsQueues (h : step s = .next t) : KeepsQueues s t := by
  unfold step at h
  split at h
  · exact (setPending_keeps (.refl s)).trans (exec_keeps h)
  · cases h
    exact passTime_keeps (.refl s)

end Keeps

/-- Settles O9: every step carries each of the three invariants over. -/
theorem stepKeepsQueues : Obligations.StepKeepsQueues := by
  refine ⟨fun s t hq hd h => ?_, fun s t ht h => ?_⟩
  · obtain ⟨hqueues, hdemand, -⟩ := step_keepsQueues h
    exact ⟨hqueues hq, hdemand hd⟩
  · obtain ⟨-, -, htraffic⟩ := step_keepsQueues h
    exact htraffic ht

/-! ### Reset (O7) -/

/-- Settles O7: each block is empty or idle at reset, and the two lines are down with their conditions false. -/
theorem resetIsSafe : Obligations.ResetIsSafe := by
  refine ⟨State.reset_memory_wf, ?_, ?_, ?_, ?_, ?_, ?_, ?_, ?_, ?_⟩
  case refine_1 => simp [State.reset, State.afterColdStart, Link.reset, State.QueuesOk]
  case refine_2 => simp [State.LinesOk]; decide
  case refine_3 => simp [State.reset, State.afterColdStart, State.RingOk, Ring.empty]
  case refine_4 => simp [State.reset, State.afterColdStart, State.RangesOk, Link.reset, Counts.zero]
  case refine_5 => simp [State.reset, State.afterColdStart, Link.reset, State.DemandOk]
  case refine_6 => rfl
  case refine_7 => simp [State.reset, State.afterColdStart, State.StoreOk, Store.reset, Store.ServingOk]
  case refine_8 => simp [State.reset, State.afterColdStart, Link.reset, State.TrafficOk]
  case refine_9 => simp [State.reset, State.afterColdStart, Link.reset, State.InertOk]

end Sys2Proof.Machine

/-! ### What the shared operations do to the parts of a block

The frames of Laws/Frames.lean say which blocks an operation leaves as they are; these lemmas say which parts of the
link, the report unit, the ring and the store it leaves, and what becomes of the two contexts. -/

namespace Sys2Proof.Machine

/-! #### Equality of states and links, field by field -/

@[ext] theorem State.ext {s t : State} (station : s.station = t.station) (number : s.number = t.number)
    (setup : s.setup = t.setup) (seq : s.seq = t.seq) (ctxA : s.ctxA = t.ctxA) (ctxB : s.ctxB = t.ctxB)
    (loader : s.loader = t.loader) (raster : s.raster = t.raster) (ring : s.ring = t.ring)
    (timer : s.timer = t.timer) (plan : s.plan = t.plan) (head : s.head = t.head) (thermal : s.thermal = t.thermal)
    (lines : s.lines = t.lines) (link : s.link = t.link) (peers : s.peers = t.peers) (store : s.store = t.store)
    (report : s.report = t.report) (freeCount : s.freeCount = t.freeCount) (pending : s.pending = t.pending) :
    s = t := by
  cases s; cases t; simp_all

@[ext] theorem Link.ext {l m : Link} (receiver : l.receiver = m.receiver) (quiet : l.quiet = m.quiet)
    (held : l.held = m.held) (commandQueue : l.commandQueue = m.commandQueue) (storeQueue : l.storeQueue = m.storeQueue)
    (voidQueue : l.voidQueue = m.voidQueue) (demand : l.demand = m.demand) (backlog : l.backlog = m.backlog)
    (tx : l.tx = m.tx) (rng : l.rng = m.rng) (counts : l.counts = m.counts) : l = m := by
  cases l; cases m; simp_all

@[ext] theorem Counts.ext {a b : Counts} (badFrames : a.badFrames = b.badFrames) (collisions : a.collisions = b.collisions)
    (excessive : a.excessive = b.excessive) (dropped : a.dropped = b.dropped) (stale : a.stale = b.stale) : a = b := by
  cases a; cases b; simp_all

@[ext] theorem Ring.ext {a b : Ring} (history : a.history = b.history) (firing : a.firing = b.firing)
    (lead : a.lead = b.lead) : a = b := by
  cases a; cases b; simp_all

/-- Two stores that differ only in what the controller is doing and in the holds. -/
theorem Store.ext_kept {a b : Store} (memory : a.memory = b.memory) (catalog : a.catalog = b.catalog)
    (sectors : a.sectors = b.sectors) (write : a.write = b.write) :
    a = { a with memory := b.memory, catalog := b.catalog, sectors := b.sectors, write := b.write } := by
  rw [← memory, ← catalog, ← sectors, ← write]

/-! #### The two context records -/

@[simp] theorem CtxId.other_ne (i : CtxId) : i.other ≠ i := by cases i <;> simp [CtxId.other]
@[simp] theorem CtxId.ne_other (i : CtxId) : i ≠ i.other := by cases i <;> simp [CtxId.other]
@[simp] theorem CtxId.other_other (i : CtxId) : i.other.other = i := by cases i <;> rfl

theorem CtxId.eq_or_eq_other (i j : CtxId) : j = i ∨ j = i.other := by cases i <;> cases j <;> simp [CtxId.other]

theorem CtxId.eq_other_of_ne {i j : CtxId} (h : j ≠ i) : j = i.other := (CtxId.eq_or_eq_other i j).resolve_left h

@[simp] theorem State.setCtx_ctx_of_other (s : State) (i : CtxId) (c : Context) :
    (s.setCtx i c).ctx i.other = s.ctx i.other := State.setCtx_ctx_other _ _ _ _ (CtxId.other_ne i)

theorem State.ctx_of_contexts {s t : State} (hA : t.ctxA = s.ctxA) (hB : t.ctxB = s.ctxB) (j : CtxId) :
    t.ctx j = s.ctx j := by
  cases j
  · exact hA
  · exact hB

theorem State.findCtx_congr {s t : State} {p q : Context → Bool} (h : ∀ j, p (t.ctx j) = q (s.ctx j)) :
    t.findCtx p = s.findCtx q := by
  have hA : p t.ctxA = q s.ctxA := h .a
  have hB : p t.ctxB = q s.ctxB := h .b
  simp [State.findCtx, hA, hB]

theorem State.findCtx_eq_some {s : State} {p : Context → Bool} {i : CtxId} (h : s.findCtx p = some i) :
    p (s.ctx i) = true := by
  unfold State.findCtx at h
  split at h
  · cases h; assumption
  · split at h <;> cases h
    assumption

theorem State.findCtx_eq_none {s : State} {p : Context → Bool} :
    s.findCtx p = none ↔ ∀ j, p (s.ctx j) = false := by
  constructor
  · intro h j
    unfold State.findCtx at h
    split at h
    · cases h
    · split at h
      · cases h
      · cases j <;> simp_all [State.ctx]
  · intro h
    have hA := h .a
    have hB := h .b
    simp_all [State.findCtx, State.ctx]

/-- The one record that satisfies `p` is found. -/
theorem State.findCtx_of_unique {s : State} {p : Context → Bool} {i : CtxId} (h : p (s.ctx i) = true)
    (h' : p (s.ctx i.other) = false) : s.findCtx p = some i := by
  cases i <;> simp_all [State.findCtx, State.ctx, CtxId.other]

/-- Of two records that satisfy `p`, A is found (log 9). -/
theorem State.findCtx_of_first {s : State} {p : Context → Bool} {i : CtxId} (h : p (s.ctx i) = true)
    (h' : i = .b → p s.ctxA = false) : s.findCtx p = some i := by
  cases i <;> simp_all [State.findCtx, State.ctx]

theorem Context.isFree_iff {c : Context} : c.isFree = true ↔ c.state = .free := by simp [Context.isFree]
theorem Context.isFree_eq_false {c : Context} : c.isFree = false ↔ c.state ≠ .free := by simp [Context.isFree]

theorem Context.holds_iff {c : Context} {seq : Nat} : c.holds seq = true ↔ c.state ≠ .free ∧ c.seq = seq := by
  simp [Context.holds, Context.isFree]

theorem Context.holds_eq_false {c : Context} {seq : Nat} : c.holds seq = false ↔ c.state = .free ∨ c.seq ≠ seq := by
  simp only [← Bool.not_eq_true, Context.holds_iff, not_and_or, not_not]

@[simp] theorem Context.free_holds (seq : Nat) : Context.free.holds seq = false := rfl

/-- The context of a running label of this seq is in Running or Ending, and its label has the seq. -/
theorem State.runningLabelCtx_eq_some {s : State} {seq : Nat} {i : CtxId} (h : s.runningLabelCtx seq = some i) :
    (s.ctx i).isRunningLabel = true ∧ (s.ctx i).seq = seq := by
  simpa using State.findCtx_eq_some h

theorem Context.holds_of_runningLabel {c : Context} {seq : Nat} (h : c.isRunningLabel = true) (hs : c.seq = seq) :
    c.holds seq = true := by
  rw [Context.holds_iff]
  refine ⟨fun hf => ?_, hs⟩
  simp [Context.isRunningLabel, hf] at h

/-- Which record holds the running label depends on the states and the seqs of the two contexts alone. -/
theorem State.runningLabelCtx_congr {s t : State} (h : ∀ j, (t.ctx j).state = (s.ctx j).state ∧ (t.ctx j).seq = (s.ctx j).seq)
    (seq : Nat) : t.runningLabelCtx seq = s.runningLabelCtx seq := by
  refine State.findCtx_congr fun j => ?_
  obtain ⟨hst, hseq⟩ := h j
  simp [Context.isRunningLabel, hst, hseq]

/-! #### What the operations leave of the link -/

/-- From `l` to `m` the transmitter alone moves. -/
def Link.OnlyTx (l m : Link) : Prop := m = { l with tx := m.tx }

/-- From `l` to `m` the pending DEMAND frame, its backlog and the transmitter move (R104). -/
def Link.OnlyDemand (l m : Link) : Prop := m = { l with demand := m.demand, backlog := m.backlog, tx := m.tx }

/-- From `l` to `m` the VOID queue, the count of dropped frames and the transmitter move (R12, R139). -/
def Link.OnlyVoids (l m : Link) : Prop :=
  m = { l with voidQueue := m.voidQueue, tx := m.tx, counts := { l.counts with dropped := m.counts.dropped } }

/-- From `l` to `m` the parts move that the labels reach. -/
def Link.OnlyLabels (l m : Link) : Prop := m = l.withLabelTraffic m

section LinkParts
variable {l m n : Link}

theorem Link.OnlyTx.refl (l : Link) : l.OnlyTx l := rfl
theorem Link.OnlyDemand.refl (l : Link) : l.OnlyDemand l := rfl
theorem Link.OnlyVoids.refl (l : Link) : l.OnlyVoids l := rfl

theorem Link.OnlyTx.trans (h : l.OnlyTx m) (h' : m.OnlyTx n) : l.OnlyTx n := by
  unfold Link.OnlyTx at *
  rw [h', h]

theorem Link.OnlyDemand.trans (h : l.OnlyDemand m) (h' : m.OnlyDemand n) : l.OnlyDemand n := by
  unfold Link.OnlyDemand at *
  rw [h', h]

theorem Link.OnlyVoids.trans (h : l.OnlyVoids m) (h' : m.OnlyVoids n) : l.OnlyVoids n := by
  unfold Link.OnlyVoids at *
  rw [h', h]

theorem Link.OnlyLabels.trans (h : l.OnlyLabels m) (h' : m.OnlyLabels n) : l.OnlyLabels n := by
  unfold Link.OnlyLabels Link.withLabelTraffic at *
  rw [h', h]

theorem Link.OnlyTx.voids (h : l.OnlyTx m) : l.OnlyVoids m := by
  unfold Link.OnlyTx Link.OnlyVoids at *
  rw [h]

theorem Link.OnlyTx.labels (h : l.OnlyTx m) : l.OnlyLabels m := by
  unfold Link.OnlyTx Link.OnlyLabels Link.withLabelTraffic at *
  rw [h]

theorem Link.OnlyVoids.labels (h : l.OnlyVoids m) : l.OnlyLabels m := by
  unfold Link.OnlyVoids Link.OnlyLabels Link.withLabelTraffic at *
  rw [h]

theorem Link.OnlyDemand.labels (h : l.OnlyDemand m) : l.OnlyLabels m := by
  unfold Link.OnlyDemand Link.OnlyLabels Link.withLabelTraffic at *
  rw [h]

theorem Link.OnlyVoids.counts_eq (h : l.OnlyVoids m) :
    m = { l with voidQueue := m.voidQueue, tx := m.tx, counts := m.counts } := by
  unfold Link.OnlyVoids at h
  rw [h]

theorem Link.OnlyTx.voidQueue (h : l.OnlyTx m) : m.voidQueue = l.voidQueue := by rw [h]
theorem Link.OnlyTx.counts (h : l.OnlyTx m) : m.counts = l.counts := by rw [h]
theorem Link.OnlyDemand.voidQueue (h : l.OnlyDemand m) : m.voidQueue = l.voidQueue := by rw [h]
theorem Link.OnlyDemand.counts (h : l.OnlyDemand m) : m.counts = l.counts := by rw [h]

end LinkParts

theorem setCond_onlyTx (s : State) (c : Cond) (v : Bool) : s.link.OnlyTx (setCond s c v).link := setCond_link s c v

theorem driveSlw_onlyTx (s : State) : s.link.OnlyTx (driveSlw s).link := setCond_onlyTx _ _ _

theorem pushRecord_onlyTx (s : State) (r : Record) : s.link.OnlyTx (pushRecord s r).link := by
  unfold pushRecord
  split
  · rfl
  · exact setCond_onlyTx _ _ _

theorem completeLabel_onlyTx (s : State) (i : CtxId) : s.link.OnlyTx (completeLabel s i).link := by
  simpa [completeLabel] using pushRecord_onlyTx (s.setCtx i Context.free) (.label (s.ctx i).record)

theorem completeIfEnding_onlyTx (s : State) (i : CtxId) : s.link.OnlyTx (completeIfEnding s i).link := by
  unfold completeIfEnding
  split
  · exact completeLabel_onlyTx s i
  · exact .refl _

/-- A row that ends without the finding short sends no VOID. -/
theorem endRow_onlyTx (s : State) (seq : Nat) (trimmed miss : Bool) :
    s.link.OnlyTx (endRow s seq trimmed miss false).link := by
  unfold endRow
  split
  · exact .refl _
  · rename_i i _
    simpa using completeIfEnding_onlyTx (s.setCtx i ((s.ctx i).rowEnded trimmed miss)) i

theorem endFlight_onlyTx (s : State) (p : Plan) (trimmed : Bool) : s.link.OnlyTx (endFlight s p trimmed false).link :=
  endRow_onlyTx _ _ _ _

theorem stopRow_onlyTx (s : State) : s.link.OnlyTx (stopRow s).link := by
  unfold stopRow
  split
  · exact .refl _
  · split
    · exact .refl _
    · exact endFlight_onlyTx _ _ _

theorem stopRowOf_onlyTx (s : State) (seq : Nat) : s.link.OnlyTx (stopRowOf s seq).link := by
  unfold stopRowOf
  split
  · split
    · exact stopRow_onlyTx s
    · exact .refl _
  · exact .refl _

theorem afterMark_onlyTx (s : State) (seq : Nat) : s.link.OnlyTx (afterMark s seq).link := by
  simpa [afterMark] using stopRowOf_onlyTx (stopLoadOf s seq) seq

theorem endRunning_onlyTx (s : State) : s.link.OnlyTx (endRunning s).link := by
  unfold endRunning
  dsimp only
  split
  · exact .refl _
  · split
    · exact completeLabel_onlyTx (s.setRing _) _
    · split
      · simpa using Link.OnlyTx.refl s.link
      · simpa using completeLabel_onlyTx ((s.setRing _).setCtx _ _) _

theorem countDropped_onlyVoids (s : State) : s.link.OnlyVoids (countDropped s).link := by
  unfold Link.OnlyVoids
  rw [countDropped_eq, setCond_link]

theorem pushVoid_onlyVoids (s : State) (f : VoidFrame) : s.link.OnlyVoids (pushVoid s f).link := by
  unfold pushVoid
  split
  · rfl
  · exact countDropped_onlyVoids s

theorem ownVoid_onlyVoids (s : State) (seq : Nat) (reason : Reason) : s.link.OnlyVoids (ownVoid s seq reason).link := by
  unfold ownVoid
  split
  · exact .refl _
  · simpa using pushVoid_onlyVoids (markVoided s seq reason) { seq := seq, reason := reason }

theorem formDemand_onlyDemand (s : State) : s.link.OnlyDemand (formDemand s).link := by
  unfold formDemand
  split
  · exact .refl _
  · split <;> rfl

theorem discardDemand_onlyDemand (s : State) : s.link.OnlyDemand (discardDemand s).link :=
  .trans (m := (s.setLink { s.link with demand := none, tx := s.link.tx.dropDemand }).link) rfl
    (formDemand_onlyDemand _)

theorem trimDemand_onlyDemand (s : State) : s.link.OnlyDemand (trimDemand s).link := by
  unfold trimDemand
  split
  · exact .refl _
  · dsimp only
    split
    · exact discardDemand_onlyDemand s
    · rfl

theorem purgeStale_onlyDemand (s : State) : s.link.OnlyDemand (purgeStale s).link := by
  have hback : s.link.OnlyDemand ((purgePeers s).setLink
      { (purgePeers s).link with backlog := (purgePeers s).freshEntries (purgePeers s).link.backlog }).link := by
    simp [Link.OnlyDemand]
  unfold purgeStale removeStaleDemands
  dsimp only
  split
  · split
    · exact hback
    · exact hback.trans (trimDemand_onlyDemand _)
  · exact hback

/-! #### What the operations leave of the report unit -/

/-- From `s` to `t` a set condition Frames dropped or Reports dropped stays set. -/
def DropsStay (s t : State) : Prop :=
  ∀ d : Cond, d = .framesDropped ∨ d = .reportsDropped → d.isIn s.report.values = true → d.isIn t.report.values = true

section Reports
variable {s t u : State}

theorem DropsStay.of_values (h : t.report.values = s.report.values) : DropsStay s t := by simp [DropsStay, h]

theorem DropsStay.of_report (h : t.report = s.report) : DropsStay s t := .of_values (by rw [h])

theorem DropsStay.trans (h : DropsStay s u) (h' : DropsStay u t) : DropsStay s t := fun d hd hs => h' d hd (h d hd hs)

theorem setCond_true_dropsStay (s : State) (c : Cond) : DropsStay s (setCond s c true) := by
  intro d _ hs
  by_cases hc : d = c
  · simp [hc]
  · rw [setCond_isIn_other _ _ _ _ hc, hs]

theorem setSlow_dropsStay (s : State) (v : Bool) : DropsStay s (setCond s .slow v) := by
  intro d hd hs
  rw [setCond_isIn_other, hs]
  rintro rfl
  simp at hd

theorem driveSlw_dropsStay (s : State) : DropsStay s (driveSlw s) :=
  DropsStay.trans (u := s.setLines { s.lines with slwAsserted := s.thermal.slwCondition }) (.of_report rfl)
    (setSlow_dropsStay _ _)

theorem pushRecord_dropsStay (s : State) (r : Record) : DropsStay s (pushRecord s r) := by
  unfold pushRecord
  split
  · exact .of_values rfl
  · exact setCond_true_dropsStay s _

theorem pushVoid_dropsStay (s : State) (f : VoidFrame) : DropsStay s (pushVoid s f) := by
  unfold pushVoid
  split
  · exact .of_values rfl
  · exact (DropsStay.of_values (by simp)).trans (setCond_true_dropsStay _ _)

@[simp] theorem countDropped_queue (s : State) : (countDropped s).report.queue = s.report.queue := by
  rw [countDropped_eq, setCond_queue]

@[simp] theorem pushVoid_queue (s : State) (f : VoidFrame) : (pushVoid s f).report.queue = s.report.queue := by
  unfold pushVoid
  split <;> simp

@[simp] theorem ownVoid_queue (s : State) (seq : Nat) (reason : Reason) :
    (ownVoid s seq reason).report.queue = s.report.queue := by
  unfold ownVoid
  split <;> simp

theorem ownVoid_dropsStay (s : State) (seq : Nat) (reason : Reason) : DropsStay s (ownVoid s seq reason) := by
  unfold ownVoid
  split
  · exact .of_report rfl
  · exact (DropsStay.of_report (by simp)).trans (pushVoid_dropsStay _ _)

@[simp] theorem driveSlw_queue (s : State) : (driveSlw s).report.queue = s.report.queue := by simp [driveSlw]

/-- A VOID placed in a state with the same queue and counts, with steps after it that leave both. -/
theorem VoidPlaced.mono {s' t' : State} {f : VoidFrame} (h : VoidPlaced s f t)
    (hq : s.link.voidQueue = s'.link.voidQueue) (hc : s.link.counts = s'.link.counts)
    (hq' : t'.link.voidQueue = t.link.voidQueue) (hc' : t'.link.counts = t.link.counts) (hd : DropsStay t t') :
    VoidPlaced s' f t' := by
  obtain ⟨hroom, hfull⟩ := h
  rw [hq, hc] at hroom hfull
  rw [VoidPlaced, hq', hc']
  refine ⟨hroom, fun hlen => ?_⟩
  obtain ⟨hv, hn, hset⟩ := hfull hlen
  exact ⟨hv, hn, hd _ (.inl rfl) hset⟩

/-- A record placed in a state with the same report queue, with steps after it that leave the queue. -/
theorem RecordPlaced.mono {s' t' : State} {r : Record} (h : RecordPlaced s r t)
    (hq : s.report.queue = s'.report.queue) (hq' : t'.report.queue = t.report.queue) (hd : DropsStay t t') :
    RecordPlaced s' r t' := by
  obtain ⟨hroom, hfull⟩ := h
  rw [hq] at hroom hfull
  rw [RecordPlaced, hq']
  refine ⟨hroom, fun hlen => ?_⟩
  obtain ⟨hr, hset⟩ := hfull hlen
  exact ⟨hr, hd _ (.inr rfl) hset⟩

end Reports

end Sys2Proof.Machine

/-! ### The rasterizer, arming and the loader's hold -/

namespace Sys2Proof.Machine

/-! #### The rasterizer's work in an event (R60) -/

/-- A rasterizer that is rendering does nothing. -/
theorem advanceRaster_of_rendering {s : State} {r : Render} (h : s.raster.rendering = some r) : advanceRaster s = s := by
  simp [advanceRaster, h]

/-- The idle rasterizer begins at most one render: one slot in Rendering joins the lead's tail. -/
theorem advanceRaster_ring (s : State) : ∃ new : List Slot, new.length ≤ 1 ∧ (∀ x ∈ new, x.state = .rendering)
    ∧ (advanceRaster s).ring = { s.ring with lead := s.ring.lead ++ new } := by
  have hnone : ∃ new : List Slot, new.length ≤ 1 ∧ (∀ x ∈ new, x.state = .rendering)
      ∧ s.ring = { s.ring with lead := s.ring.lead ++ new } := ⟨[], by simp⟩
  unfold advanceRaster
  split
  · unfold tryRender
    split
    · split
      · rename_i p _ _
        refine ⟨[renderingSlot ((buildLists (passRows (takePosition s))).ctx p.ctx).seq p.row], by simp,
          by simp [renderingSlot], ?_⟩
        unfold beginRender
        dsimp only
        split <;> simp
      · simpa using hnone
    · simpa using hnone
  · exact hnone

@[simp] theorem advanceRaster_history (s : State) : (advanceRaster s).ring.history = s.ring.history := by
  obtain ⟨new, -, -, h⟩ := advanceRaster_ring s
  rw [h]

@[simp] theorem advanceRaster_firing (s : State) : (advanceRaster s).ring.firing = s.ring.firing := by
  obtain ⟨new, -, -, h⟩ := advanceRaster_ring s
  rw [h]

@[simp] theorem leaveIfOn_rendering (s : State) (i : CtxId) :
    (leaveIfOn s i).raster.rendering = s.raster.rendering := by
  unfold leaveIfOn
  split
  · split <;> simp [leaveLabel, setPosition]
  · rfl

@[simp] theorem moveToStarted_rendering (s : State) (i : CtxId) :
    (moveToStarted s i).raster.rendering = s.raster.rendering := by
  unfold moveToStarted movePosition
  split
  · rfl
  · split <;> simp [leaveLabel, setPosition]

/-! #### Arming (R21) -/

theorem JobEntry.toContext_eq (e : JobEntry) : e.toContext = { Context.free with
    state := .loading, seq := e.seq, kind := e.kind, form := e.form, darkness := e.darkness, fields := e.fields,
    voided := e.voided, cancelled := e.cancelled } := rfl

/-- The head is held by a next context of its seq. -/
theorem State.headHeld_iff {s : State} {e : JobEntry} :
    s.headHeld e = true ↔ ∃ j, (s.ctx j).isNext = true ∧ (s.ctx j).seq = e.seq := by
  constructor
  · intro h
    rcases Bool.or_eq_true_iff.1 h with h | h
    · exact ⟨.a, by simpa [State.ctx] using h⟩
    · exact ⟨.b, by simpa [State.ctx] using h⟩
  · rintro ⟨j, hj⟩
    cases j <;> simp_all [State.headHeld, State.ctx]

/-- Which heads are held depends on the next contexts and their seqs alone. -/
theorem State.headHeld_congr {s t : State} (h : ∀ j, (t.ctx j).isNext = (s.ctx j).isNext
    ∧ ((s.ctx j).isNext = true → (t.ctx j).seq = (s.ctx j).seq)) (e : JobEntry) : t.headHeld e = s.headHeld e := by
  rw [Bool.eq_iff_iff, State.headHeld_iff, State.headHeld_iff]
  refine exists_congr fun j => ?_
  obtain ⟨hnext, hseq⟩ := h j
  rw [hnext]
  exact and_congr_right fun hj => by rw [hseq hj]

/-- The Free record that arming takes: A before B (log 9). -/
theorem arm_of_free {s : State} {e : JobEntry} {rest : List JobEntry} {i : CtxId} (hs : s.station = .active)
    (hq : s.seq.queue = e :: rest) (hh : s.headHeld e = false) (hi : (s.ctx i).state = .free)
    (hA : i = .b → s.ctxA.state ≠ .free) :
    arm s = (s.setCtx i e.toContext).setLoader (if e.loads then some (Load.start i (e.form.getD 0)) else s.loader) := by
  have hfind : s.findCtx Context.isFree = some i :=
    State.findCtx_of_first (Context.isFree_iff.2 hi) fun hb => Context.isFree_eq_false.2 (hA hb)
  simp [arm, hq, hfind, hs, hh]

/-- With no entry that a Free record could take, nothing is armed. -/
theorem arm_of_nothing {s : State} (h : (∀ e ∈ s.seq.queue.head?, s.headHeld e = true)
    ∨ (s.ctxA.state ≠ .free ∧ s.ctxB.state ≠ .free)) : arm s = s := by
  unfold arm
  split
  · rename_i e rest i hq hfind
    rcases h with h | ⟨hA, hB⟩
    · rw [if_neg]
      simp [h e (by simp [hq])]
    · have hfree := Context.isFree_iff.1 (State.findCtx_eq_some hfind)
      cases i
      · exact absurd hfree hA
      · exact absurd hfree hB
  · rfl

theorem arm_of_empty {s : State} (h : s.seq.queue = []) : arm s = s := arm_of_nothing (.inl (by simp [h]))

/-- What arming can do: nothing, or the head enters a Free record into Loading. -/
theorem arm_cases (s : State) : arm s = s ∨ ∃ e rest i, s.seq.queue = e :: rest ∧ s.headHeld e = false
    ∧ (s.ctx i).state = .free ∧ (i = .b → s.ctxA.state ≠ .free)
    ∧ arm s = (s.setCtx i e.toContext).setLoader (if e.loads then some (Load.start i (e.form.getD 0)) else s.loader) := by
  unfold arm
  split
  · rename_i e rest i hq hfind
    split
    · rename_i hc
      refine .inr ⟨e, rest, i, hq, hc.2, Context.isFree_iff.1 (State.findCtx_eq_some hfind), ?_, rfl⟩
      rintro rfl hfree
      simp [State.findCtx, Context.isFree, hfree] at hfind
    · exact .inl rfl
  · exact .inl rfl

/-- Arming touches Free records only. -/
theorem arm_ctx_of_not_free {s : State} {j : CtxId} (h : (s.ctx j).state ≠ .free) : (arm s).ctx j = s.ctx j := by
  rcases arm_cases s with harm | ⟨e, rest, i, -, -, hi, -, harm⟩
  · rw [harm]
  · rw [harm, State.setLoader_ctx, State.setCtx_ctx_other]
    rintro rfl
    exact h hi

/-- A Free record stays, or takes the head. -/
theorem arm_ctx_of_free (s : State) (j : CtxId) : (arm s).ctx j = s.ctx j
    ∨ ∃ e rest, s.seq.queue = e :: rest ∧ (arm s).ctx j = e.toContext := by
  rcases arm_cases s with harm | ⟨e, rest, i, hq, -, hi, -, harm⟩
  · exact .inl (by rw [harm])
  · rw [harm, State.setLoader_ctx, State.setCtx_ctx]
    by_cases hj : j = i
    · exact .inr ⟨e, rest, hq, if_pos hj⟩
    · exact .inl (if_neg hj)

/-- The load in progress stays, or one begins for a record that was Free. -/
theorem arm_loader_cases (s : State) : (arm s).loader = s.loader
    ∨ ∃ l, (arm s).loader = some l ∧ (s.ctx l.ctx).state = .free := by
  rcases arm_cases s with harm | ⟨e, rest, i, -, -, hi, -, harm⟩
  · exact .inl (by rw [harm])
  · rw [harm, State.setLoader_loader]
    split
    · exact .inr ⟨_, rfl, hi⟩
    · exact .inl rfl

theorem JobEntry.loads_iff (e : JobEntry) :
    e.loads = true ↔ e.kind = .job ∧ e.voided = none ∧ e.cancelled = false := by
  simp [JobEntry.loads, and_assoc]

/-- Arming is the arming of R21 on the queue as it stands. -/
theorem arm_armsHead {s : State} (hs : s.station = .active) : s.ArmsHead s.seq.queue (arm s) := by
  refine fun e rest hq => ⟨fun hno => ?_, fun i hh hi hA => ?_⟩
  · rw [arm_of_nothing (hno.imp_left fun h => by simpa [hq] using h)]
    exact ⟨rfl, rfl, rfl⟩
  · rw [arm_of_free hs hq hh hi hA]
    refine ⟨by simp [JobEntry.toContext_eq], by simp, ?_⟩
    simp only [State.setLoader_loader, JobEntry.loads_iff]
    rfl

/-- The arming of R21 speaks of the contexts and the loader alone. -/
theorem State.ArmsHead.congr {s s' t t' : State} {q : List JobEntry} (h : s.ArmsHead q t)
    (hA : s'.ctxA = s.ctxA) (hB : s'.ctxB = s.ctxB) (hl : s'.loader = s.loader)
    (hA' : t'.ctxA = t.ctxA) (hB' : t'.ctxB = t.ctxB) (hl' : t'.loader = t.loader) : s'.ArmsHead q t' := by
  simpa only [State.ArmsHead, State.headHeld, State.ctx_of_contexts hA hB, State.ctx_of_contexts hA' hB',
    hA, hB, hl, hA', hB', hl'] using h

@[simp] theorem settle_ctx (s : State) (j : CtxId) : (settle s).ctx j = (arm s).ctx j := by simp [settle]
@[simp] theorem settle_ctxA (s : State) : (settle s).ctxA = (arm s).ctxA := by simp [settle]
@[simp] theorem settle_ctxB (s : State) : (settle s).ctxB = (arm s).ctxB := by simp [settle]
@[simp] theorem settle_loader (s : State) : (settle s).loader = (arm s).loader := by simp [settle]
@[simp] theorem settle_history (s : State) : (settle s).ring.history = s.ring.history := by simp [settle]
@[simp] theorem settle_firing (s : State) : (settle s).ring.firing = s.ring.firing := by simp [settle]

/-- What an event may set going arms the head of the queue as it stands. -/
theorem settle_armsHead {s : State} (hs : s.station = .active) : s.ArmsHead s.seq.queue (settle s) :=
  (arm_armsHead hs).congr rfl rfl rfl (by simp) (by simp) (by simp)

/-! #### The end of a load's hold (R53, R165) -/

/-- Beginning the next operation moves neither the memory and its directory nor the holds. -/
@[simp] theorem Store.beginDue_frame (st : Store) : st.beginDue.memory = st.memory ∧ st.beginDue.catalog = st.catalog
    ∧ st.beginDue.sectors = st.sectors ∧ st.beginDue.write = st.write ∧ st.beginDue.holdLoader = st.holdLoader
    ∧ st.beginDue.holdRaster = st.holdRaster ∧ st.beginDue.waitRaster = st.waitRaster := by
  unfold Store.beginDue
  split
  · split <;> simp
  · simp

@[simp] theorem Store.resume_frame (st : Store) : st.resume.memory = st.memory ∧ st.resume.catalog = st.catalog
    ∧ st.resume.sectors = st.sectors ∧ st.resume.write = st.write ∧ st.resume.holdLoader = st.holdLoader
    ∧ st.resume.holdRaster = st.holdRaster ∧ st.resume.waitRaster = st.waitRaster := by
  unfold Store.resume
  split
  · split <;> simp
  · simp

@[simp] theorem Store.releaseLoader_frame (st : Store) : st.releaseLoader.memory = st.memory
    ∧ st.releaseLoader.catalog = st.catalog ∧ st.releaseLoader.sectors = st.sectors
    ∧ st.releaseLoader.write = st.write ∧ st.releaseLoader.holdLoader = false
    ∧ st.releaseLoader.holdRaster = st.holdRaster ∧ st.releaseLoader.waitRaster = st.waitRaster := by
  unfold Store.releaseLoader
  split <;> simp_all

/-- Stopping a context's load: the loader is idle and its hold ends, or the load is another context's. -/
theorem stopLoad_cases (s : State) (i : CtxId) :
    (stopLoad s i = s ∧ ∀ l, s.loader = some l → l.ctx ≠ i)
    ∨ stopLoad s i = (s.setLoader none).setStore s.store.releaseLoader := by
  unfold stopLoad
  split
  · split
    · exact .inr rfl
    · rename_i l hl hne
      refine .inl ⟨rfl, fun k hk => ?_⟩
      obtain rfl : l = k := Option.some.inj (hl.symm.trans hk)
      exact hne
  · rename_i hl
    exact .inl ⟨rfl, fun l h => by simp [hl] at h⟩

@[simp] theorem stopLoad_storeFrame (s : State) (i : CtxId) : (stopLoad s i).store.memory = s.store.memory
    ∧ (stopLoad s i).store.catalog = s.store.catalog ∧ (stopLoad s i).store.sectors = s.store.sectors
    ∧ (stopLoad s i).store.write = s.store.write ∧ (stopLoad s i).store.holdRaster = s.store.holdRaster
    ∧ (stopLoad s i).store.waitRaster = s.store.waitRaster := by
  rcases stopLoad_cases s i with ⟨h, -⟩ | h <;> rw [h] <;> simp

@[simp] theorem stopLoadOf_storeFrame (s : State) (seq : Nat) : (stopLoadOf s seq).store.memory = s.store.memory
    ∧ (stopLoadOf s seq).store.catalog = s.store.catalog ∧ (stopLoadOf s seq).store.sectors = s.store.sectors
    ∧ (stopLoadOf s seq).store.write = s.store.write := by
  unfold stopLoadOf
  split
  · split <;> simp
  · simp

end Sys2Proof.Machine

/-! ### Taking a JOB (O32 to O35) -/

namespace Sys2Proof.Machine

/-! #### The field list (R4) -/

/-- The last entry of a number in the list. -/
def lastField (entries : List Field) (n : Nat) : Option Field := (entries.filter fun f => f.number = n).getLast?

theorem lastField_append (entries : List Field) (f : Field) (n : Nat) :
    lastField (entries ++ [f]) n = if f.number = n then some f else lastField entries n := by
  unfold lastField
  split <;> simp_all

theorem resolveFields_append (entries : List Field) (f : Field) :
    resolveFields (entries ++ [f]) = putField (resolveFields entries) f := by
  simp [resolveFields]

theorem putField_mem {fs : List Field} {f g : Field} (h : g ∈ putField fs f) :
    g ∈ fs ∨ (g = f ∧ 1 ≤ f.number ∧ f.number ≤ 16) := by
  unfold putField at h
  split at h
  · rename_i hn
    split at h
    · obtain ⟨x, hx, hg⟩ := List.mem_map.1 h
      split at hg
      · exact .inr ⟨hg.symm, hn⟩
      · exact .inl (hg ▸ hx)
    · rcases List.mem_append.1 h with h | h
      · exact .inl h
      · exact .inr ⟨by simpa using h, hn⟩
  · exact .inl h

/-- Each number stands once in the list. -/
theorem putField_pairwise {fs : List Field} (h : fs.Pairwise fun f g => f.number ≠ g.number) (f : Field) :
    (putField fs f).Pairwise fun f g => f.number ≠ g.number := by
  unfold putField
  split
  · split
    · have hnum : ∀ x : Field, (if x.number = f.number then f else x).number = x.number := by
        intro x
        split <;> simp_all
      simpa [List.pairwise_map, hnum] using h
    · rename_i hnew
      simp only [List.any_eq_true, decide_eq_true_eq, not_exists, not_and] at hnew
      exact List.pairwise_append.2 ⟨h, by simp, fun x hx y hy => by
        obtain rfl : y = f := by simpa using hy
        exact hnew x hx⟩
  · exact h

/-- A field that replaces the entries of its number leaves those of another number. -/
theorem find_replace_other (fs : List Field) {f : Field} {n : Nat} (hf : f.number ≠ n) :
    (fs.map fun x => if x.number = f.number then f else x).find? (fun x => x.number = n)
      = fs.find? (fun x => x.number = n) := by
  induction fs with
  | nil => rfl
  | cons x xs ih =>
    rw [List.map_cons, List.find?_cons, List.find?_cons, ih]
    by_cases hx : x.number = f.number
    · simp [hx, hf]
    · simp [hx]

/-- A field that replaces the entries of its number, one at least, is found by it. -/
theorem find_replace_same {fs : List Field} {f : Field} (h : ∃ x ∈ fs, x.number = f.number) :
    (fs.map fun x => if x.number = f.number then f else x).find? (fun x => x.number = f.number) = some f := by
  induction fs with
  | nil => simp at h
  | cons x xs ih =>
    rw [List.map_cons, List.find?_cons]
    by_cases hx : x.number = f.number
    · simp [hx]
    · simpa [hx] using ih (by simpa [hx] using h)

/-- The entry of a number after a field is put in: the field itself, or the one that stood. -/
theorem putField_find (fs : List Field) (f : Field) {n : Nat} (h1 : 1 ≤ n) (h16 : n ≤ 16) :
    (putField fs f).find? (fun x => x.number = n)
      = if f.number = n then some f else fs.find? (fun x => x.number = n) := by
  unfold putField
  by_cases hf : f.number = n
  · subst hf
    rw [if_pos ⟨h1, h16⟩, if_pos rfl]
    split
    · exact find_replace_same (by simp_all)
    · rename_i hnone
      simp only [List.any_eq_true, decide_eq_true_eq, not_exists, not_and] at hnone
      have hfind : fs.find? (fun x => x.number = f.number) = none := by simpa using hnone
      simp [List.find?_append, hfind]
  · rw [if_neg hf]
    split
    · split
      · exact find_replace_other fs hf
      · simp [List.find?_append, hf]
    · rfl

theorem resolveFields_find (entries : List Field) {n : Nat} (h1 : 1 ≤ n) (h16 : n ≤ 16) :
    (resolveFields entries).find? (fun x => x.number = n) = lastField entries n := by
  induction entries using List.reverseRecOn with
  | nil => rfl
  | append_singleton fs f ih => rw [resolveFields_append, putField_find _ _ h1 h16, lastField_append, ih]

theorem resolveFields_pairwise (entries : List Field) :
    (resolveFields entries).Pairwise fun f g => f.number ≠ g.number := by
  induction entries using List.reverseRecOn with
  | nil => exact .nil
  | append_singleton fs f ih => exact resolveFields_append fs f ▸ putField_pairwise ih f

theorem resolveFields_mem {entries : List Field} {f : Field} (h : f ∈ resolveFields entries) :
    1 ≤ f.number ∧ f.number ≤ 16 ∧ f ∈ entries := by
  induction entries using List.reverseRecOn with
  | nil => simp [resolveFields] at h
  | append_singleton fs g ih =>
    rw [resolveFields_append] at h
    rcases putField_mem h with h | ⟨rfl, h1, h16⟩
    · obtain ⟨h1, h16, hmem⟩ := ih h
      exact ⟨h1, h16, List.mem_append_left _ hmem⟩
    · exact ⟨h1, h16, by simp⟩

/-- Settles O32, by induction on the entries from the last. -/
theorem jobFieldsResolve : Obligations.JobFieldsResolve := by
  refine fun entries n => ⟨resolveFields_pairwise entries, fun f hf => resolveFields_mem hf, fun h1 h16 => ?_⟩
  rw [fieldValue, if_pos ⟨h1, h16⟩, resolveFields_find entries h1 h16]
  rfl

/-! #### The taking of the JOB at the head of the command queue -/

theorem popCommand_eq {s : State} {f : CommandFrame} {rest : List CommandFrame} (h : s.link.commandQueue = f :: rest) :
    popCommand s = { s with link := { s.link with commandQueue := rest } } := by
  simp [popCommand, h, State.setLink]

theorem exec_job {s : State} {seq form darkness : Nat} {entries : List Field} {rest : List CommandFrame}
    (hs : s.station ≠ .starting) (h : s.link.commandQueue = .job seq form darkness entries :: rest) :
    exec .job s = .next (takeJob { s with link := { s.link with commandQueue := rest } } seq form darkness entries) := by
  simp [exec, execJob, State.commandHead, hs, h, popCommand_eq h]

theorem exec_job_active {s : State} {seq form darkness : Nat} {entries : List Field} {rest : List CommandFrame}
    (hs : s.station = .active) (h : s.link.commandQueue = .job seq form darkness entries :: rest) (h0 : seq ≠ 0) :
    exec .job s = .next (classifyJob { s with link := { s.link with commandQueue := rest } }
      (jobEntry seq form darkness entries)) := by
  rw [exec_job (by simp [hs]) h]
  simp [takeJob, hs, h0]

theorem SeqUnit.unsynchronised_iff {q : SeqUnit} : q.unsynchronised = true ↔ q.lc = 0 ∧ q.queue = [] := by
  simp [SeqUnit.unsynchronised]

theorem classifyJob_unsynchronised {s : State} (h : s.seq.lc = 0 ∧ s.seq.queue = []) (e : JobEntry) :
    classifyJob s e = settle (s.setSeq (s.seq.append e)) := by
  rw [classifyJob, if_pos (SeqUnit.unsynchronised_iff.2 h)]

theorem classifyJob_inOrder {s : State} {e : JobEntry} (h : ¬(s.seq.lc = 0 ∧ s.seq.queue = []))
    (hk : seqDistance e.seq s.seq.expected = 0) : classifyJob s e = settle (appendOrRefuse s e) := by
  rw [classifyJob, if_neg (mt SeqUnit.unsynchronised_iff.1 h)]
  simp [hk]

theorem classifyJob_gap {s : State} {e : JobEntry} {k : Nat} (h : ¬(s.seq.lc = 0 ∧ s.seq.queue = []))
    (hk : seqDistance e.seq s.seq.expected = k) (h1 : 1 ≤ k) (h2 : k ≤ 32767) :
    classifyJob s e = settle (appendOrRefuse (addPlaceholders (min k 4) s.seq.expected s) e) := by
  rw [classifyJob, if_neg (mt SeqUnit.unsynchronised_iff.1 h)]
  have h0 : k ≠ 0 := by omega
  simp [hk, h0, h2, Config.queueDepth]

theorem classifyJob_stale {s : State} {e : JobEntry} (h : ¬(s.seq.lc = 0 ∧ s.seq.queue = []))
    (hk : 32768 ≤ seqDistance e.seq s.seq.expected) : classifyJob s e = countStale s := by
  rw [classifyJob, if_neg (mt SeqUnit.unsynchronised_iff.1 h)]
  have h0 : seqDistance e.seq s.seq.expected ≠ 0 := by omega
  have h1 : ¬seqDistance e.seq s.seq.expected ≤ 32767 := by omega
  simp [h0, h1]

theorem appendOrRefuse_of_room {s : State} (h : s.seq.queue.length < 4) (e : JobEntry) :
    appendOrRefuse s e = s.setSeq (s.seq.append e) := by
  simp [appendOrRefuse, Config.queueDepth, h]

theorem appendOrRefuse_of_full {s : State} (h : 4 ≤ s.seq.queue.length) (e : JobEntry) :
    appendOrRefuse s e = pushRecord s (.label (refusalRecord e.seq .queueFull)) := by
  simp [appendOrRefuse, Config.queueDepth, Nat.not_lt.2 h]

/-- The queue and the pre-void seq after a Job entry is appended (R5, R14). -/
theorem SeqUnit.append_jobEntry (q : SeqUnit) (seq form darkness : Nat) (entries : List Field) :
    q.append (jobEntry seq form darkness entries) = { q with
      queue := q.queue ++ [{ seq := seq, kind := .job, form := some form, darkness := some darkness,
                             fields := resolveFields entries,
                             voided := if q.preVoid = seq then some .peerVoid else none, cancelled := false }],
      preVoid := if q.preVoid = seq then 0 else q.preVoid } := by
  unfold SeqUnit.append jobEntry
  dsimp only
  split <;> rfl

/-- A JOB that joins the queue: the sequence unit takes it, and arming goes on. -/
theorem settle_append_frame (s : State) (q : SeqUnit) : settle (s.setSeq q) = { s with
    seq := q, ctxA := (settle (s.setSeq q)).ctxA, ctxB := (settle (s.setSeq q)).ctxB,
    loader := (settle (s.setSeq q)).loader, raster := (settle (s.setSeq q)).raster,
    ring := { s.ring with lead := (settle (s.setSeq q)).ring.lead } } := by
  apply State.ext <;> try simp
  apply Ring.ext <;> simp

/-- Settles O33: in both cases the JOB is appended to the queue, and the event settles. -/
theorem jobQueued : Obligations.JobQueued := by
  refine ⟨fun s seq form darkness entries rest hs hq h0 hcase => ?_, fun s hs => ?_⟩
  · let u : State := { s with link := { s.link with commandQueue := rest } }
    let t := settle (u.setSeq (u.seq.append (jobEntry seq form darkness entries)))
    have ht : exec .job s = .next t := by
      rw [exec_job_active hs hq h0]
      rcases hcase with hun | ⟨hsync, hroom, hk⟩
      · rw [classifyJob_unsynchronised (s := u) hun]
      · rw [classifyJob_inOrder (s := u) hsync hk, appendOrRefuse_of_room (s := u) hroom]
    have hseq : t.seq = u.seq.append (jobEntry seq form darkness entries) := by simp [t]
    refine ⟨t, ht, ?_, hseq.trans (SeqUnit.append_jobEntry _ _ _ _ _), ?_⟩
    · rw [hseq]
      exact settle_append_frame u _
    · rw [hseq]
      exact (settle_armsHead (s := u.setSeq _) hs).congr rfl rfl rfl rfl rfl rfl
  · exact ⟨arm_armsHead hs, arm_of_empty, by apply State.ext <;> simp⟩

/-! #### A JOB that is not queued -/

theorem pushRecord_handed (s : State) (r : Record) : RecordHanded s r (pushRecord s r) := by
  refine ⟨fun h => pushRecord_of_room h r, fun h => ?_⟩
  rw [pushRecord_of_full h]
  refine ⟨setCond_eq_set _ _ _, setCond_queue _ _ _, setCond_isIn_same _ _ _, fun c hc => setCond_isIn_other _ _ _ _ hc⟩

/-- A full queue takes no placeholder. -/
theorem addPlaceholders_of_full {s : State} (h : 4 ≤ s.seq.queue.length) (n seq : Nat) : addPlaceholders n seq s = s := by
  cases n with
  | zero => rfl
  | succ n => simp [addPlaceholders, Config.queueDepth, Nat.not_lt.2 h]

/-- A JOB that a full queue refuses, in order or behind a gap (R6, R8). -/
theorem classifyJob_of_full {s : State} {e : JobEntry} (h : 4 ≤ s.seq.queue.length)
    (hk : seqDistance e.seq s.seq.expected ≤ 32767) :
    classifyJob s e = settle (pushRecord s (.label (refusalRecord e.seq .queueFull))) := by
  have hsync : ¬(s.seq.lc = 0 ∧ s.seq.queue = []) := by
    rintro ⟨-, hempty⟩
    simp [hempty] at h
  rcases Nat.eq_zero_or_pos (seqDistance e.seq s.seq.expected) with h0 | h1
  · rw [classifyJob_inOrder hsync h0, appendOrRefuse_of_full h]
  · rw [classifyJob_gap hsync rfl h1 hk, addPlaceholders_of_full h, appendOrRefuse_of_full h]

theorem advanceRaster_frame_eq (s : State) : advanceRaster s = { s with
    raster := (advanceRaster s).raster, ring := { s.ring with lead := (advanceRaster s).ring.lead } } := by
  apply State.ext <;> try simp
  apply Ring.ext <;> simp

/-- Settles O35: the stale and the ignored JOB by the branch of R3 to R7 they fall into, the refused ones by the
record handed. -/
theorem jobNotQueued : Obligations.JobNotQueued := by
  intro s seq form darkness entries rest hq took refusal
  refine ⟨fun hs hstale => ?_, fun hs => ?_, fun hs => ?_, fun hs h0 hfull hk hheld => ?_⟩
  · rcases eq_or_ne seq 0 with h0 | h0
    · subst h0
      rw [exec_job (by simp [hs]) hq]
      simp [takeJob, hs, countStale, State.setLink, bump, took]
    · obtain ⟨hsync, hk⟩ := hstale.resolve_left h0
      rw [exec_job_active hs hq h0, classifyJob_stale (s := took) hsync hk]
      rfl
  · rw [exec_job (by simp [hs]) hq]
    simp [takeJob, hs, took]
  · refine ⟨_, exec_job (by simp [hs]) hq, ?_⟩
    have ht : takeJob took seq form darkness entries = pushRecord took (refusal .notSetUp) := by
      simp [takeJob, took, refusal, hs, refusalRecord]
    exact ht ▸ pushRecord_handed took (refusal .notSetUp)
  · let u := pushRecord took (refusal .queueFull)
    have harm : arm u = u := by
      refine arm_of_nothing (hheld.imp ?_ ?_) <;> simp [u, took, State.headHeld]
    have ht : exec .job s = .next (advanceRaster u) := by
      rw [exec_job_active hs hq h0, classifyJob_of_full (s := took) hfull hk, settle]
      show Host.Outcome.next (advanceRaster (arm u)) = _
      rw [harm]
    exact ⟨advanceRaster u, u, ht, pushRecord_handed took _, rfl, advanceRaster_frame_eq u⟩

/-! #### A gap and its placeholders (R8, R12, R14) -/

/-- The seqs that get a placeholder: `n` from `x` on, as far as a queue of `len` entries has room. -/
def missingSeqs (n x len : Nat) : List Nat := (List.range (min n (4 - len))).map fun j => nextSeq^[j] x

/-- The VOIDs of a gap: one for each missing seq but the pre-void seq. -/
def missedVoids (preVoid : Nat) (made : List Nat) : List VoidFrame :=
  (made.filter fun q => decide (q ≠ preVoid)).map fun q => ⟨q, .missed⟩

theorem missingSeqs_of_full {n x len : Nat} (h : 4 ≤ len) : missingSeqs n x len = [] := by
  simp [missingSeqs, Nat.sub_eq_zero_of_le h]

theorem missingSeqs_succ {n x len : Nat} (h : len < 4) :
    missingSeqs (n + 1) x len = x :: missingSeqs n (nextSeq x) (len + 1) := by
  have hmin : min (n + 1) (4 - len) = min n (4 - (len + 1)) + 1 := by omega
  simp [missingSeqs, hmin, List.range_succ_eq_map, Function.comp_def]

theorem missingSeqs_length (n x len : Nat) : (missingSeqs n x len).length = min n (4 - len) := by simp [missingSeqs]

theorem nextSeq_pos (x : Nat) : 1 ≤ nextSeq x := by
  unfold nextSeq
  split <;> omega

/-- Within the next three seqs a seq does not come again. -/
theorem not_mem_missingSeqs (n x len : Nat) : x ∉ missingSeqs n (nextSeq x) (len + 1) := by
  simp only [missingSeqs, List.mem_map, List.mem_range, not_exists, not_and]
  intro j hj
  have hj3 : j < 3 := by omega
  interval_cases j <;> simp only [Function.iterate_succ, Function.iterate_zero, Function.comp, id, nextSeq] <;>
    split_ifs <;> omega

/-- No missing seq is 0. -/
theorem zero_not_mem_missingSeqs {n x : Nat} (len : Nat) (h : 1 ≤ x) : 0 ∉ missingSeqs n x len := by
  simp only [missingSeqs, List.mem_map, List.mem_range, not_exists, not_and]
  rintro (_ | j) -
  · simp only [Function.iterate_zero, id]
    omega
  · have := nextSeq_pos (nextSeq^[j] x)
    rw [Function.iterate_succ_apply']
    omega

theorem missedVoids_cons_same {x : Nat} {made : List Nat} (hx : x ∉ made) (h0 : 0 ∉ made) :
    missedVoids x (x :: made) = missedVoids 0 made := by
  have h1 : ∀ q ∈ made, q ≠ x := fun q hq h => hx (h ▸ hq)
  have h2 : ∀ q ∈ made, q ≠ 0 := fun q hq h => h0 (h ▸ hq)
  simp only [missedVoids, ne_eq, not_true_eq_false, decide_false, Bool.false_eq_true, not_false_eq_true,
    List.filter_cons_of_neg]
  rw [List.filter_eq_self.2 fun q hq => by simpa using h1 q hq, List.filter_eq_self.2 fun q hq => by simpa using h2 q hq]

theorem missedVoids_cons_other {x preVoid : Nat} (h : preVoid ≠ x) (made : List Nat) :
    missedVoids preVoid (x :: made) = ⟨x, .missed⟩ :: missedVoids preVoid made := by
  simp [missedVoids, Ne.symm h]

theorem addPlaceholders_succ {s : State} (h : s.seq.queue.length < 4) (n x : Nat) :
    addPlaceholders (n + 1) x s = addPlaceholders n (nextSeq x) (addPlaceholder s x) := by
  simp [addPlaceholders, Config.queueDepth, h]

theorem addPlaceholder_seq (s : State) (x : Nat) : (addPlaceholder s x).seq = { s.seq with
    queue := s.seq.queue ++ [placeholderEntry x (if s.seq.preVoid = x then .peerVoid else .missed)],
    preVoid := if s.seq.preVoid = x then 0 else s.seq.preVoid } := by
  unfold addPlaceholder
  split <;> simp [*]

/-- The queue and the pre-void seq after a gap's placeholders. -/
theorem addPlaceholders_seq (n : Nat) {x : Nat} (hx : 1 ≤ x) (s : State) :
    let made := missingSeqs n x s.seq.queue.length
    (addPlaceholders n x s).seq = { s.seq with
      queue := s.seq.queue ++ made.map fun q => placeholderEntry q (if s.seq.preVoid = q then .peerVoid else .missed),
      preVoid := if s.seq.preVoid ∈ made then 0 else s.seq.preVoid } := by
  induction n generalizing x s with
  | zero => simp [addPlaceholders, missingSeqs]
  | succ n ih =>
    intro made
    rcases Nat.lt_or_ge s.seq.queue.length 4 with hroom | hfull
    · have hmem := not_mem_missingSeqs n x s.seq.queue.length
      have hzero := zero_not_mem_missingSeqs (n := n) (s.seq.queue.length + 1) (nextSeq_pos x)
      rw [addPlaceholders_succ hroom, ih (nextSeq_pos x), addPlaceholder_seq]
      simp only [List.length_append, List.length_singleton, made, missingSeqs_succ hroom]
      by_cases hp : s.seq.preVoid = x
      · have hp0 : ∀ q ∈ missingSeqs n (nextSeq x) (s.seq.queue.length + 1), ¬0 = q := fun q hq h => hzero (h ▸ hq)
        have hpx : ∀ q ∈ missingSeqs n (nextSeq x) (s.seq.queue.length + 1), ¬x = q := fun q hq h => hmem (h ▸ hq)
        simpa [hp, hzero] using fun q hq => by rw [if_neg (hp0 q hq), if_neg (hpx q hq)]
      · simp [hp]
    · simp [made, addPlaceholders_of_full hfull, missingSeqs_of_full hfull]

/-- The VOID frames `vs` placed one after the other in the VOID queue of `s` give what `t` holds (R139). -/
def VoidsPlaced (s : State) (vs : List VoidFrame) (t : State) : Prop :=
  t.link.voidQueue = (s.link.voidQueue ++ vs).take 4
  ∧ (s.link.voidQueue.length + vs.length ≤ 4 → t.link.counts = s.link.counts)
  ∧ (4 < s.link.voidQueue.length + vs.length → Cond.framesDropped.isIn t.report.values = true)

theorem VoidsPlaced.nil {s t : State} (h : s.link.voidQueue.length ≤ 4) (hl : t.link = s.link) : VoidsPlaced s [] t := by
  simp [VoidsPlaced, hl, List.take_of_length_le h]
  omega

theorem VoidsPlaced.cons {s u t : State} {f : VoidFrame} {vs : List VoidFrame} (hs : s.link.voidQueue.length ≤ 4)
    (h : VoidPlaced s f u) (h' : VoidsPlaced u vs t) (hd : DropsStay u t) : VoidsPlaced s (f :: vs) t := by
  obtain ⟨hroom, hfull⟩ := h
  obtain ⟨hq, hc, hf⟩ := h'
  rcases Nat.lt_or_ge s.link.voidQueue.length 4 with hlt | hge
  · obtain ⟨hv, hn⟩ := hroom hlt
    rw [hv, hn] at hc
    rw [hv] at hq hf
    simp only [List.length_append, List.length_singleton] at hc hf
    refine ⟨by simpa using hq, fun hle => hc (by simp at hle; omega), fun hlt => hf (by simp at hlt; omega)⟩
  · obtain ⟨hv, hn, hset⟩ := hfull hge
    have hlen : s.link.voidQueue.length = 4 := by omega
    refine ⟨?_, fun hle => by simp at hle; omega, fun _ => hd _ (.inl rfl) hset⟩
    rw [hq, hv, List.take_append_of_le_length (by omega), List.take_append_of_le_length (by omega)]

theorem pushVoid_placed_of_link {s u : State} (h : u.link = s.link) (f : VoidFrame) :
    VoidPlaced s f (pushVoid u f) :=
  (pushVoid_placed u f).mono (by rw [h]) (by rw [h]) rfl rfl (.of_report rfl)

/-- What one placeholder does to the VOID queue. -/
theorem addPlaceholder_placed {s : State} {x : Nat} (h : s.seq.preVoid ≠ x) :
    VoidPlaced s ⟨x, .missed⟩ (addPlaceholder s x) := by
  rw [addPlaceholder, if_neg h]
  exact pushVoid_placed_of_link (State.setSeq_link _ _) _

theorem addPlaceholder_link_of_preVoid {s : State} {x : Nat} (h : s.seq.preVoid = x) :
    (addPlaceholder s x).link = s.link := by simp [addPlaceholder, h]

theorem addPlaceholder_dropsStay (s : State) (x : Nat) : DropsStay s (addPlaceholder s x) := by
  unfold addPlaceholder
  split
  · exact .of_report rfl
  · exact .trans (.of_report (by simp)) (pushVoid_dropsStay _ _)

theorem addPlaceholders_dropsStay (n x : Nat) (s : State) : DropsStay s (addPlaceholders n x s) := by
  induction n generalizing x s with
  | zero => exact .of_report rfl
  | succ n ih =>
    unfold addPlaceholders
    split
    · exact (addPlaceholder_dropsStay s x).trans (ih _ _)
    · exact .of_report rfl

@[simp] theorem addPlaceholders_queue (n x : Nat) (s : State) :
    (addPlaceholders n x s).report.queue = s.report.queue := by
  induction n generalizing x s with
  | zero => rfl
  | succ n ih =>
    unfold addPlaceholders
    split
    · rw [ih, addPlaceholder]
      split <;> simp
    · rfl

theorem addPlaceholders_onlyVoids (n x : Nat) (s : State) : s.link.OnlyVoids (addPlaceholders n x s).link := by
  induction n generalizing x s with
  | zero => exact .refl _
  | succ n ih =>
    unfold addPlaceholders
    split
    · refine Link.OnlyVoids.trans ?_ (ih _ _)
      unfold addPlaceholder
      split
      · exact .refl _
      · exact pushVoid_onlyVoids (s.setSeq _) _
    · exact .refl _

/-- The VOIDs of a gap. -/
theorem addPlaceholders_voids (n : Nat) {x : Nat} (hx : 1 ≤ x) {s : State} (hv : s.link.voidQueue.length ≤ 4) :
    VoidsPlaced s (missedVoids s.seq.preVoid (missingSeqs n x s.seq.queue.length)) (addPlaceholders n x s) := by
  induction n generalizing x s with
  | zero => simpa [missingSeqs, missedVoids] using VoidsPlaced.nil (t := addPlaceholders 0 x s) hv rfl
  | succ n ih =>
    rcases Nat.lt_or_ge s.seq.queue.length 4 with hroom | hfull
    · have hrest := fun hv' => ih (nextSeq_pos x) (s := addPlaceholder s x) hv'
      rw [addPlaceholder_seq] at hrest
      simp only [List.length_append, List.length_singleton] at hrest
      rw [missingSeqs_succ hroom, addPlaceholders_succ hroom]
      by_cases hp : s.seq.preVoid = x
      · have hl := addPlaceholder_link_of_preVoid hp
        have hfirst := hrest (by rwa [hl])
        rw [if_pos hp] at hfirst
        rw [hp, missedVoids_cons_same (not_mem_missingSeqs _ _ _) (zero_not_mem_missingSeqs _ (nextSeq_pos x))]
        simpa only [VoidsPlaced, hl] using hfirst
      · have hplaced := addPlaceholder_placed hp
        have hlen : (addPlaceholder s x).link.voidQueue.length ≤ 4 := by
          obtain ⟨hroom', hfull'⟩ := hplaced
          rcases Nat.lt_or_ge s.link.voidQueue.length 4 with hlt | hge
          · obtain ⟨hv', -⟩ := hroom' hlt
            simp [hv']
            omega
          · obtain ⟨hv', -⟩ := hfull' hge
            rwa [hv']
        have hfirst := hrest hlen
        rw [if_neg hp] at hfirst
        rw [missedVoids_cons_other hp]
        exact hfirst.cons hv hplaced (addPlaceholders_dropsStay _ _ _)
    · rw [missingSeqs_of_full hfull, addPlaceholders_of_full hfull]
      exact .nil hv rfl

theorem SeqUnit.expected_pos (q : SeqUnit) : 1 ≤ q.expected := by
  unfold SeqUnit.expected
  split <;> exact nextSeq_pos _

/-- The gap's placeholders are as many as the seqs missing, and at most 4. -/
theorem missingSeqs_min (k x len : Nat) : missingSeqs (min k 4) x len = missingSeqs k x len := by
  have hmin : min (min k 4) (4 - len) = min k (4 - len) := by omega
  simp [missingSeqs, hmin]

section Gap
variable {s : State} {seq form darkness k x : Nat} {entries : List Field}

/-- The sequence unit after a gap JOB (R8): the placeholders, and the JOB behind them when it still fits. -/
theorem appendOrRefuse_gap_seq (h0 : seq ≠ 0) (hx : 1 ≤ x) (hlen : s.seq.queue.length ≤ 4) :
    let made := missingSeqs k x s.seq.queue.length
    let fits := s.seq.queue.length + k < 4
    (appendOrRefuse (addPlaceholders (min k 4) x s) (jobEntry seq form darkness entries)).seq = { s.seq with
      queue := s.seq.queue
        ++ (made.map fun q => placeholderEntry q (if s.seq.preVoid = q then .peerVoid else .missed))
        ++ (if fits then [{
              seq := seq, kind := .job, form := some form, darkness := some darkness, fields := resolveFields entries,
              voided := if s.seq.preVoid = seq ∧ seq ∉ made then some .peerVoid else none, cancelled := false }] else []),
      preVoid := if s.seq.preVoid ∈ made ∨ (fits ∧ s.seq.preVoid = seq) then 0 else s.seq.preVoid } := by
  intro made fits
  have hseq := addPlaceholders_seq (min k 4) hx s
  rw [missingSeqs_min] at hseq
  have hcount : (addPlaceholders (min k 4) x s).seq.queue.length = s.seq.queue.length + min k (4 - s.seq.queue.length) := by
    rw [hseq]
    simp [missingSeqs_length]
  by_cases hfits : fits
  · rw [appendOrRefuse_of_room (by rw [hcount]; omega), State.setSeq_seq, SeqUnit.append_jobEntry, hseq]
    by_cases hp : s.seq.preVoid = seq
    · by_cases hm : seq ∈ made <;> simp [made, hfits, hp, hm, h0.symm]
    · by_cases hm : s.seq.preVoid ∈ made <;> simp [made, hfits, hp, hm, h0.symm]
  · rw [appendOrRefuse_of_full (by rw [hcount]; omega)]
    simp [made, hfits, hseq]

/-- The report queue after a gap JOB: a refusal record when the JOB no longer fits (R9). -/
theorem appendOrRefuse_gap_report (hlen : s.seq.queue.length ≤ 4) (hx : 1 ≤ x) :
    let t := appendOrRefuse (addPlaceholders (min k 4) x s) (jobEntry seq form darkness entries)
    let fits := s.seq.queue.length + k < 4
    (fits → t.report.queue = s.report.queue)
    ∧ (¬fits → RecordPlaced s (.label (refusalRecord seq .queueFull)) t) := by
  have hseq := addPlaceholders_seq (min k 4) hx s
  have hcount : (addPlaceholders (min k 4) x s).seq.queue.length = s.seq.queue.length + min k (4 - s.seq.queue.length) := by
    rw [hseq]
    simp [missingSeqs_min, missingSeqs_length]
  intro t fits
  refine ⟨fun hfits => ?_, fun hfits => ?_⟩
  · simp only [t]
    rw [appendOrRefuse_of_room (by rw [hcount]; omega)]
    simp
  · simp only [t]
    rw [appendOrRefuse_of_full (by rw [hcount]; omega)]
    exact (pushRecord_placed _ _).mono (by simp) rfl (.of_report rfl)

end Gap

theorem appendOrRefuse_onlyTx (s : State) (e : JobEntry) : s.link.OnlyTx (appendOrRefuse s e).link := by
  unfold appendOrRefuse
  split
  · exact .refl _
  · exact pushRecord_onlyTx _ _

theorem appendOrRefuse_dropsStay (s : State) (e : JobEntry) : DropsStay s (appendOrRefuse s e) := by
  unfold appendOrRefuse
  split
  · exact .of_report rfl
  · exact pushRecord_dropsStay _ _

/-- Settles O34: the placeholders by induction on their number, then the JOB, then the arming. -/
theorem jobGap : Obligations.JobGap := by
  intro s seq form darkness entries rest k hs hq h0 hsync hk h1 hle hlen hvoid made fits voids
  let u : State := { s with link := { s.link with commandQueue := rest } }
  let v := appendOrRefuse (addPlaceholders (min k 4) s.seq.expected u) (jobEntry seq form darkness entries)
  have hx : 1 ≤ s.seq.expected := SeqUnit.expected_pos _
  have ht : exec .job s = .next (settle v) := by
    rw [exec_job_active hs hq h0, classifyJob_gap (s := u) hsync hk h1 hle]
  have hseq : v.seq = _ := appendOrRefuse_gap_seq (s := u) h0 hx hlen
  obtain ⟨hfit, hrefused⟩ := appendOrRefuse_gap_report (s := u) (seq := seq) (form := form) (darkness := darkness)
    (entries := entries) (k := k) hlen hx
  obtain ⟨hqueue, hcounts, hdropped⟩ := addPlaceholders_voids (min k 4) hx (s := u) hvoid
  rw [missingSeqs_min] at hqueue hcounts hdropped
  have htx : (addPlaceholders (min k 4) s.seq.expected u).link.OnlyTx v.link := appendOrRefuse_onlyTx _ _
  have hlink : u.link.OnlyVoids v.link := (addPlaceholders_onlyVoids _ _ u).trans htx.voids
  have hsettled : (settle v).seq = v.seq ∧ (settle v).link = v.link ∧ (settle v).report = v.report := by simp
  obtain ⟨hseq', hlink', hreport'⟩ := hsettled
  refine ⟨settle v, ht, hseq'.trans hseq, ?_, fun hroom => ?_, fun hover => ?_, fun hf => ?_, fun hf hr => ?_,
    fun hf hr => ?_, ?_, ?_⟩
  · rw [hlink', htx.voidQueue]
    exact hqueue
  · rw [hlink', htx.counts]
    exact hcounts hroom
  · rw [hreport']
    exact appendOrRefuse_dropsStay _ (jobEntry seq form darkness entries) _ (.inl rfl) (hdropped hover)
  · rw [hreport']
    exact hfit hf
  · obtain ⟨hplaced, -⟩ := hrefused hf
    rw [hreport']
    exact hplaced hr
  · obtain ⟨-, hfull⟩ := hrefused hf
    rw [hreport']
    exact hfull hr
  · rw [hseq']
    exact (settle_armsHead (s := v) (by simpa [v] using hs)).congr (by simp [v, u]) (by simp [v, u]) (by simp [v, u])
      rfl rfl rfl
  · apply State.ext <;> try simp [v, u]
    · apply Ring.ext <;> simp
    · exact hlink

end Sys2Proof.Machine

/-! ### Marks and the row they stop -/

namespace Sys2Proof.Machine

/-! #### The completion of a label (R34) -/

@[simp] theorem completeLabel_ctx (s : State) (i j : CtxId) :
    (completeLabel s i).ctx j = if j = i then Context.free else s.ctx j := by
  rw [State.ctx_of_contexts (s := s.setCtx i Context.free) (by simp [completeLabel]) (by simp [completeLabel]),
    State.setCtx_ctx]

@[simp] theorem completeLabel_ring (s : State) (i : CtxId) : (completeLabel s i).ring = s.ring := by
  simp [completeLabel]

theorem completeLabel_placed (s : State) (i : CtxId) :
    RecordPlaced s (s.ctx i).completedRecord (completeLabel s i) := by
  rw [← Context.record_eq]
  exact (pushRecord_placed (s.setCtx i Context.free) (.label (s.ctx i).record)).mono (by simp) (by simp [completeLabel])
    (.of_report (by simp [completeLabel]))

@[simp] theorem completeLabel_rendering (s : State) (i : CtxId) :
    (completeLabel s i).raster.rendering = s.raster.rendering := by simp [completeLabel]

theorem completeLabel_dropsStay (s : State) (i : CtxId) : DropsStay s (completeLabel s i) :=
  (DropsStay.of_report (t := s.setCtx i Context.free) (by simp)).trans
    ((pushRecord_dropsStay _ (.label (s.ctx i).record)).trans (.of_report (by simp [completeLabel])))

theorem completeIfEnding_of_endsNow {s : State} {i : CtxId} (h : (s.ctx i).endsNow = true) :
    completeIfEnding s i = completeLabel s i := if_pos h

theorem completeIfEnding_of_not_endsNow {s : State} {i : CtxId} (h : (s.ctx i).endsNow = false) :
    completeIfEnding s i = s := by simp [completeIfEnding, h]

/-- A label of known height, or with rows still to take, does not end with its row while Running (R31, R34). -/
theorem Context.endsNow_of_running {c : Context} (h : c.state = .running) (h' : c.h ≠ none ∨ c.taken < 4800) :
    c.endsNow = false := by
  rcases h' with h' | h'
  · simp [Context.endsNow, h, h']
  · have hlast : ¬4799 < c.taken := by omega
    simp [Context.endsNow, h, Config.lastRow, hlast]

theorem Context.endsNow_of_ending {c : Context} (h : c.state = .ending) : c.endsNow = true := by
  simp [Context.endsNow, h]

/-! #### The end of a row (R32) -/

theorem endRow_of_running {s : State} {seq : Nat} {i : CtxId} (h : s.runningLabelCtx seq = some i)
    (trimmed miss : Bool) : endRow s seq trimmed miss false
      = completeIfEnding (s.setCtx i ((s.ctx i).rowEnded trimmed miss)) i := by
  simp [endRow, h]

theorem endRow_of_none {s : State} {seq : Nat} (h : s.runningLabelCtx seq = none) (trimmed miss short : Bool) :
    endRow s seq trimmed miss short = s := by
  simp [endRow, h]

@[simp] theorem completeIfEnding_seq (s : State) (i : CtxId) : (completeIfEnding s i).seq = s.seq := by
  unfold completeIfEnding
  split <;> simp

theorem completeIfEnding_ctx_other {s : State} {i j : CtxId} (h : j ≠ i) :
    (completeIfEnding s i).ctx j = s.ctx j := by
  unfold completeIfEnding
  split <;> simp [h]

@[simp] theorem endRow_seq (s : State) (seq : Nat) (trimmed miss : Bool) :
    (endRow s seq trimmed miss false).seq = s.seq := by
  cases h : s.runningLabelCtx seq with
  | none => rw [endRow_of_none h]
  | some i => simp [endRow_of_running h]

/-- A row's end touches the context of its own label alone. -/
theorem endRow_ctx_other {s : State} {seq : Nat} {j : CtxId} (h : s.runningLabelCtx seq ≠ some j)
    (trimmed miss : Bool) : (endRow s seq trimmed miss false).ctx j = s.ctx j := by
  cases hrun : s.runningLabelCtx seq with
  | none => rw [endRow_of_none hrun]
  | some i =>
    have hji : j ≠ i := fun hji => h (hji ▸ hrun)
    rw [endRow_of_running hrun, completeIfEnding_ctx_other hji, State.setCtx_ctx_other _ _ _ _ hji]

/-! #### The row that a mark stops (R128) -/

/-- The state in which the row in flight `p` has left the firing unit, its label not yet told (R126). -/
def flightOver (s : State) (p : Plan) : State :=
  ((s.setRing (match s.ring.firing with
    | some slot => { s.ring with firing := none }.pushHistory (slot.toHistory p.fired)
    | none => s.ring)).setPlan none).setHead HeadLines.idle

theorem endFlight_eq (s : State) (p : Plan) (trimmed short : Bool) :
    endFlight s p trimmed short = endRow (flightOver s p) p.seq trimmed p.miss short := rfl

@[simp] theorem flightOver_frame (s : State) (p : Plan) :
    (flightOver s p).station = s.station ∧ (flightOver s p).seq = s.seq ∧ (flightOver s p).ctxA = s.ctxA
    ∧ (flightOver s p).ctxB = s.ctxB ∧ (flightOver s p).loader = s.loader ∧ (flightOver s p).plan = none
    ∧ (flightOver s p).head = HeadLines.idle ∧ (flightOver s p).link = s.link ∧ (flightOver s p).store = s.store
    ∧ (flightOver s p).report = s.report := by
  simp [flightOver]

@[simp] theorem flightOver_ctx (s : State) (p : Plan) (j : CtxId) : (flightOver s p).ctx j = s.ctx j :=
  State.ctx_of_contexts rfl rfl j

theorem flightOver_runningLabelCtx (s : State) (p : Plan) (seq : Nat) :
    (flightOver s p).runningLabelCtx seq = s.runningLabelCtx seq :=
  State.runningLabelCtx_congr (fun j => by simp) seq

theorem stopRow_of_none {s : State} (h : s.plan = none) : stopRow s = s := by simp [stopRow, h]

theorem stopRow_of_strobe {s : State} {p : Plan} (h : s.plan = some p) (hp : p.step.stage = .strobe) :
    stopRow s = s.setPlan (some { p with stopping := true }) := by
  simp [stopRow, h, hp]

/-- In its load or latch the row ends at once. -/
theorem stopRow_of_load {s : State} {p : Plan} (h : s.plan = some p) (hp : p.step.stage ≠ .strobe) :
    stopRow s = endRow (flightOver s p) p.seq (decide (1 ≤ p.trim)) p.miss false := by
  simp [stopRow, h, hp, endFlight_eq]

@[simp] theorem stopRow_seq (s : State) : (stopRow s).seq = s.seq := by
  cases hp : s.plan with
  | none => rw [stopRow_of_none hp]
  | some p =>
    by_cases hstage : p.step.stage = .strobe
    · simp [stopRow_of_strobe hp hstage]
    · simp [stopRow_of_load hp hstage]

/-- A plan that stays in flight is in a strobe and stops there. -/
theorem stopRow_plan {s : State} {p : Plan} (h : (stopRow s).plan = some p) :
    p.step.stage = .strobe ∧ p.stopping = true := by
  cases hp : s.plan with
  | none => simp [stopRow_of_none hp, hp] at h
  | some q =>
    by_cases hstage : q.step.stage = .strobe
    · rw [stopRow_of_strobe hp hstage] at h
      cases h
      exact ⟨hstage, rfl⟩
    · simp [stopRow_of_load hp hstage] at h

/-- Stopping the row touches the context of the row's label alone, and none while a pulse runs out. -/
theorem stopRow_ctx {s : State} {j : CtxId}
    (h : ∀ p, s.plan = some p → p.step.stage = .strobe ∨ s.runningLabelCtx p.seq ≠ some j) :
    (stopRow s).ctx j = s.ctx j := by
  cases hp : s.plan with
  | none => rw [stopRow_of_none hp]
  | some p =>
    by_cases hstage : p.step.stage = .strobe
    · simp [stopRow_of_strobe hp hstage]
    · rw [stopRow_of_load hp hstage, endRow_ctx_other, flightOver_ctx]
      rw [flightOver_runningLabelCtx]
      exact (h p hp).resolve_left hstage

/-- A context that is not in Running or Ending is not that of the row in flight. -/
theorem stopRow_ctx_of_not_running {s : State} {j : CtxId} (h : (s.ctx j).isRunningLabel = false) :
    (stopRow s).ctx j = s.ctx j := by
  refine stopRow_ctx fun p _ => .inr fun hrun => ?_
  obtain ⟨hlabel, -⟩ := State.runningLabelCtx_eq_some hrun
  simp [h] at hlabel

theorem Context.isRunningLabel_of_isNext {c : Context} (h : c.isNext = true) : c.isRunningLabel = false := by
  cases hs : c.state <;> simp [Context.isNext, Context.isRunningLabel, hs] at h ⊢

theorem Context.isRunningLabel_of_free {c : Context} (h : c.state = .free) : c.isRunningLabel = false := by
  simp [Context.isRunningLabel, h]

theorem rowEnded_eq (c : Context) (p : Plan) : c.rowEnded (decide (1 ≤ p.trim)) p.miss = { c with
    completed := c.completed + 1, trimmed := c.trimmed + (if 1 ≤ p.trim then 1 else 0),
    light := c.light || decide (1 ≤ p.trim), miss := c.miss + (if p.miss then 1 else 0) } := by
  unfold Context.rowEnded
  by_cases h : 1 ≤ p.trim <;> cases hm : p.miss <;> simp [h]

theorem Ring.pushHistory_eq (g : Ring) (x : Slot) :
    g.pushHistory x = { g with history := (g.history ++ [x]).drop (g.history.length - 1) } := rfl

/-- The row that a mark stops in its load or latch, told of `u`, which has the marks, and of `s`, which has not:
what R32 and R34 do to the label, and the arming that follows. -/
theorem rowEndsAtOnce_of_marked {s u : State} {i : CtxId} (hstation : u.station = .active) (hplan : u.plan = s.plan)
    (hring : u.ring = s.ring) (hreport : u.report = s.report)
    (hctx : ∀ j, (u.ctx j).state = (s.ctx j).state ∧ (u.ctx j).seq = (s.ctx j).seq) :
    s.RowEndsAtOnce i (u.ctx i) (settle (stopRow u)) := by
  intro p x hp hstage hx hrun ended
  have hrun' : (flightOver u p).runningLabelCtx p.seq = some i := by
    rw [flightOver_runningLabelCtx, State.runningLabelCtx_congr hctx, hrun]
  obtain ⟨hlabel, -⟩ := State.runningLabelCtx_eq_some hrun
  let v := (flightOver u p).setCtx i ended
  have hstop : stopRow u = completeIfEnding v i := by
    rw [stopRow_of_load (hplan.trans hp) hstage, endRow_of_running hrun', rowEnded_eq, flightOver_ctx]
  have hvi : v.ctx i = ended := by simp [v]
  have hvo : v.ctx i.other = u.ctx i.other := by simp [v]
  have hvring : v.ring = { s.ring with firing := none }.pushHistory (x.toHistory p.fired) := by
    simp [v, flightOver, hring, hx]
  have hvstation : v.station = .active := by simp [v, hstation]
  have hring' : (stopRow u).ring = v.ring := by simp [hstop]
  refine ⟨by simp [hstop, v], by simp [hstop, v, HeadLines.idle], by simp [hring', hvring, Ring.pushHistory],
    by simp [hring', hvring, Ring.pushHistory, Slot.toHistory], fun hrunning hrows => ?_, fun hending => ?_⟩
  · have hends : (v.ctx i).endsNow = false := by
      rw [hvi]
      exact Context.endsNow_of_running hrunning hrows
    rw [hstop, completeIfEnding_of_not_endsNow hends, settle_ctx, arm_ctx_of_not_free (by rw [hvi]; simp [ended, hrunning])]
    exact ⟨hvi, by simp [v, hreport]⟩
  · have hends : (v.ctx i).endsNow = true := by
      rw [hvi]
      exact Context.endsNow_of_ending hending
    rw [hstop, completeIfEnding_of_endsNow hends]
    have hnotnext : ∀ c : Context, c.isRunningLabel = true → c.isNext = false := fun c hc =>
      Bool.eq_false_iff.2 fun hn => by simp [Context.isRunningLabel_of_isNext hn] at hc
    have hheld : ∀ e, (completeLabel v i).headHeld e = s.headHeld e := by
      refine State.headHeld_congr fun j => ?_
      rcases CtxId.eq_or_eq_other i j with rfl | rfl
      · rw [completeLabel_ctx, if_pos rfl, hnotnext _ hlabel]
        exact ⟨rfl, by simp⟩
      · obtain ⟨hstate, hseq⟩ := hctx i.other
        rw [completeLabel_ctx, if_neg (CtxId.other_ne i), hvo]
        exact ⟨by simp [Context.isNext, hstate], fun _ => hseq⟩
    have hfree : (completeLabel v i).ctx i = Context.free := by simp
    refine ⟨?_, ?_⟩
    · rw [← hvi]
      exact (completeLabel_placed v i).mono (by simp [v, hreport]) (by simp) (.of_report (by simp))
    · split
      · rename_i hq
        rw [settle_ctx, arm_of_empty (by simpa using hq), hfree]
      · rename_i e rest hq
        have hq' : (completeLabel v i).seq.queue = e :: rest := by simpa using hq
        refine ⟨fun hh => ?_, fun hh hother => ?_⟩
        · rw [settle_ctx, arm_of_nothing (.inl (by rw [hq']; simpa [hheld] using hh)), hfree]
        · have hother' : ((completeLabel v i).ctx i.other).state ≠ .free := by
            rw [completeLabel_ctx, if_neg (CtxId.other_ne i), hvo, (hctx i.other).1]
            exact hother
          have hA : i = .b → (completeLabel v i).ctxA.state ≠ .free := by
            rintro rfl
            exact hother'
          rw [settle_ctx, arm_of_free (by simp [hvstation]) hq' (by rw [hheld, hh]) (by rw [hfree]; rfl) hA,
            State.setLoader_ctx, State.setCtx_ctx_self, JobEntry.toContext_eq]

/-! #### The effects of a mark on a label (R13, R15, R17, R24, R128) -/

/-- `m` is `s` with a mark set on every holder of the label of this seq: in the contexts by `mark`, which leaves
state and seq; in the queue, whose entries keep their seqs. -/
structure MarkedLabel (s m : State) (seq : Nat) (mark : Context → Context) : Prop where
  station : m.station = .active
  loader  : m.loader = s.loader
  ring    : m.ring = s.ring
  plan    : m.plan = s.plan
  store   : m.store = s.store
  report  : m.report = s.report
  holder  : ∀ j, (s.ctx j).holds seq = true → m.ctx j = mark (s.ctx j)
  other   : ∀ j, (s.ctx j).holds seq = false → m.ctx j = s.ctx j
  shape   : ∀ j, (m.ctx j).state = (s.ctx j).state ∧ (m.ctx j).seq = (s.ctx j).seq
  heads   : ∀ e ∈ m.seq.queue.head?, ∃ e' ∈ s.seq.queue.head?, e'.seq = e.seq

@[simp] theorem stopRowOf_seq (s : State) (seq : Nat) : (stopRowOf s seq).seq = s.seq := by
  unfold stopRowOf
  split
  · split <;> simp
  · rfl

@[simp] theorem afterMark_seq (s : State) (seq : Nat) : (afterMark s seq).seq = s.seq := by simp [afterMark]

theorem stopRowOf_of_plan {s : State} {p : Plan} (h : s.plan = some p) : stopRowOf s p.seq = stopRow s := by
  simp [stopRowOf, h]

theorem stopRowOf_of_other {s : State} {seq : Nat} (h : ∀ p, s.plan = some p → p.seq ≠ seq) : stopRowOf s seq = s := by
  unfold stopRowOf
  split
  · rename_i p hp
    rw [if_neg (h p hp)]
  · rfl

/-- Stopping the row of a label touches that label's context alone, and none while a pulse runs out. -/
theorem stopRowOf_ctx {s : State} {seq : Nat} {j : CtxId}
    (h : (∀ p, s.plan = some p → p.seq = seq → p.step.stage = .strobe) ∨ s.runningLabelCtx seq ≠ some j) :
    (stopRowOf s seq).ctx j = s.ctx j := by
  by_cases hplan : ∃ p, s.plan = some p ∧ p.seq = seq
  · obtain ⟨p, hp, rfl⟩ := hplan
    rw [stopRowOf_of_plan hp, stopRow_ctx]
    intro q hq
    obtain rfl : p = q := Option.some.inj (hp.symm.trans hq)
    exact h.imp (fun h => h p hp rfl) id
  · rw [stopRowOf_of_other fun p hp hs => hplan ⟨p, hp, hs⟩]

/-- A plan of the label that stays in flight is in a strobe and stops there. -/
theorem stopRowOf_plan {s : State} {p : Plan} {seq : Nat} (h : (stopRowOf s seq).plan = some p) (hs : p.seq = seq) :
    p.step.stage = .strobe ∧ p.stopping = true := by
  by_cases hplan : ∃ q, s.plan = some q ∧ q.seq = seq
  · obtain ⟨q, hq, rfl⟩ := hplan
    rw [stopRowOf_of_plan hq] at h
    exact stopRow_plan h
  · have hother : ∀ q, s.plan = some q → q.seq ≠ seq := fun q hq hs' => hplan ⟨q, hq, hs'⟩
    rw [stopRowOf_of_other hother] at h
    exact absurd hs (hother p h)

/-- The load of the label is stopped, or the load in progress is another label's and goes on. -/
theorem stopLoadOf_of_label {s : State} {l : Load} (h : s.loader = some l) :
    stopLoadOf s (s.ctx l.ctx).seq = (s.setLoader none).setStore s.store.releaseLoader := by
  simp [stopLoadOf, stopLoad, h]

theorem stopLoadOf_of_other {s : State} {l : Load} {seq : Nat} (h : s.loader = some l) (hs : (s.ctx l.ctx).seq ≠ seq) :
    stopLoadOf s seq = s := by
  simp [stopLoadOf, h, hs]

section Effects
variable {s m : State} {seq : Nat} {mark : Context → Context}

/-- In the marked state and with the load stopped, the records and the row in flight are as marked. -/
theorem stopLoadOf_runningLabelCtx (hm : MarkedLabel s m seq mark) (q : Nat) :
    (stopLoadOf m seq).runningLabelCtx q = s.runningLabelCtx q :=
  State.runningLabelCtx_congr (fun j => by simpa using hm.shape j) q

/-- A context that does not hold the label is left as it is by the row that the mark stops. -/
theorem afterMark_ctx_other (hm : MarkedLabel s m seq mark) {j : CtxId} (hj : (s.ctx j).holds seq = false) :
    (afterMark m seq).ctx j = s.ctx j := by
  rw [afterMark, stopRowOf_ctx, stopLoadOf_ctx, hm.other j hj]
  refine .inr fun hrun => ?_
  rw [stopLoadOf_runningLabelCtx hm] at hrun
  obtain ⟨hlabel, hseq⟩ := State.runningLabelCtx_eq_some hrun
  rw [Context.holds_of_runningLabel hlabel hseq] at hj
  cases hj

/-- While a pulse of the label runs out, or without a row in flight, a holder has its mark and nothing more. -/
theorem settle_afterMark_holder (hm : MarkedLabel s m seq mark)
    (hp : ∀ p, s.plan = some p → p.seq = seq → p.step.stage = .strobe) {i : CtxId}
    (hi : (s.ctx i).holds seq = true) : (settle (afterMark m seq)).ctx i = mark (s.ctx i) := by
  have hctx : (afterMark m seq).ctx i = m.ctx i := by
    rw [afterMark, stopRowOf_ctx, stopLoadOf_ctx]
    exact .inl (by simpa [hm.plan] using hp)
  obtain ⟨hfree, -⟩ := Context.holds_iff.1 hi
  rw [settle_ctx, arm_ctx_of_not_free (by rw [hctx, (hm.shape i).1]; exact hfree), hctx, hm.holder i hi]

/-- Another label's context stays, and a Free record stays or is armed (R21). -/
theorem settle_afterMark_other (hm : MarkedLabel s m seq mark) {j : CtxId} (hj : (s.ctx j).holds seq = false) :
    ((s.ctx j).state ≠ .free → (settle (afterMark m seq)).ctx j = s.ctx j)
    ∧ ((s.ctx j).state = .free → (settle (afterMark m seq)).ctx j = s.ctx j ∨ ∃ e rest, m.seq.queue = e :: rest
        ∧ (settle (afterMark m seq)).ctx j = e.toContext) := by
  have hctx := afterMark_ctx_other hm hj
  rw [settle_ctx]
  refine ⟨fun hfree => ?_, fun _ => ?_⟩
  · rw [arm_ctx_of_not_free (by rwa [hctx]), hctx]
  · simpa [hctx] using arm_ctx_of_free (afterMark m seq) j

/-- The row of the label that is in its load or latch ends at once (R128). -/
theorem settle_afterMark_rowEnds (hm : MarkedLabel s m seq mark) {p : Plan} (hp : s.plan = some p) (hs : p.seq = seq)
    (i : CtxId) : s.RowEndsAtOnce i (mark (s.ctx i)) (settle (afterMark m seq)) := by
  subst hs
  have hstop : afterMark m p.seq = stopRow (stopLoadOf m p.seq) := stopRowOf_of_plan (by simp [hm.plan, hp])
  have hends := rowEndsAtOnce_of_marked (s := s) (u := stopLoadOf m p.seq) (i := i) (by simp [hm.station])
    (by simp [hm.plan]) (by simp [hm.ring]) (by simp [hm.report]) (fun j => by simpa using hm.shape j)
  rw [← hstop] at hends
  intro q x hq hstage hx hrun
  obtain rfl : p = q := Option.some.inj (hp.symm.trans hq)
  obtain ⟨hlabel, hseq⟩ := State.runningLabelCtx_eq_some hrun
  have hmark : (stopLoadOf m p.seq).ctx i = mark (s.ctx i) := by
    rw [stopLoadOf_ctx, hm.holder i (Context.holds_of_runningLabel hlabel hseq)]
  have := hends p x hq hstage hx hrun
  rwa [hmark] at this

theorem settle_afterMark_plan {p : Plan} (h : (settle (afterMark m seq)).plan = some p) (hs : p.seq = seq) :
    p.step.stage = .strobe ∧ p.stopping = true := by
  refine stopRowOf_plan (s := stopLoadOf m seq) ?_ hs
  simpa [afterMark] using h

/-- A load in progress of the label stops and gives up its hold, and none begins for its context (R24, R53). -/
theorem settle_afterMark_load (hm : MarkedLabel s m seq mark) {l : Load} (hl : s.loader = some l)
    (hs : (s.ctx l.ctx).seq = seq) (hstate : (s.ctx l.ctx).state = .loading) :
    (settle (afterMark m seq)).store.holdLoader = false
    ∧ ∀ k ∈ (settle (afterMark m seq)).loader, k.ctx ≠ l.ctx := by
  have hseq : (m.ctx l.ctx).seq = seq := (hm.shape l.ctx).2.trans hs
  have hstop : stopLoadOf m seq = (m.setLoader none).setStore m.store.releaseLoader := by
    rw [← hseq, stopLoadOf_of_label (hm.loader.trans hl)]
  refine ⟨by simp [afterMark, hstop], fun k hk hkl => ?_⟩
  have hnone : (afterMark m seq).loader = none := by simp [afterMark, hstop]
  rw [settle_loader] at hk
  rcases arm_loader_cases (afterMark m seq) with harm | ⟨l', hl', hfree⟩
  · simp [harm, hnone] at hk
  · obtain rfl : l' = k := by simpa [hl'] using hk
    have hloading : (m.ctx l.ctx).state = .loading := (hm.shape l.ctx).1.trans hstate
    rw [hkl, afterMark, stopRowOf_ctx, stopLoadOf_ctx, hloading] at hfree
    · cases hfree
    · refine .inr fun hrun => ?_
      obtain ⟨hlabel, -⟩ := State.runningLabelCtx_eq_some hrun
      simp [Context.isRunningLabel, hloading] at hlabel

/-- A head that was held is held still. -/
theorem afterMark_headHeld (hm : MarkedLabel s m seq mark) {e e' : JobEntry} (he : e'.seq = e.seq)
    (h : s.headHeld e' = true) : (afterMark m seq).headHeld e = true := by
  obtain ⟨j, hnext, hseq⟩ := State.headHeld_iff.1 h
  obtain ⟨hstate', hseq'⟩ := hm.shape j
  have hnext' : (m.ctx j).isNext = true := by simpa [Context.isNext, hstate'] using hnext
  have hctx : (afterMark m seq).ctx j = m.ctx j := by
    rw [afterMark, stopRowOf_ctx, stopLoadOf_ctx]
    refine .inr fun hrun => ?_
    obtain ⟨hlabel, -⟩ := State.runningLabelCtx_eq_some hrun
    simp [Context.isRunningLabel_of_isNext hnext'] at hlabel
  exact State.headHeld_iff.2 ⟨j, by rwa [hctx], by rw [hctx, hseq', hseq, he]⟩

/-- The load of another label goes on, when no head waits to be armed. -/
theorem settle_afterMark_otherLoad (hm : MarkedLabel s m seq mark) {l : Load} (hl : s.loader = some l)
    (hs : (s.ctx l.ctx).seq ≠ seq) (hheld : ∀ e ∈ s.seq.queue.head?, s.headHeld e = true) :
    (settle (afterMark m seq)).loader = some l ∧ (settle (afterMark m seq)).store = s.store := by
  have hstop : stopLoadOf m seq = m :=
    stopLoadOf_of_other (hm.loader.trans hl) (by rw [(hm.shape l.ctx).2]; exact hs)
  have harm : arm (afterMark m seq) = afterMark m seq := by
    refine arm_of_nothing (.inl fun e he => ?_)
    obtain ⟨e', he', hseq⟩ := hm.heads e (by simpa using he)
    exact afterMark_headHeld hm hseq (hheld e' he')
  rw [settle_loader, harm]
  simp [afterMark, hstop, hm.loader, hl, hm.store]

end Effects

@[simp] theorem afterMark_storeFrame (s : State) (seq : Nat) : (afterMark s seq).store.memory = s.store.memory
    ∧ (afterMark s seq).store.catalog = s.store.catalog ∧ (afterMark s seq).store.sectors = s.store.sectors
    ∧ (afterMark s seq).store.write = s.store.write := by
  simp [afterMark]

/-- What a mark with its effects leaves of a state `u`, of which `m` is the marked state. -/
theorem settle_afterMark_frame {u m : State} (seq : Nat) (hm : m = { u with seq := m.seq, ctxA := m.ctxA, ctxB := m.ctxB }) :
    let t := settle (afterMark m seq)
    t = { u with
      seq := t.seq, ctxA := t.ctxA, ctxB := t.ctxB, loader := t.loader, raster := t.raster, ring := t.ring,
      plan := t.plan, head := t.head, link := { u.link with tx := t.link.tx }, report := t.report,
      store := { t.store with memory := u.store.memory, catalog := u.store.catalog, sectors := u.store.sectors,
                              write := u.store.write } } := by
  have hlink : m.link.OnlyTx (afterMark m seq).link := afterMark_onlyTx m seq
  rw [hm] at hlink ⊢
  intro t
  apply State.ext <;> try simp [t]
  · exact hlink
  · exact Store.ext_kept (by simp) (by simp) (by simp) (by simp)

/-- A marked state speaks of every block but the link. -/
theorem MarkedLabel.of_link {s m : State} {l : Link} {seq : Nat} {mark : Context → Context}
    (h : MarkedLabel { s with link := l } m seq mark) : MarkedLabel s m seq mark where
  station := h.station
  loader := h.loader
  ring := h.ring
  plan := h.plan
  store := h.store
  report := h.report
  holder := h.holder
  other := h.other
  shape := h.shape
  heads := h.heads

/-! #### CANCEL of one label (R15) -/

theorem markCancelled_marked {s : State} (hs : s.station = .active) (seq : Nat) :
    MarkedLabel s (markCancelled s seq) seq fun c => { c with cancelled := true } where
  station := by simp [hs]
  loader := by simp
  ring := by simp
  plan := by simp
  store := by simp
  report := by simp
  holder j hj := by rw [markCancelled_ctx, if_pos hj]
  other j hj := by rw [markCancelled_ctx, if_neg (by simp [hj])]
  shape j := by
    rw [markCancelled_ctx]
    split <;> simp
  heads e he := by
    simp only [markCancelled, State.setSeq_seq, List.head?_map, Option.mem_def, Option.map_eq_some_iff] at he
    obtain ⟨e', he', rfl⟩ := he
    refine ⟨e', he', ?_⟩
    split <;> rfl

theorem exec_cancel {s : State} {seq : Nat} {rest : List CommandFrame} (hs : s.station ≠ .starting)
    (hq : s.link.commandQueue = .cancel seq :: rest) (h0 : seq ≠ 0) :
    exec .cancel s = .next (takeCancel { s with link := { s.link with commandQueue := rest } } seq) := by
  simp [exec, execCancel, State.commandHead, hs, hq, popCommand_eq hq, h0]

/-- Settles O36: the label is marked, and the effects are those of a mark. -/
theorem cancelMarks : Obligations.CancelMarks := by
  intro s seq rest hstart hq h0
  let u : State := { s with link := { s.link with commandQueue := rest } }
  refine ⟨fun hs hheld => ?_, fun hno => ?_⟩
  · let m := markCancelled u seq
    have hm : MarkedLabel s m seq fun c => { c with cancelled := true } :=
      (markCancelled_marked (s := u) hs seq).of_link
    have ht : exec .cancel s = .next (settle (afterMark m seq)) := by
      rw [exec_cancel hstart hq h0, takeCancel]
      exact congrArg Host.Outcome.next (if_pos ⟨hs, hheld⟩)
    have hseq : (settle (afterMark m seq)).seq = m.seq := by simp
    refine ⟨settle (afterMark m seq), ht, hseq, settle_afterMark_frame (u := u) seq rfl, fun hp i hi => settle_afterMark_holder hm hp hi,
      fun p i hp hs => settle_afterMark_rowEnds hm hp hs i, fun j hj => ?_, fun p hp => settle_afterMark_plan hp,
      fun l hl => settle_afterMark_load hm hl, fun l hl => settle_afterMark_otherLoad hm hl⟩
    rw [hseq]
    exact settle_afterMark_other hm hj
  · rw [exec_cancel hstart hq h0, takeCancel, if_neg]
    rintro ⟨hs, hheld⟩
    rcases hno with hno | hno
    · exact hno hs
    · exact Bool.false_ne_true (hno.symm.trans hheld)

/-! #### A received VOID (R13, R14) -/

theorem Context.voidWith_eq (c : Context) (reason : Reason) :
    c.voidWith reason = { c with voided := some (c.voided.getD reason) } := by
  obtain ⟨⟩ := c
  rename_i voided _
  cases voided <;> simp [Context.voidWith]

theorem markVoided_marked {s : State} (hs : s.station = .active) (seq : Nat) :
    MarkedLabel s (markVoided s seq .peerVoid) seq fun c => { c with voided := some (c.voided.getD .peerVoid) } where
  station := by simp [hs]
  loader := by simp
  ring := by simp
  plan := by simp
  store := by simp
  report := by simp
  holder j hj := by rw [markVoided_ctx, if_pos hj, Context.voidWith_eq]
  other j hj := by rw [markVoided_ctx, if_neg (by simp [hj])]
  shape j := by
    rw [markVoided_ctx, Context.voidWith_eq]
    split <;> simp
  heads e he := by
    simp only [markVoided, State.setSeq_seq, List.head?_map, Option.mem_def, Option.map_eq_some_iff] at he
    obtain ⟨e', he', rfl⟩ := he
    refine ⟨e', he', ?_⟩
    rw [JobEntry.voidWith]
    split
    · split <;> rfl
    · rfl

/-- The mark Voided on the entries of the label, those that carry it apart (R11). -/
theorem markVoided_seq (s : State) (seq : Nat) (reason : Reason) : (markVoided s seq reason).seq = { s.seq with
    queue := s.seq.queue.map fun e =>
      if e.seq = seq ∧ e.voided = none then { e with voided := some reason } else e } := by
  simp only [markVoided, State.setSeq_seq, JobEntry.voidWith]
  congr 2
  funext e
  by_cases he : e.seq = seq <;> by_cases hv : e.voided = none <;> simp [he, hv]

theorem natOf_be16 {n : Nat} (h : n < 65536) : natOf (be16 n) = n := by
  simp only [natOf, be16, byteOf, List.foldl_cons, List.foldl_nil, BitVec.toNat_ofNat]
  omega

/-- The destination nibble of an address byte. -/
theorem destOf_append (dest src : BitVec 4) : destOf (dest ++ src) = dest.toNat := by
  have hsrc := src.isLt
  rw [destOf, BitVec.toNat_append, ← Nat.shiftLeft_add_eq_or_of_lt hsrc, Nat.shiftLeft_eq]
  omega

theorem parsePayload_void (seq : BitVec 16) (reason : Byte) :
    parsePayload 0x41#8 (encodeVoid seq.toNat reason) = some (.void seq.toNat) := by
  have htake : (encodeVoid seq.toNat reason).take 2 = be16 seq.toNat := rfl
  simp [parsePayload, htake, natOf_be16 seq.isLt]
  rfl

/-- The command VOID, for this station and taken by its receiver (R146 to R148). -/
theorem exec_void {s : State} {dest src : BitVec 4} {seq : BitVec 16} {reason : Byte}
    (hrec : s.link.canReceive = true) (hdest : dest.toNat = s.number ∨ dest = 15#4) (hs : s.station ≠ .starting) :
    let f := checkedFrame (dest ++ src) 0x41#8 (encodeVoid seq.toNat reason)
    exec (.void dest src seq reason) s = .next (takeVoid { s with
      link := { s.link with receiver := .ready, quiet := frameEndQuiet f } } seq.toNat) := by
  intro f
  have hlen : f.payload.length ≤ 480 := by simp [f, checkedFrame, encodeVoid, be16]
  have hfor : (setReceiver s .ready (frameEndQuiet f)).isFor (destOf f.address) = true := by
    have haddr : destOf f.address = dest.toNat := destOf_append dest src
    rw [haddr]
    rcases hdest with hdest | rfl
    · simp [State.isFor, hdest]
    · simp [State.isFor, Config.broadcastAddress]
  have hcheck : f.check = checkOf (checkedBytes f.address f.kind f.payload) := rfl
  have hparse : parsePayload f.kind f.payload = some (.void seq.toNat) := parsePayload_void seq reason
  show Host.Outcome.next (acceptFrame s f) = _
  rw [acceptFrame, if_pos ⟨hrec, hlen⟩, if_pos hcheck, acceptChecked, if_pos hfor, hparse]
  simp [setReceiver, hs, route, State.setLink]

theorem takeVoid_held {s : State} {seq : Nat} (hs : s.station = .active) (h : s.labelHeld seq = true) :
    takeVoid s seq = settle (afterMark (markVoided s seq .peerVoid) seq) := by
  simp [takeVoid, hs, h]

theorem takeVoid_preVoid {s : State} {seq : Nat} (hs : s.station = .active) (h : s.labelHeld seq = false)
    (hnext : s.seq.queue = [] ∧ s.seq.lc ≠ 0 ∧ seq = nextSeq s.seq.lc) :
    takeVoid s seq = s.setSeq { s.seq with preVoid := seq } := by
  rw [takeVoid, if_pos hs, if_neg (by simp [h]), if_pos hnext]

theorem takeVoid_ignored {s : State} {seq : Nat} (h : s.station ≠ .active ∨ (s.labelHeld seq = false
    ∧ (s.seq.queue ≠ [] ∨ s.seq.lc = 0 ∨ seq ≠ nextSeq s.seq.lc))) : takeVoid s seq = s := by
  by_cases hs : s.station = .active
  · obtain ⟨hheld, hno⟩ := h.resolve_left (not_not.2 hs)
    have hnot : ¬(s.seq.queue = [] ∧ s.seq.lc ≠ 0 ∧ seq = nextSeq s.seq.lc) := by tauto
    rw [takeVoid, if_pos hs, if_neg (by simp [hheld]), if_neg hnot]
  · rw [takeVoid, if_neg hs]

/-- Settles O38: a held label takes the mark with its effects; otherwise the VOID names the pre-void seq or nothing. -/
theorem voidMarks : Obligations.VoidMarks := by
  intro s dest src seq reason f
  refine ⟨rfl, ?_⟩
  intro hrec hdest hstart quietLink
  let u : State := { s with link := quietLink }
  have ht : exec (.void dest src seq reason) s = .next (takeVoid u seq.toNat) := exec_void hrec hdest hstart
  refine ⟨fun hs hheld => ?_, fun hs hheld hq hlc hnext => ?_, fun hno => ?_⟩
  · let m := markVoided u seq.toNat .peerVoid
    have hm : MarkedLabel s m seq.toNat fun c => { c with voided := some (c.voided.getD .peerVoid) } :=
      (markVoided_marked (s := u) hs seq.toNat).of_link
    have hseq : (settle (afterMark m seq.toNat)).seq = m.seq := by simp
    rw [ht, takeVoid_held (s := u) hs hheld]
    refine ⟨settle (afterMark m seq.toNat), rfl, hseq.trans (markVoided_seq u _ _),
      settle_afterMark_frame (u := u) seq.toNat rfl, fun hp i hi => settle_afterMark_holder hm hp hi,
      fun p i hp hs => settle_afterMark_rowEnds hm hp hs i, fun j hj => ?_, fun p hp => settle_afterMark_plan hp,
      fun l hl => settle_afterMark_load hm hl, fun l hl => settle_afterMark_otherLoad hm hl⟩
    rw [hseq]
    exact settle_afterMark_other hm hj
  · rw [ht, takeVoid_preVoid (s := u) hs hheld ⟨hq, hlc, hnext⟩]
    rfl
  · rw [ht, takeVoid_ignored (s := u) hno]

/-! #### CANCEL of every label (R16) -/

theorem markAllCancelled_ctx (s : State) (i : CtxId) : (markAllCancelled s).ctx i
    = if (s.ctx i).isFree then s.ctx i else { s.ctx i with cancelled := true } := by
  cases i <;> rfl

/-- Every label marked and the load in progress stopped (R16, R53). -/
def cancelledAll (s : State) : State :=
  match s.loader with
  | some _ => ((markAllCancelled s).setLoader none).setStore s.store.releaseLoader
  | none => markAllCancelled s

theorem takeCancelAll_active {s : State} (hs : s.station = .active) :
    takeCancelAll s = settle (stopRow (cancelledAll s)) := by
  cases hl : s.loader <;> simp [takeCancelAll, cancelledAll, stopLoad, hs, hl]

@[simp] theorem cancelledAll_frame (s : State) : (cancelledAll s).station = s.station
    ∧ (cancelledAll s).number = s.number ∧ (cancelledAll s).setup = s.setup
    ∧ (cancelledAll s).seq = { s.seq with queue := s.seq.queue.map fun e => { e with cancelled := true } }
    ∧ (cancelledAll s).loader = none ∧ (cancelledAll s).raster = s.raster ∧ (cancelledAll s).ring = s.ring
    ∧ (cancelledAll s).timer = s.timer ∧ (cancelledAll s).plan = s.plan ∧ (cancelledAll s).head = s.head
    ∧ (cancelledAll s).thermal = s.thermal ∧ (cancelledAll s).lines = s.lines ∧ (cancelledAll s).link = s.link
    ∧ (cancelledAll s).peers = s.peers ∧ (cancelledAll s).store.memory = s.store.memory
    ∧ (cancelledAll s).store.catalog = s.store.catalog ∧ (cancelledAll s).store.sectors = s.store.sectors
    ∧ (cancelledAll s).store.write = s.store.write ∧ (cancelledAll s).report = s.report
    ∧ (cancelledAll s).freeCount = s.freeCount ∧ (cancelledAll s).pending = s.pending := by
  unfold cancelledAll
  split <;> simp_all [markAllCancelled]

theorem cancelledAll_holdLoader {s : State} (h : s.loader ≠ none) : (cancelledAll s).store.holdLoader = false := by
  obtain ⟨l, hl⟩ := Option.ne_none_iff_exists'.1 h
  simp [cancelledAll, hl]

theorem cancelledAll_ctx (s : State) (i : CtxId) : (cancelledAll s).ctx i
    = if (s.ctx i).isFree then s.ctx i else { s.ctx i with cancelled := true } := by
  rw [← markAllCancelled_ctx]
  unfold cancelledAll
  split <;> simp

theorem exec_cancelAll {s : State} {rest : List CommandFrame} (hs : s.station ≠ .starting)
    (hq : s.link.commandQueue = .cancel 0 :: rest) :
    exec .cancelAll s = .next (takeCancelAll { s with link := { s.link with commandQueue := rest } }) := by
  simp [exec, execCancelAll, State.commandHead, hs, hq, popCommand_eq hq]

/-- No entry of a queue that is cancelled as a whole is loaded (R21). -/
theorem arm_loader_of_cancelled {s : State} (hl : s.loader = none) (h : ∀ e ∈ s.seq.queue, e.cancelled = true) :
    (arm s).loader = none := by
  rcases arm_cases s with harm | ⟨e, rest, i, hq, -, -, -, harm⟩
  · rw [harm, hl]
  · have hload : ¬e.loads = true := by
      rw [JobEntry.loads_iff, h e (by simp [hq])]
      simp
    rw [harm, State.setLoader_loader, if_neg hload, hl]

/-- Settles O37: every holder is marked, the load and the row in flight are stopped, and arming begins no load. -/
theorem cancelAllMarks : Obligations.CancelAllMarks := by
  intro s rest hq
  let u : State := { s with link := { s.link with commandQueue := rest } }
  refine ⟨fun hs => ?_, fun hs => ?_, fun hs => ?_⟩
  · have hactive : s.station ≠ .active := by rcases hs with hs | hs <;> simp [hs]
    rw [exec_cancelAll (by rcases hs with hs | hs <;> simp [hs]) hq, takeCancelAll]
    exact congrArg Host.Outcome.next (if_neg hactive)
  · simp [exec, execCancelAll, State.commandHead, hs]
  · let c := cancelledAll u
    let t := settle (stopRow c)
    have ht : exec .cancelAll s = .next t := by
      rw [exec_cancelAll (by simp [hs]) hq, takeCancelAll_active (s := u) hs]
    have hshape : ∀ j, (c.ctx j).state = (s.ctx j).state ∧ (c.ctx j).seq = (s.ctx j).seq := by
      intro j
      show ((cancelledAll u).ctx j).state = _ ∧ _
      rw [cancelledAll_ctx]
      split <;> exact ⟨rfl, rfl⟩
    have hmark : ∀ j, (s.ctx j).state ≠ .free → c.ctx j = { s.ctx j with cancelled := true } := by
      intro j hj
      have hfree : (u.ctx j).isFree = false := Context.isFree_eq_false.2 hj
      exact (cancelledAll_ctx u j).trans (by rw [if_neg (by simp [hfree])]; rfl)
    have hcancelled : (arm (stopRow c)).loader = none :=
      arm_loader_of_cancelled (by simp [c]) (by simp [c])
    have htx : u.link.OnlyTx (stopRow c).link := by simpa [c] using stopRow_onlyTx c
    refine ⟨t, ht, by simp [t, c, u], by simp [t, hcancelled], fun hl => ?_, ?_, fun hp i hi => ?_, fun i => ?_,
      fun p hp => stopRow_plan (s := c) (by simpa [t] using hp)⟩
    · simpa [t] using cancelledAll_holdLoader (s := u) hl
    · apply State.ext <;> try simp [t, c, u, hcancelled]
      · exact htx
      · exact Store.ext_kept (by simp) (by simp) (by simp) (by simp)
    · have hstop : (stopRow c).ctx i = c.ctx i := stopRow_ctx fun p hcp => .inl (hp p (by simpa [c, u] using hcp))
      have hc := hmark i hi
      rw [settle_ctx, arm_ctx_of_not_free (by rw [hstop, hc]; exact hi), hstop, hc]
    · have hends := rowEndsAtOnce_of_marked (s := s) (u := c) (i := i) (by simp [c, u, hs]) (by simp [c, u])
        (by simp [c, u]) (by simp [c, u]) hshape
      intro p x hp hstage hx hrun
      obtain ⟨hlabel, -⟩ := State.runningLabelCtx_eq_some hrun
      have hfree : (s.ctx i).state ≠ .free := fun hf => by simp [Context.isRunningLabel_of_free hf] at hlabel
      have := hends p x hp hstage hx hrun
      rwa [hmark i hfree] at this

end Sys2Proof.Machine

/-! ### A label voided by the station, and the end of a load (O42) -/

namespace Sys2Proof.Machine

/-! #### The mark Voided and its VOID (R11, R12) -/

theorem State.labelVoided_iff {s : State} {seq : Nat} : s.labelVoided seq = true ↔
    (∃ j, (s.ctx j).holds seq = true ∧ (s.ctx j).voided ≠ none)
    ∨ ∃ e ∈ s.seq.queue, e.seq = seq ∧ e.voided ≠ none := by
  have hsome : ∀ v : Option Reason, v.isSome = true ↔ v ≠ none := fun v => by cases v <;> simp
  constructor
  · intro h
    simp only [State.labelVoided, Bool.or_eq_true, Bool.and_eq_true, List.any_eq_true, decide_eq_true_eq, hsome] at h
    rcases h with (h | h) | h
    · exact .inl ⟨.a, h⟩
    · exact .inl ⟨.b, h⟩
    · exact .inr h
  · simp only [State.labelVoided, Bool.or_eq_true, Bool.and_eq_true, List.any_eq_true, decide_eq_true_eq, hsome]
    rintro (⟨j, h⟩ | h)
    · cases j
      · exact .inl (.inl h)
      · exact .inl (.inr h)
    · exact .inr h

theorem State.labelVoided_eq_false {s : State} {seq : Nat} : s.labelVoided seq = false ↔
    (∀ j, (s.ctx j).holds seq = true → (s.ctx j).voided = none)
    ∧ ∀ e ∈ s.seq.queue, e.seq = seq → e.voided = none := by
  rw [← Bool.not_eq_true, State.labelVoided_iff]
  push Not
  rfl

section OwnVoid
variable {s : State} {seq : Nat} (h : s.labelVoided seq = false) (reason : Reason)
include h

theorem ownVoid_ctx (j : CtxId) : (ownVoid s seq reason).ctx j
    = if (s.ctx j).holds seq then { s.ctx j with voided := some reason } else s.ctx j := by
  rw [ownVoid_of_not_voided h, pushVoid_ctx, markVoided_ctx]
  split
  · rename_i hj
    rw [Context.voidWith_eq, (State.labelVoided_eq_false.1 h).1 j hj]
    rfl
  · rfl

theorem ownVoid_seq : (ownVoid s seq reason).seq = { s.seq with queue := s.seq.queue.map fun e =>
    if e.seq = seq ∧ e.voided = none then { e with voided := some reason } else e } := by
  rw [ownVoid_of_not_voided h, ← markVoided_seq]
  simp

theorem ownVoid_placed : VoidPlaced s { seq := seq, reason := reason } (ownVoid s seq reason) := by
  rw [ownVoid_of_not_voided h]
  exact pushVoid_placed_of_link (by simp) _

theorem ownVoid_report_of_room (hroom : s.link.voidQueue.length < 4) : (ownVoid s seq reason).report = s.report := by
  rw [ownVoid_of_not_voided h, pushVoid_of_room (by simpa using hroom)]
  simp

end OwnVoid

/-! #### The end of a load (R22, R51) -/

theorem exec_loadComplete {s : State} {l : Load} (hl : s.loader = some l) :
    exec .loadComplete s = .next (if s.loadEnds l then advanceRaster (endLoad s l) else s) := by
  simp only [exec, execLoadComplete, hl]
  split <;> rfl

theorem State.loadEnds_of_result {s : State} {l : Load} (hw : ¬(s.store.waitLoader = true ∨ l.lookupWaits = true))
    (hr : l.status = .done ∨ ∃ reason, l.status = .failed reason) : s.loadEnds l = true := by
  rcases hr with hr | ⟨reason, hr⟩ <;> simp_all [State.loadEnds]

/-- The loader idle, with its hold ended (R53, R165). -/
def loaderIdle (s : State) : State := (s.setLoader none).setStore s.store.releaseLoader

@[simp] theorem loaderIdle_frame (s : State) : (loaderIdle s).station = s.station ∧ (loaderIdle s).number = s.number
    ∧ (loaderIdle s).setup = s.setup ∧ (loaderIdle s).seq = s.seq ∧ (loaderIdle s).ctxA = s.ctxA
    ∧ (loaderIdle s).ctxB = s.ctxB ∧ (loaderIdle s).loader = none ∧ (loaderIdle s).raster = s.raster
    ∧ (loaderIdle s).ring = s.ring ∧ (loaderIdle s).timer = s.timer ∧ (loaderIdle s).plan = s.plan
    ∧ (loaderIdle s).head = s.head ∧ (loaderIdle s).thermal = s.thermal ∧ (loaderIdle s).lines = s.lines
    ∧ (loaderIdle s).link = s.link ∧ (loaderIdle s).peers = s.peers ∧ (loaderIdle s).store.memory = s.store.memory
    ∧ (loaderIdle s).store.catalog = s.store.catalog ∧ (loaderIdle s).store.sectors = s.store.sectors
    ∧ (loaderIdle s).store.write = s.store.write ∧ (loaderIdle s).store.holdLoader = false
    ∧ (loaderIdle s).report = s.report ∧ (loaderIdle s).freeCount = s.freeCount
    ∧ (loaderIdle s).pending = s.pending := by
  simp [loaderIdle]

@[simp] theorem loaderIdle_ctx (s : State) (j : CtxId) : (loaderIdle s).ctx j = s.ctx j := by simp [loaderIdle]

theorem endLoad_done {s : State} {l : Load} (h : l.status = .done) :
    endLoad s l = (loaderIdle s).setCtx l.ctx ((s.ctx l.ctx).loaded (s.loadHeight l) l) := by
  simp [endLoad, h, loaderIdle]

theorem endLoad_failed {s : State} {l : Load} {reason : Reason} (h : l.status = .failed reason) :
    endLoad s l = ownVoid (loaderIdle s) (s.ctx l.ctx).seq reason := by
  simp [endLoad, h, loaderIdle]

/-- Settles O42: the load goes on waiting, ends with its result, or ends voided unless the label is voided. -/
theorem loadCompletes : Obligations.LoadCompletes := by
  intro s l hl waits
  refine ⟨fun hw => ?_, fun body hw hdone hform => ?_, fun reason hw hfail hfree hvoid => ?_,
    fun reason hw hfail hvoid => ?_⟩
  · have hno : ¬s.loadEnds l = true := fun hends => by
      obtain ⟨h1, h2, hstatus⟩ := State.loadEnds_eq_true hends
      rcases hw with (hw | hw) | ⟨n, hn⟩ | ⟨n, hn⟩
      · simp [h1] at hw
      · simp [h2] at hw
      · simp [hn] at hstatus
      · simp [hn] at hstatus
    rw [exec_loadComplete hl, if_neg hno]
  · have hheight : s.loadHeight l = body.height := by simp [State.loadHeight, hform]
    rw [exec_loadComplete hl, if_pos (State.loadEnds_of_result hw (.inl hdone)), endLoad_done hdone, hheight]
    refine ⟨_, rfl, by simp [Context.loaded], by simp, by simp, ?_, by simp,
      by simp, by simp, by simp⟩
    apply State.ext <;> try simp
    apply Ring.ext <;> simp
  · let v := ownVoid (loaderIdle s) (s.ctx l.ctx).seq reason
    have hv : (loaderIdle s).labelVoided (s.ctx l.ctx).seq = false := hvoid
    have hholds : (s.ctx l.ctx).holds (s.ctx l.ctx).seq = true := Context.holds_iff.2 ⟨hfree, rfl⟩
    have hlink : s.link.OnlyVoids v.link := ownVoid_onlyVoids (loaderIdle s) _ _
    have hplaced : VoidPlaced s { seq := (s.ctx l.ctx).seq, reason := reason } v := ownVoid_placed hv reason
    rw [exec_loadComplete hl, if_pos (State.loadEnds_of_result hw (.inr ⟨reason, hfail⟩)), endLoad_failed hfail]
    refine ⟨advanceRaster v, rfl, ?_, by simp [v], by simp [v],
      hplaced.mono rfl rfl (by simp) (by simp) (.of_report (by simp)), fun hroom => ?_, by simp [v],
      fun hother => ?_, ?_, ?_⟩
    · rw [advanceRaster_ctx, ownVoid_ctx hv, loaderIdle_ctx, if_pos hholds]
    · simpa [v] using ownVoid_report_of_room hv reason hroom
    · rw [advanceRaster_ctx, ownVoid_ctx hv, loaderIdle_ctx, if_neg (by simp [hother])]
    · simpa [v] using ownVoid_seq hv reason
    · apply State.ext
      case link => simpa using hlink.counts_eq
      case store => exact Store.ext_kept (by simp [v]) (by simp [v]) (by simp [v]) (by simp [v])
      all_goals simp [v]
  · have hv : (loaderIdle s).labelVoided (s.ctx l.ctx).seq = true := hvoid
    rw [exec_loadComplete hl, if_pos (State.loadEnds_of_result hw (.inr ⟨reason, hfail⟩)), endLoad_failed hfail,
      ownVoid_of_voided hv]
    refine ⟨_, rfl, by simp, ?_⟩
    apply State.ext
    case ring => apply Ring.ext <;> simp
    case store => exact Store.ext_kept (by simp) (by simp) (by simp) (by simp)
    all_goals simp

end Sys2Proof.Machine

/-! ### Top of form (O39 to O41) -/

namespace Sys2Proof.Machine

/-! #### The seq that a TOF consumes (R10) -/

/-- The pre-void seq is cleared when the consumed seq is at it or past it (R14). -/
theorem SeqUnit.consume_eq (q : SeqUnit) (seq : Nat) : q.consume seq = { q with
    lc := seq, queue := q.queue.tail,
    preVoid := if seqDistance q.preVoid seq = 0 ∨ 32767 < seqDistance q.preVoid seq then 0 else q.preVoid } := by
  unfold SeqUnit.consume
  have hbehind : atOrBehind q.preVoid seq = true ↔ seqDistance q.preVoid seq = 0 ∨ 32767 < seqDistance q.preVoid seq := by
    simp [atOrBehind, Nat.lt_iff_add_one_le]
  simp only [hbehind]
  by_cases h0 : q.preVoid = 0
  · simp [h0]
  · simp [h0]

/-! #### A voided label's other contexts -/

theorem ownVoid_ctx_other {s : State} {seq : Nat} {j : CtxId} (h : (s.ctx j).holds seq = false) (reason : Reason) :
    (ownVoid s seq reason).ctx j = s.ctx j := by
  rcases hv : s.labelVoided seq with _ | _
  · rw [ownVoid_ctx hv, if_neg (by simp [h])]
  · rw [ownVoid_of_voided hv]

/-! #### The running label is ended (R26) -/

theorem endRunning_of_none {s : State} (h : s.runningCtx = none) : endRunning s = s := by simp [endRunning, h]

/-- The running label leaves its record: without a height, or with no row of it in flight. -/
def State.leavesAtTof (s : State) (i : CtxId) : Prop := (s.ctx i).h = none ∨ ∀ p ∈ s.plan, p.seq ≠ (s.ctx i).seq

/-- The context whose record a label reports that a TOF ends: Truncated when its height is known (R26). -/
def Context.endedByTof (c : Context) : Context := if c.h = none then c else { c with truncated := true }

theorem endRunning_of_leaves {s : State} {i : CtxId} (h : s.runningCtx = some i) (hl : s.leavesAtTof i) :
    endRunning s = completeLabel ((s.setRing (s.ring.freeLabel (s.ctx i).seq)).setCtx i (s.ctx i).endedByTof) i := by
  unfold endRunning Context.endedByTof
  simp only [h]
  cases hh : (s.ctx i).h with
  | none =>
    have hself : (s.setRing (s.ring.freeLabel (s.ctx i).seq)).setCtx i (s.ctx i)
        = s.setRing (s.ring.freeLabel (s.ctx i).seq) := by
      cases i <;> rfl
    simp [hself]
  | some height =>
    have hno : (s.plan.map fun p => p.seq) ≠ some (s.ctx i).seq := by
      rcases hl with hl | hl
      · simp [hh] at hl
      · simpa using hl
    simp [hno]

theorem endRunning_of_stays {s : State} {i : CtxId} (h : s.runningCtx = some i) (hl : ¬s.leavesAtTof i) :
    endRunning s = leaveIfOn ((s.setRing (s.ring.freeLabel (s.ctx i).seq)).setCtx i
      { s.ctx i with truncated := true, state := .ending }) i := by
  unfold endRunning
  simp only [h]
  rw [State.leavesAtTof, not_or] at hl
  obtain ⟨hh, hp⟩ := hl
  obtain ⟨height, hheight⟩ := Option.ne_none_iff_exists'.1 hh
  have hfly : (s.plan.map fun p => p.seq) = some (s.ctx i).seq := by simpa using hp
  simp [hheight, hfly]

theorem endRunning_ctx_of_leaves {s : State} {i : CtxId} (h : s.runningCtx = some i) (hl : s.leavesAtTof i) (j : CtxId) :
    (endRunning s).ctx j = if j = i then Context.free else s.ctx j := by
  rw [endRunning_of_leaves h hl, completeLabel_ctx, State.setCtx_ctx]
  split <;> simp

theorem endRunning_ctx_of_stays {s : State} {i : CtxId} (h : s.runningCtx = some i) (hl : ¬s.leavesAtTof i) (j : CtxId) :
    (endRunning s).ctx j = if j = i then { s.ctx i with truncated := true, state := .ending } else s.ctx j := by
  rw [endRunning_of_stays h hl, State.ctx_of_contexts (s := (s.setRing (s.ring.freeLabel (s.ctx i).seq)).setCtx i
    { s.ctx i with truncated := true, state := .ending }) (by simp) (by simp), State.setCtx_ctx]
  split <;> simp

/-- What becomes of a context when the running label is ended: nothing, or it is Free or in Ending. -/
theorem endRunning_ctx_cases (s : State) (j : CtxId) : (endRunning s).ctx j = s.ctx j
    ∨ ((s.ctx j).state = .running ∧ ((endRunning s).ctx j = Context.free
      ∨ (endRunning s).ctx j = { s.ctx j with truncated := true, state := .ending })) := by
  cases h : s.runningCtx with
  | none => exact .inl (by rw [endRunning_of_none h])
  | some i =>
    have hrun : (s.ctx i).state = .running := by simpa [Context.isRunning] using State.findCtx_eq_some h
    rcases eq_or_ne j i with rfl | hj
    · refine .inr ⟨hrun, ?_⟩
      by_cases hl : s.leavesAtTof j
      · exact .inl (by rw [endRunning_ctx_of_leaves h hl, if_pos rfl])
      · exact .inr (by rw [endRunning_ctx_of_stays h hl, if_pos rfl])
    · by_cases hl : s.leavesAtTof i
      · exact .inl (by rw [endRunning_ctx_of_leaves h hl, if_neg hj])
      · exact .inl (by rw [endRunning_ctx_of_stays h hl, if_neg hj])

theorem endRunning_ctx_of_not_running {s : State} {j : CtxId} (h : (s.ctx j).state ≠ .running) :
    (endRunning s).ctx j = s.ctx j :=
  (endRunning_ctx_cases s j).resolve_right fun h' => h h'.1

@[simp] theorem endRunning_isNext (s : State) (j : CtxId) : ((endRunning s).ctx j).isNext = (s.ctx j).isNext := by
  rcases endRunning_ctx_cases s j with h | ⟨hrun, h | h⟩
  · rw [h]
  · rw [h]
    simp [Context.isNext, hrun, Context.free]
  · rw [h]
    simp [Context.isNext, hrun]

/-- Ending the running label voids nothing. -/
theorem endRunning_labelVoided {s : State} {seq : Nat} (h : s.labelVoided seq = false) :
    (endRunning s).labelVoided seq = false := by
  rw [State.labelVoided_eq_false] at h ⊢
  obtain ⟨hctx, hqueue⟩ := h
  refine ⟨fun j hj => ?_, by simpa using hqueue⟩
  rcases endRunning_ctx_cases s j with hc | ⟨hrun, hc | hc⟩
  · rw [hc] at hj ⊢
    exact hctx j hj
  · rw [hc]
    rfl
  · rw [hc] at hj ⊢
    obtain ⟨-, hseq⟩ := Context.holds_iff.1 hj
    exact hctx j (Context.holds_iff.2 ⟨by simp [hrun], hseq⟩)

@[simp] theorem endRunning_rendering (s : State) : (endRunning s).raster.rendering = s.raster.rendering := by
  cases h : s.runningCtx with
  | none => rw [endRunning_of_none h]
  | some i =>
    by_cases hl : s.leavesAtTof i
    · simp [endRunning_of_leaves h hl]
    · simp [endRunning_of_stays h hl]

/-- The label's Rendered slots leave the lead, and the ring stays otherwise (R26). -/
theorem endRunning_ring {s : State} {i : CtxId} (h : s.runningCtx = some i) :
    (endRunning s).ring = s.ring.freeLabel (s.ctx i).seq := by
  by_cases hl : s.leavesAtTof i
  · simp [endRunning_of_leaves h hl]
  · simp [endRunning_of_stays h hl]

@[simp] theorem endRunning_ringFrame (s : State) : (endRunning s).ring.history = s.ring.history
    ∧ (endRunning s).ring.firing = s.ring.firing := by
  cases h : s.runningCtx with
  | none => rw [endRunning_of_none h]; exact ⟨rfl, rfl⟩
  | some i => rw [endRunning_ring h]; exact ⟨rfl, rfl⟩

/-- The record of a label that leaves its context at a TOF (R26, R36). -/
theorem endRunning_placed {s : State} {i : CtxId} (h : s.runningCtx = some i) (hl : s.leavesAtTof i) :
    RecordPlaced s (s.ctx i).endedByTof.completedRecord (endRunning s) := by
  rw [endRunning_of_leaves h hl]
  have := completeLabel_placed ((s.setRing (s.ring.freeLabel (s.ctx i).seq)).setCtx i (s.ctx i).endedByTof) i
  rw [State.setCtx_ctx_self] at this
  exact this.mono (by simp) rfl (.of_report rfl)

theorem endRunning_report_of_stays {s : State} {i : CtxId} (h : s.runningCtx = some i) (hl : ¬s.leavesAtTof i) :
    (endRunning s).report = s.report := by
  simp [endRunning_of_stays h hl]

/-! #### The consumed label starts (R27 to R29) -/

section Start
variable {s : State} {e : JobEntry} {rest : List JobEntry} {i : CtxId}

theorem startLabel_of_armed (hq : s.seq.queue = e :: rest) (ha : (s.ctx i).state = .armed) (hs : (s.ctx i).seq = e.seq)
    (ho : (s.ctx i.other).isNext = false) :
    startLabel s = moveToStarted (startArmed (s.setSeq (s.seq.consume e.seq)) i) i := by
  have hheld : (s.findCtx fun c => c.isNext && decide (c.seq = e.seq)) = some i :=
    State.findCtx_of_unique (by simp [Context.isNext, ha, hs]) (by simp [ho])
  simp [startLabel, hq, hheld, ha]

theorem startLabel_of_loading (hq : s.seq.queue = e :: rest) (ha : (s.ctx i).state = .loading)
    (hs : (s.ctx i).seq = e.seq) (ho : (s.ctx i.other).isNext = false) :
    startLabel s = moveToStarted (startLoading (s.setSeq (s.seq.consume e.seq)) i) i := by
  have hheld : (s.findCtx fun c => c.isNext && decide (c.seq = e.seq)) = some i :=
    State.findCtx_of_unique (by simp [Context.isNext, ha, hs]) (by simp [ho])
  simp [startLabel, hq, hheld, ha]

theorem startLabel_of_unheld (hq : s.seq.queue = e :: rest) (hn : ∀ j, (s.ctx j).isNext = false)
    (hf : s.findCtx Context.isFree = some i) :
    startLabel s = moveToStarted (startUnheld (s.setSeq (s.seq.consume e.seq)) i e) i := by
  have hheld : (s.findCtx fun c => c.isNext && decide (c.seq = e.seq)) = none :=
    State.findCtx_eq_none.2 fun j => by simp [hn j]
  have hf' : (s.setSeq (s.seq.consume e.seq)).findCtx Context.isFree = some i := hf
  simp [startLabel, hq, hheld, hf']

theorem startLabel_of_empty (hq : s.seq.queue = []) (hf : s.findCtx Context.isFree = some i) :
    startLabel s = moveToStarted (startEmpty (s.setSeq (s.seq.consume (nextSeq s.seq.lc))) i (nextSeq s.seq.lc)
      (decide (s.seq.preVoid = nextSeq s.seq.lc))) i := by
  have hf' : (s.setSeq (s.seq.consume (nextSeq s.seq.lc))).findCtx Context.isFree = some i := hf
  simp [startLabel, hq, hf']

end Start

/-- What a TOF can start: an Armed or a Loading context that holds the head, a Free record for an unheld head or for
no head, or nothing. -/
theorem startLabel_cases (s : State) :
    (∃ seq, startLabel s = s.setSeq (s.seq.consume seq))
    ∨ (∃ e ∈ s.seq.queue, ∃ i, (s.ctx i).state = .armed ∧ (s.ctx i).seq = e.seq
        ∧ startLabel s = moveToStarted (startArmed (s.setSeq (s.seq.consume e.seq)) i) i)
    ∨ (∃ e ∈ s.seq.queue, ∃ i, (s.ctx i).state = .loading ∧ (s.ctx i).seq = e.seq
        ∧ startLabel s = moveToStarted (startLoading (s.setSeq (s.seq.consume e.seq)) i) i)
    ∨ (∃ e ∈ s.seq.queue, ∃ i, (s.ctx i).state = .free
        ∧ startLabel s = moveToStarted (startUnheld (s.setSeq (s.seq.consume e.seq)) i e) i)
    ∨ ∃ i, (s.ctx i).state = .free ∧ startLabel s = moveToStarted (startEmpty
        (s.setSeq (s.seq.consume (nextSeq s.seq.lc))) i (nextSeq s.seq.lc) (decide (s.seq.preVoid = nextSeq s.seq.lc))) i := by
  unfold startLabel
  dsimp only
  split
  · rename_i e rest hq
    have he : e ∈ s.seq.queue := by simp [hq]
    split
    · rename_i i hi
      obtain ⟨hnext, hseq⟩ : (s.ctx i).isNext = true ∧ (s.ctx i).seq = e.seq := by simpa using State.findCtx_eq_some hi
      split
      · rename_i ha
        exact .inr (.inl ⟨e, he, i, by simpa using ha, hseq, rfl⟩)
      · rename_i ha
        have hl : (s.ctx i).state = .loading := by
          simp only [State.setSeq_ctx] at ha
          simpa [Context.isNext, ha] using hnext
        exact .inr (.inr (.inl ⟨e, he, i, hl, hseq, rfl⟩))
    · split
      · rename_i i hi
        exact .inr (.inr (.inr (.inl ⟨e, he, i, by simpa using Context.isFree_iff.1 (State.findCtx_eq_some hi), rfl⟩)))
      · exact .inl ⟨_, rfl⟩
  · split
    · rename_i i hi
      exact .inr (.inr (.inr (.inr ⟨i, by simpa using Context.isFree_iff.1 (State.findCtx_eq_some hi), rfl⟩)))
    · exact .inl ⟨_, rfl⟩

/-! #### What a start leaves of the link, the report unit and the store -/

theorem startArmed_onlyVoids (s : State) (i : CtxId) : s.link.OnlyVoids (startArmed s i).link := by
  unfold startArmed
  dsimp only
  split
  · simpa using ownVoid_onlyVoids (s.setCtx i { s.ctx i with state := .running })
      ((s.setCtx i { s.ctx i with state := .running }).ctx i).seq .hot
  · simpa using Link.OnlyVoids.refl s.link

theorem startArmed_dropsStay (s : State) (i : CtxId) : DropsStay s (startArmed s i) := by
  have hset : DropsStay s (s.setCtx i { s.ctx i with state := .running }) := .of_report (by simp)
  unfold startArmed
  dsimp only
  split
  · exact hset.trans (ownVoid_dropsStay _ _ _)
  · exact hset

@[simp] theorem startArmed_queue (s : State) (i : CtxId) : (startArmed s i).report.queue = s.report.queue := by
  unfold startArmed
  dsimp only
  split <;> simp

/-- A context in Loading with its load and its reads stopped, before it starts blank (R28, R53, R64). -/
def loadAbandoned (s : State) (i : CtxId) : State := cutReads (stopLoad s i) i

/-- A context in Loading as it starts blank (R28). -/
def Context.startedBlank (c : Context) : Context :=
  { c with state := .running, h := none, table := [], fieldClipped := false, substituted := false }

@[simp] theorem loadAbandoned_frame (s : State) (i : CtxId) : (loadAbandoned s i).station = s.station
    ∧ (loadAbandoned s i).number = s.number ∧ (loadAbandoned s i).setup = s.setup ∧ (loadAbandoned s i).seq = s.seq
    ∧ (loadAbandoned s i).ctxA = s.ctxA ∧ (loadAbandoned s i).ctxB = s.ctxB
    ∧ (loadAbandoned s i).loader = (stopLoad s i).loader ∧ (loadAbandoned s i).ring = s.ring
    ∧ (loadAbandoned s i).timer = s.timer ∧ (loadAbandoned s i).plan = s.plan ∧ (loadAbandoned s i).head = s.head
    ∧ (loadAbandoned s i).thermal = s.thermal ∧ (loadAbandoned s i).lines = s.lines
    ∧ (loadAbandoned s i).link = s.link ∧ (loadAbandoned s i).peers = s.peers
    ∧ (loadAbandoned s i).report = s.report ∧ (loadAbandoned s i).freeCount = s.freeCount
    ∧ (loadAbandoned s i).pending = s.pending := by
  simp [loadAbandoned]

@[simp] theorem loadAbandoned_ctx (s : State) (i j : CtxId) : (loadAbandoned s i).ctx j = s.ctx j := by
  simp [loadAbandoned]

@[simp] theorem cutReads_storeFrame (s : State) (i : CtxId) : (cutReads s i).store.memory = s.store.memory
    ∧ (cutReads s i).store.catalog = s.store.catalog ∧ (cutReads s i).store.sectors = s.store.sectors
    ∧ (cutReads s i).store.write = s.store.write := by
  rcases cutReads_cases s i with h | ⟨r, -, -, -, h⟩ <;> rw [h] <;> simp

@[simp] theorem loadAbandoned_storeFrame (s : State) (i : CtxId) : (loadAbandoned s i).store.memory = s.store.memory
    ∧ (loadAbandoned s i).store.catalog = s.store.catalog ∧ (loadAbandoned s i).store.sectors = s.store.sectors
    ∧ (loadAbandoned s i).store.write = s.store.write := by
  simp [loadAbandoned]

theorem startLoading_eq (s : State) (i : CtxId) : startLoading s i
    = ownVoid ((loadAbandoned s i).setCtx i (s.ctx i).startedBlank) (s.ctx i).seq .notArmed := by
  simp [startLoading, loadAbandoned, Context.startedBlank]

theorem startLoading_onlyVoids (s : State) (i : CtxId) : s.link.OnlyVoids (startLoading s i).link := by
  rw [startLoading_eq]
  simpa using ownVoid_onlyVoids ((loadAbandoned s i).setCtx i (s.ctx i).startedBlank) (s.ctx i).seq .notArmed

theorem startLoading_dropsStay (s : State) (i : CtxId) : DropsStay s (startLoading s i) := by
  rw [startLoading_eq]
  exact .trans (.of_report (by simp)) (ownVoid_dropsStay _ _ _)

@[simp] theorem startLoading_queue (s : State) (i : CtxId) : (startLoading s i).report.queue = s.report.queue := by
  rw [startLoading_eq]
  simp

@[simp] theorem startLoading_storeFrame (s : State) (i : CtxId) : (startLoading s i).store.memory = s.store.memory
    ∧ (startLoading s i).store.catalog = s.store.catalog ∧ (startLoading s i).store.sectors = s.store.sectors
    ∧ (startLoading s i).store.write = s.store.write := by
  rw [startLoading_eq]
  simp

theorem startUnheld_onlyVoids (s : State) (i : CtxId) (e : JobEntry) : s.link.OnlyVoids (startUnheld s i e).link := by
  simpa [startUnheld] using ownVoid_onlyVoids (s.setCtx i { e.toContext with state := .running, fields := [] }) e.seq .notArmed

theorem startUnheld_dropsStay (s : State) (i : CtxId) (e : JobEntry) : DropsStay s (startUnheld s i e) :=
  .trans (.of_report (by simp)) (ownVoid_dropsStay (s.setCtx i _) _ _)

@[simp] theorem startUnheld_queue (s : State) (i : CtxId) (e : JobEntry) :
    (startUnheld s i e).report.queue = s.report.queue := by
  simp [startUnheld]

/-- The blank placeholder that starts for an empty queue, before its mark (R29). -/
def blankContext (seq : Nat) : Context := { Context.free with state := .running, seq := seq, kind := .placeholder }

theorem startEmpty_preVoided (s : State) (i : CtxId) (seq : Nat) :
    startEmpty s i seq true = s.setCtx i { blankContext seq with voided := some .peerVoid } := rfl

theorem startEmpty_noJob (s : State) (i : CtxId) (seq : Nat) :
    startEmpty s i seq false = ownVoid (s.setCtx i (blankContext seq)) seq .noJob := rfl

theorem startEmpty_onlyVoids (s : State) (i : CtxId) (seq : Nat) (v : Bool) :
    s.link.OnlyVoids (startEmpty s i seq v).link := by
  cases v
  · simpa [startEmpty_noJob] using ownVoid_onlyVoids (s.setCtx i (blankContext seq)) seq .noJob
  · simpa [startEmpty_preVoided] using Link.OnlyVoids.refl s.link

theorem startEmpty_dropsStay (s : State) (i : CtxId) (seq : Nat) (v : Bool) : DropsStay s (startEmpty s i seq v) := by
  cases v
  · exact .trans (.of_report (by simp)) (ownVoid_dropsStay (s.setCtx i (blankContext seq)) _ _)
  · exact .of_report (by simp [startEmpty_preVoided])

@[simp] theorem startEmpty_queue (s : State) (i : CtxId) (seq : Nat) (v : Bool) :
    (startEmpty s i seq v).report.queue = s.report.queue := by
  cases v
  · simp [startEmpty_noJob]
  · simp [startEmpty_preVoided]

/-- A start reaches the VOID queue and the transmitter, sets no record aside, and leaves the store's contents. -/
theorem startLabel_parts (s : State) : s.link.OnlyVoids (startLabel s).link ∧ DropsStay s (startLabel s)
    ∧ (startLabel s).report.queue = s.report.queue ∧ (startLabel s).store.memory = s.store.memory
    ∧ (startLabel s).store.catalog = s.store.catalog ∧ (startLabel s).store.sectors = s.store.sectors
    ∧ (startLabel s).store.write = s.store.write := by
  rcases startLabel_cases s with ⟨seq, h⟩ | ⟨e, -, i, -, -, h⟩ | ⟨e, -, i, -, -, h⟩ | ⟨e, -, i, -, h⟩ | ⟨i, -, h⟩ <;>
    rw [h]
  · exact ⟨.refl _, .of_report rfl, by simp⟩
  · exact ⟨by simpa using startArmed_onlyVoids (s.setSeq (s.seq.consume e.seq)) i,
      (DropsStay.trans (.of_report rfl) (startArmed_dropsStay (s.setSeq (s.seq.consume e.seq)) i)).trans
        (.of_report (by simp)), by simp⟩
  · exact ⟨by simpa using startLoading_onlyVoids (s.setSeq (s.seq.consume e.seq)) i,
      (DropsStay.trans (.of_report rfl) (startLoading_dropsStay (s.setSeq (s.seq.consume e.seq)) i)).trans
        (.of_report (by simp)), by simp⟩
  · exact ⟨by simpa using startUnheld_onlyVoids (s.setSeq (s.seq.consume e.seq)) i e,
      (DropsStay.trans (.of_report rfl) (startUnheld_dropsStay (s.setSeq (s.seq.consume e.seq)) i e)).trans
        (.of_report (by simp)), by simp⟩
  · exact ⟨by simpa using startEmpty_onlyVoids (s.setSeq (s.seq.consume (nextSeq s.seq.lc))) i _ _,
      (DropsStay.trans (.of_report rfl) (startEmpty_dropsStay (s.setSeq (s.seq.consume (nextSeq s.seq.lc))) i
        (nextSeq s.seq.lc) (decide (s.seq.preVoid = nextSeq s.seq.lc)))).trans (.of_report (by simp)), by simp⟩

/-! #### What follows the start in the event: arming, the purges, the rasterizer, RDY -/

/-- The rest of a TOF after the start of its label. -/
def afterStart (s : State) : State := driveRdy (advanceRaster (purgeStale (arm s)))

theorem takeTof_synchronised {s : State} (hs : s.station = .active) (h : ¬(s.seq.lc = 0 ∧ s.seq.queue = [])) :
    takeTof s = afterStart (startLabel (endRunning s)) := by
  have hun : ¬s.seq.unsynchronised = true := mt SeqUnit.unsynchronised_iff.1 h
  rw [takeTof, if_pos hs, if_neg hun, afterStart]

@[simp] theorem afterStart_frame (s : State) : (afterStart s).station = s.station ∧ (afterStart s).number = s.number
    ∧ (afterStart s).setup = s.setup ∧ (afterStart s).seq = s.seq ∧ (afterStart s).ctxA = (arm s).ctxA
    ∧ (afterStart s).ctxB = (arm s).ctxB ∧ (afterStart s).loader = (arm s).loader
    ∧ (afterStart s).ring.history = s.ring.history ∧ (afterStart s).ring.firing = s.ring.firing
    ∧ (afterStart s).timer = s.timer ∧ (afterStart s).plan = s.plan ∧ (afterStart s).head = s.head
    ∧ (afterStart s).thermal = s.thermal ∧ (afterStart s).store = s.store ∧ (afterStart s).report = s.report
    ∧ (afterStart s).lines.slwAsserted = s.lines.slwAsserted ∧ (afterStart s).freeCount = s.freeCount
    ∧ (afterStart s).pending = s.pending := by
  simp [afterStart, driveRdy]

@[simp] theorem afterStart_ctx (s : State) (j : CtxId) : (afterStart s).ctx j = (arm s).ctx j := by simp [afterStart]

theorem afterStart_onlyDemand (s : State) : s.link.OnlyDemand (afterStart s).link := by
  simpa [afterStart] using purgeStale_onlyDemand (arm s)

theorem afterStart_lead (s : State) : ∃ new : List Slot, new.length ≤ 1 ∧ (∀ x ∈ new, x.state = .rendering)
    ∧ (afterStart s).ring.lead = s.ring.lead ++ new := by
  obtain ⟨new, hlen, hnew, hring⟩ := advanceRaster_ring (purgeStale (arm s))
  exact ⟨new, hlen, hnew, by simp [afterStart, hring]⟩

theorem afterStart_rendering {s : State} {r : Render} (h : s.raster.rendering = some r) :
    (afterStart s).raster.rendering = some r := by
  have h' : (purgeStale (arm s)).raster.rendering = some r := by simpa using h
  simp [afterStart, advanceRaster_of_rendering h', h]

theorem afterStart_dropsStay (s : State) : DropsStay s (afterStart s) := .of_report (by simp)

/-- RDY is held low when no context is Armed (R25). -/
theorem afterStart_rdy {s : State} (hs : s.station = .active) (h : ∀ j, (s.ctx j).state ≠ .armed) :
    (afterStart s).lines.rdyReleased = false := by
  have harmed : ∀ j, ((arm s).ctx j).state ≠ .armed := by
    intro j
    by_cases hj : (s.ctx j).state = .free
    · rcases arm_ctx_of_free s j with hc | ⟨e, -, -, hc⟩ <;> rw [hc]
      · exact h j
      · simp [JobEntry.toContext]
    · rw [arm_ctx_of_not_free hj]
      exact h j
  have hA : (arm s).ctxA.state ≠ .armed := harmed .a
  have hB : (arm s).ctxB.state ≠ .armed := harmed .b
  simp [afterStart, driveRdy, State.rdyCondition, hs, hA, hB]

/-- When SLW is held as before, RDY alone can have moved. -/
theorem lines_eq_of_slwAsserted {l m : Lines} (h : m.slwAsserted = l.slwAsserted) :
    m = { l with rdyReleased := m.rdyReleased } := by
  cases l; cases m; simp_all

/-- The link after a TOF: the running label's record, the started label's VOID and the purge. -/
theorem tof_onlyLabels (s : State) : s.link.OnlyLabels (afterStart (startLabel (endRunning s))).link := by
  obtain ⟨hstart, -⟩ := startLabel_parts (endRunning s)
  exact ((endRunning_onlyTx s).labels.trans hstart.labels).trans (afterStart_onlyDemand _).labels

/-- A VOID that the start places in the queue is placed in the TOF (R139). -/
theorem tof_voidPlaced {s u : State} {f : VoidFrame} (h : VoidPlaced (endRunning s) f u)
    (hu : (startLabel (endRunning s)).link = u.link) (hd : DropsStay u (startLabel (endRunning s))) :
    VoidPlaced s f (afterStart (startLabel (endRunning s))) :=
  h.mono (endRunning_onlyTx s).voidQueue (endRunning_onlyTx s).counts
    (by rw [(afterStart_onlyDemand _).voidQueue, hu]) (by rw [(afterStart_onlyDemand _).counts, hu])
    (hd.trans (afterStart_dropsStay _))

/-- A start that sends no VOID leaves the VOID queue and the counts in the TOF. -/
theorem tof_noVoid {s : State} (hu : (startLabel (endRunning s)).link = (endRunning s).link) :
    (afterStart (startLabel (endRunning s))).link.voidQueue = s.link.voidQueue
    ∧ (afterStart (startLabel (endRunning s))).link.counts = s.link.counts := by
  rw [(afterStart_onlyDemand _).voidQueue, (afterStart_onlyDemand _).counts, hu, (endRunning_onlyTx s).voidQueue,
    (endRunning_onlyTx s).counts]
  exact ⟨rfl, rfl⟩

theorem exec_topOfForm {s : State} (hs : s.station = .active) (h : ¬(s.seq.lc = 0 ∧ s.seq.queue = [])) :
    exec .topOfForm s = .next (afterStart (startLabel (endRunning s))) := by
  rw [← takeTof_synchronised hs h]
  rfl

theorem Context.isNext_eq_false {c : Context} (ha : c.state ≠ .armed) (hl : c.state ≠ .loading) : c.isNext = false := by
  simp [Context.isNext, ha, hl]

/-! #### An Armed label starts (R27, R131) -/

section Armed
variable {s : State} {e : JobEntry} {rest : List JobEntry} {i : CtxId}

/-- The Armed context enters Running, before what Hot does to it. -/
theorem startArmed_of_cool (h : s.thermal.hot = false) :
    startArmed s i = s.setCtx i { s.ctx i with state := .running } := by
  simp [startArmed, h]

theorem startArmed_of_hot (h : s.thermal.hot = true) : startArmed s i
    = ownVoid (s.setCtx i { s.ctx i with state := .running }) (s.ctx i).seq .hot := by
  simp [startArmed, h]

/-- A mark leaves Lc, the pre-void seq, the seqs of the queue and the states of the contexts. -/
theorem ownVoid_kept (s : State) (seq : Nat) (reason : Reason) :
    (ownVoid s seq reason).seq.lc = s.seq.lc ∧ (ownVoid s seq reason).seq.preVoid = s.seq.preVoid
    ∧ ((ownVoid s seq reason).seq.queue.map fun x => x.seq) = (s.seq.queue.map fun x => x.seq)
    ∧ ∀ j, ((ownVoid s seq reason).ctx j).state = (s.ctx j).state := by
  rcases hv : s.labelVoided seq with _ | _
  · rw [ownVoid_seq hv]
    refine ⟨rfl, rfl, ?_, fun j => ?_⟩
    · rw [List.map_map]
      refine List.map_congr_left fun x _ => ?_
      simp only [Function.comp]
      split <;> rfl
    · rw [ownVoid_ctx hv]
      split <;> rfl
  · rw [ownVoid_of_voided hv]
    exact ⟨rfl, rfl, rfl, fun _ => rfl⟩

theorem startArmed_kept (s : State) (i : CtxId) :
    (startArmed s i).seq.lc = s.seq.lc ∧ (startArmed s i).seq.preVoid = s.seq.preVoid
    ∧ ((startArmed s i).seq.queue.map fun x => x.seq) = (s.seq.queue.map fun x => x.seq)
    ∧ ∀ j, ((startArmed s i).ctx j).state = if j = i then .running else (s.ctx j).state := by
  have hset : ∀ j, ((s.setCtx i { s.ctx i with state := .running }).ctx j).state
      = if j = i then .running else (s.ctx j).state := by
    intro j
    rw [State.setCtx_ctx]
    split <;> rfl
  rcases hh : s.thermal.hot with _ | _
  · rw [startArmed_of_cool hh]
    exact ⟨by simp, by simp, by simp, hset⟩
  · rw [startArmed_of_hot hh]
    obtain ⟨hlc, hpre, hseqs, hstate⟩ := ownVoid_kept (s.setCtx i { s.ctx i with state := .running }) (s.ctx i).seq .hot
    exact ⟨by simp [hlc], by simp [hpre], by simp [hseqs], fun j => (hstate j).trans (hset j)⟩

/-- The labels that a state holds are voided no more after it has consumed its head. -/
theorem consume_labelVoided {s : State} {seq : Nat} (h : s.labelVoided seq = false) (n : Nat) :
    (s.setSeq (s.seq.consume n)).labelVoided seq = false := by
  rw [State.labelVoided_eq_false] at h ⊢
  obtain ⟨hctx, hqueue⟩ := h
  exact ⟨by simpa using hctx, fun e he => hqueue e (List.mem_of_mem_tail he)⟩

/-- A context whose state alone changes carries the mark Voided as before. -/
theorem setCtx_labelVoided {s : State} {i : CtxId} {c : Context} {seq : Nat} (h : s.labelVoided seq = false)
    (hc : c.holds seq = true → c.voided = none) : (s.setCtx i c).labelVoided seq = false := by
  rw [State.labelVoided_eq_false] at h ⊢
  obtain ⟨hctx, hqueue⟩ := h
  refine ⟨fun j hj => ?_, by simpa using hqueue⟩
  rw [State.setCtx_ctx] at hj ⊢
  split at hj
  · rename_i hji
    rw [if_pos hji]
    exact hc hj
  · rename_i hji
    rw [if_neg hji]
    exact hctx j hj

/-- A label is voided when a context that holds it is. -/
theorem labelVoided_of_ctx {s : State} {seq : Nat} (i : CtxId) (h : (s.ctx i).holds seq = true)
    (hv : (s.ctx i).voided ≠ none) : s.labelVoided seq = true :=
  State.labelVoided_iff.2 (.inl ⟨i, h, hv⟩)

/-- Settles O39: the head is held by the Armed context through the end of the running label, and it starts. -/
theorem tofStartsArmed : Obligations.TofStartsArmed := by
  intro s e rest i hs hq ha hseq hoa hol
  let r := endRunning s
  let u := r.setSeq (s.seq.consume e.seq)
  let v := startArmed u i
  have hri : r.ctx i = s.ctx i := endRunning_ctx_of_not_running (by simp [ha])
  have hother : (r.ctx i.other).isNext = false := by
    rw [endRunning_isNext]
    exact Context.isNext_eq_false hoa hol
  have hstart : startLabel r = moveToStarted v i := by
    rw [startLabel_of_armed (s := r) (by simpa [r] using hq) (by rw [hri, ha]) (by rw [hri, hseq]) hother]
    simp [v, u, r]
  obtain ⟨hlc, hpre, hseqs, hstates⟩ := startArmed_kept u i
  have hui : u.ctx i = s.ctx i := by simp [u, hri]
  let t := afterStart (startLabel r)
  have htseq : t.seq = v.seq := by simp [t, hstart]
  have htctx : t.ctx i = v.ctx i := by
    have hvi : ((startLabel r).ctx i).state ≠ .free := by simp [hstart, v, hstates]
    show (afterStart (startLabel r)).ctx i = _
    rw [afterStart_ctx, arm_ctx_of_not_free hvi, hstart, moveToStarted_ctx]
  have hhot : u.thermal.hot = s.thermal.hot := by simp [u, r]
  have hcool : (s.thermal.hot = false ∨ (s.ctx i).voided ≠ none) → v = u.setCtx i { s.ctx i with state := .running } := by
    intro h
    rcases hh : s.thermal.hot with _ | _
    · rw [← hui]
      exact startArmed_of_cool (hhot.trans hh)
    · show startArmed u i = _
      rw [startArmed_of_hot (hhot.trans hh), hui, ownVoid_of_voided]
      refine labelVoided_of_ctx i ?_ ?_
      · simp [Context.holds_iff]
      · simpa [hh] using h
  have hquiet : (s.thermal.hot = false ∨ (s.ctx i).voided ≠ none) → t.seq.queue = rest
      ∧ t.ctx i = { s.ctx i with state := .running } ∧ t.link.voidQueue = s.link.voidQueue
      ∧ t.link.counts = s.link.counts := by
    intro h
    have hv := hcool h
    refine ⟨by simp [htseq, hv, u, SeqUnit.consume_eq, hq], by simp [htctx, hv], ?_⟩
    exact tof_noVoid (by rw [hstart]; simp [hv, u, r])
  refine ⟨t, exec_topOfForm hs (by simp [hq]), ?_, ?_, ?_, ?_, fun hh => ?_, fun hh hv hlv => ?_, fun hh hv => ?_, ?_⟩
  · rw [htseq]
    exact hlc.trans (by simp [u, SeqUnit.consume_eq])
  · rw [htseq]
    exact hseqs.trans (by simp [u, SeqUnit.consume_eq, hq])
  · rw [htseq]
    exact hpre.trans (by simp [u, SeqUnit.consume_eq])
  · refine afterStart_rdy (by simp [hstart, v, u, r, hs]) fun j => ?_
    rw [hstart, moveToStarted_ctx, hstates]
    split
    · simp
    · rename_i hj
      obtain rfl := CtxId.eq_other_of_ne hj
      intro harmed
      have : (r.ctx i.other).state = .armed := by simpa [u] using harmed
      simp [Context.isNext, this] at hother
  · obtain ⟨hrest, hctx, hvoid, -⟩ := hquiet (.inl hh)
    exact ⟨hrest, hctx, hvoid⟩
  · let w := u.setCtx i { s.ctx i with state := .running }
    have hw : w.labelVoided e.seq = false :=
      setCtx_labelVoided (by simpa [u, r] using consume_labelVoided (endRunning_labelVoided hlv) e.seq) fun _ => hv
    have hvw : v = ownVoid w e.seq .hot := by
      show startArmed u i = _
      rw [startArmed_of_hot (hhot.trans hh), hui, hseq]
    refine ⟨?_, ?_, ?_⟩
    · rw [htctx, hvw, ownVoid_ctx hw]
      simp [w, Context.holds_iff, hseq]
    · rw [htseq, hvw, ownVoid_seq hw]
      simp [w, u, SeqUnit.consume_eq, hq]
    · have hplaced : VoidPlaced r { seq := e.seq, reason := .hot } v := by
        rw [hvw]
        exact (ownVoid_placed hw .hot).mono (by simp [w, u]) (by simp [w, u]) rfl rfl (.of_report rfl)
      exact tof_voidPlaced hplaced (by rw [hstart]; simp) (by rw [hstart]; exact .of_report (by simp))
  · obtain ⟨hrest, hctx, hvoid, hcounts⟩ := hquiet (.inr hv)
    exact ⟨hctx, hrest, hvoid, hcounts⟩
  · apply State.ext
    case link => exact tof_onlyLabels s
    case lines => exact lines_eq_of_slwAsserted (by simp [t, hstart, v, u, r])
    all_goals simp [t, hstart, v, u, r]

end Armed

/-! #### The contexts beside the label that starts -/

section Other
variable {s : State} {i j : CtxId}

theorem startArmed_ctx_other (hj : j ≠ i) (h : (s.ctx j).holds (s.ctx i).seq = false) :
    (startArmed s i).ctx j = s.ctx j := by
  have hset : (s.setCtx i { s.ctx i with state := .running }).ctx j = s.ctx j := State.setCtx_ctx_other _ _ _ _ hj
  rcases hh : s.thermal.hot with _ | _
  · rw [startArmed_of_cool hh, hset]
  · rw [startArmed_of_hot hh, ownVoid_ctx_other (by rw [hset]; exact h), hset]

theorem startLoading_ctx_other (hj : j ≠ i) (h : (s.ctx j).holds (s.ctx i).seq = false) :
    (startLoading s i).ctx j = s.ctx j := by
  have hset : ((loadAbandoned s i).setCtx i (s.ctx i).startedBlank).ctx j = s.ctx j := by
    rw [State.setCtx_ctx_other _ _ _ _ hj, loadAbandoned_ctx]
  rw [startLoading_eq, ownVoid_ctx_other (by rw [hset]; exact h), hset]

theorem startUnheld_ctx_other {e : JobEntry} (hj : j ≠ i) (h : (s.ctx j).holds e.seq = false) :
    (startUnheld s i e).ctx j = s.ctx j := by
  have hset : (s.setCtx i { e.toContext with state := .running, fields := [] }).ctx j = s.ctx j :=
    State.setCtx_ctx_other _ _ _ _ hj
  rw [startUnheld, ownVoid_ctx_other (by rw [hset]; exact h), hset]

theorem startEmpty_ctx_other {seq : Nat} (hj : j ≠ i) (h : (s.ctx j).holds seq = false) (v : Bool) :
    (startEmpty s i seq v).ctx j = s.ctx j := by
  cases v
  · have hset : (s.setCtx i (blankContext seq)).ctx j = s.ctx j := State.setCtx_ctx_other _ _ _ _ hj
    rw [startEmpty_noJob, ownVoid_ctx_other (by rw [hset]; exact h), hset]
  · rw [startEmpty_preVoided, State.setCtx_ctx_other _ _ _ _ hj]

/-- A label in Ending that is not the one consumed is left as it is by the start. -/
theorem startLabel_ctx_of_ending (h : (s.ctx j).state = .ending) (hq : ∀ e ∈ s.seq.queue, e.seq ≠ (s.ctx j).seq)
    (hn : nextSeq s.seq.lc ≠ (s.ctx j).seq) : (startLabel s).ctx j = s.ctx j := by
  have hne : ∀ k, (s.ctx k).state ≠ .ending → j ≠ k := by
    rintro k hk rfl
    exact hk h
  have hholds : ∀ seq, seq ≠ (s.ctx j).seq → (s.ctx j).holds seq = false := fun seq hseq =>
    Context.holds_eq_false.2 (.inr hseq.symm)
  rcases startLabel_cases s with ⟨seq, hs⟩ | ⟨e, he, i, hi, hseq, hs⟩ | ⟨e, he, i, hi, hseq, hs⟩ | ⟨e, he, i, hi, hs⟩
      | ⟨i, hi, hs⟩ <;> rw [hs]
  · rfl
  · rw [moveToStarted_ctx, startArmed_ctx_other (hne i (by simp [hi])) (by simpa [hseq] using hholds _ (hq e he)),
      State.setSeq_ctx]
  · rw [moveToStarted_ctx, startLoading_ctx_other (hne i (by simp [hi])) (by simpa [hseq] using hholds _ (hq e he)),
      State.setSeq_ctx]
  · rw [moveToStarted_ctx, startUnheld_ctx_other (hne i (by simp [hi])) (by simpa using hholds _ (hq e he)),
      State.setSeq_ctx]
  · rw [moveToStarted_ctx, startEmpty_ctx_other (hne i (by simp [hi])) (by simpa using hholds _ hn), State.setSeq_ctx]

end Other

/-! #### The running label's end, and the Unexpected TOF (R26, R10) -/

/-- Settles O41: in each case by what ending the running label does, with a start after it that leaves the records. -/
theorem tofEndsRunning : Obligations.TofEndsRunning := by
  refine ⟨fun s i hs hlc hrun => ?_, fun s => ⟨fun hs hlc hq => ?_, fun hs => ?_⟩⟩
  · let x := startLabel (endRunning s)
    obtain ⟨-, hdrops, hqueue, hmem, hcat, hsec, hwrite⟩ := startLabel_parts (endRunning s)
    have hplaced : s.leavesAtTof i → RecordPlaced s (s.ctx i).endedByTof.completedRecord (afterStart x) := fun hl =>
      (endRunning_placed hrun hl).mono rfl (by simp [x, hqueue]) (hdrops.trans (afterStart_dropsStay _))
    refine ⟨afterStart x, exec_topOfForm hs (by simp [hlc]), ?_, fun hh hp => ?_, fun hh => ?_, ?_, ?_⟩
    · rintro hh ⟨p, hp, hseq⟩ hne hnext
      have hstays : ¬s.leavesAtTof i := by
        rw [State.leavesAtTof, not_or]
        exact ⟨hh, fun hl => hl p (by simp [hp]) hseq⟩
      have hri := endRunning_ctx_of_stays hrun hstays i
      rw [if_pos rfl] at hri
      have hxi : x.ctx i = (endRunning s).ctx i :=
        startLabel_ctx_of_ending (by rw [hri]) (by simpa [hri] using hne) (by simpa [hri] using hnext)
      refine ⟨?_, by simp [x, hqueue, endRunning_report_of_stays hrun hstays]⟩
      rw [afterStart_ctx, arm_ctx_of_not_free (by simp [hxi, hri]), hxi, hri]
    · have := hplaced (.inr fun p hp' => hp p hp')
      rwa [Context.endedByTof, if_neg hh] at this
    · have := hplaced (.inl hh)
      rwa [Context.endedByTof, if_pos hh] at this
    · obtain ⟨new, hlen, hnew, hlead⟩ := afterStart_lead x
      refine ⟨new, hlen, hnew, ?_⟩
      rw [hlead]
      simp [x, endRunning_ring hrun, Ring.freeLabel]
    · apply State.ext
      case link => exact tof_onlyLabels s
      case lines => exact lines_eq_of_slwAsserted (by simp [x])
      case ring => apply Ring.ext <;> simp [x]
      case store => exact Store.ext_kept (by simp [x, hmem]) (by simp [x, hcat]) (by simp [x, hsec]) (by simp [x, hwrite])
      all_goals simp [x]
  · have ht : exec .topOfForm s = .next (purgeStale (setCond s .unexpectedTof true)) := by
      have hun : s.seq.unsynchronised = true := SeqUnit.unsynchronised_iff.2 ⟨hlc, hq⟩
      show Host.Outcome.next (takeTof s) = _
      rw [takeTof, if_pos hs, if_pos hun]
    have hlink : s.link.OnlyDemand (purgeStale (setCond s .unexpectedTof true)).link :=
      .trans (by rw [setCond_link]; rfl) (purgeStale_onlyDemand _)
    refine ⟨_, ht, by simp, ?_, by simp⟩
    apply State.ext
    case link => exact hlink
    all_goals simp
  · show Host.Outcome.next (takeTof s) = _
    rw [takeTof, if_neg hs]

end Sys2Proof.Machine

/-! ### A label that starts blank (O40) -/

namespace Sys2Proof.Machine

/-! #### Which label runs, and which record is Free -/

section Records
variable {s : State} {i : CtxId}

theorem State.runningCtx_of_states (hi : (s.ctx i).state = .running) (ho : (s.ctx i.other).state ≠ .running) :
    s.runningCtx = some i :=
  State.findCtx_of_unique (by simp [Context.isRunning, hi]) (by simp [Context.isRunning, ho])

theorem State.runningCtx_eq_none (hi : (s.ctx i).state ≠ .running) (ho : (s.ctx i.other).state ≠ .running) :
    s.runningCtx = none :=
  State.findCtx_eq_none.2 fun j => by
    rcases CtxId.eq_or_eq_other i j with rfl | rfl
    · simp [Context.isRunning, hi]
    · simp [Context.isRunning, ho]

theorem State.findFree_of_states (hi : (s.ctx i).state = .free) (ho : (s.ctx i.other).state ≠ .free) :
    s.findCtx Context.isFree = some i :=
  State.findCtx_of_unique (Context.isFree_iff.2 hi) (Context.isFree_eq_false.2 ho)

/-- With both records in use nothing is armed (R21). -/
theorem arm_of_busy (hi : (s.ctx i).state ≠ .free) (ho : (s.ctx i.other).state ≠ .free) : arm s = s := by
  have hbusy : ∀ j, (s.ctx j).state ≠ .free := fun j => by
    rcases CtxId.eq_or_eq_other i j with rfl | rfl
    · exact hi
    · exact ho
  exact arm_of_nothing (.inr ⟨hbusy .a, hbusy .b⟩)

/-- Ending the running label brings no record to a seq that none held. -/
theorem endRunning_holds_eq_false {seq : Nat} (h : ∀ j, (s.ctx j).state ≠ .free → (s.ctx j).seq ≠ seq) (j : CtxId) :
    ((endRunning s).ctx j).holds seq = false := by
  have hj : (s.ctx j).state ≠ .free → (s.ctx j).seq ≠ seq := h j
  rcases endRunning_ctx_cases s j with hc | ⟨hrun, hc | hc⟩ <;> rw [hc, Context.holds_eq_false]
  · tauto
  · exact .inl rfl
  · exact .inr (hj (by simp [hrun]))

end Records

/-! #### The TOF by what its start is -/

section Tof
variable {s t w : State} {i : CtxId} {seq : Nat} {reason : Reason} (ht : t = afterStart (startLabel (endRunning s)))
include ht

/-- A start that voids its label, for the first time, with a VOID. -/
theorem tof_of_voided (hx : startLabel (endRunning s) = moveToStarted (ownVoid w seq reason) i)
    (hlink : w.link = (endRunning s).link) (hw : w.labelVoided seq = false) (hi : (w.ctx i).holds seq = true) :
    t.seq = { w.seq with queue := w.seq.queue.map fun e =>
        if e.seq = seq ∧ e.voided = none then { e with voided := some reason } else e }
    ∧ t.ctx i = { w.ctx i with voided := some reason }
    ∧ VoidPlaced s { seq := seq, reason := reason } t := by
  have hctx : (ownVoid w seq reason).ctx i = { w.ctx i with voided := some reason } := by rw [ownVoid_ctx hw, if_pos hi]
  obtain ⟨hbusy, -⟩ := Context.holds_iff.1 hi
  have hplaced : VoidPlaced (endRunning s) { seq := seq, reason := reason } (ownVoid w seq reason) :=
    (ownVoid_placed hw reason).mono (by rw [hlink]) (by rw [hlink]) rfl rfl (.of_report rfl)
  subst ht
  refine ⟨?_, ?_, tof_voidPlaced hplaced (by simp [hx]) (.of_report (by simp [hx]))⟩
  · simp [hx, ownVoid_seq hw]
  · rw [afterStart_ctx, arm_ctx_of_not_free (by simpa [hx, hctx] using hbusy), hx, moveToStarted_ctx, hctx]

/-- A start that sends no VOID. -/
theorem tof_of_quiet (hx : startLabel (endRunning s) = moveToStarted w i) (hlink : w.link = (endRunning s).link)
    (hi : (w.ctx i).state ≠ .free) :
    t.seq = w.seq
    ∧ t.ctx i = w.ctx i
    ∧ t.link.voidQueue = s.link.voidQueue
    ∧ t.link.counts = s.link.counts := by
  subst ht
  refine ⟨by simp [hx], ?_, tof_noVoid (by simp [hx, hlink])⟩
  rw [afterStart_ctx, arm_ctx_of_not_free (by simpa [hx] using hi), hx, moveToStarted_ctx]

/-- A start that marks its label: one that carries Voided keeps its reason and sends no VOID (R11). -/
theorem tof_of_marked (hx : startLabel (endRunning s) = moveToStarted (ownVoid w seq reason) i)
    (hlink : w.link = (endRunning s).link) (hi : (w.ctx i).holds seq = true)
    (hw : (w.ctx i).voided = none → w.labelVoided seq = false) :
    t.seq = { w.seq with queue := w.seq.queue.map fun e =>
        if (w.ctx i).voided = none ∧ e.seq = seq ∧ e.voided = none then { e with voided := some reason } else e }
    ∧ t.ctx i = { w.ctx i with voided := some ((w.ctx i).voided.getD reason) }
    ∧ ((w.ctx i).voided = none → VoidPlaced s { seq := seq, reason := reason } t)
    ∧ ((w.ctx i).voided ≠ none → t.link.voidQueue = s.link.voidQueue
      ∧ t.link.counts = s.link.counts) := by
  by_cases hv : (w.ctx i).voided = none
  · obtain ⟨hseq, hctx, hplaced⟩ := tof_of_voided ht hx hlink (hw hv) hi
    exact ⟨hseq.trans (by simp [hv]), hctx.trans (by simp [hv]), fun _ => hplaced, fun h => absurd hv h⟩
  · rw [ownVoid_of_voided (labelVoided_of_ctx i hi hv)] at hx
    obtain ⟨hseq, hctx, hquiet⟩ := tof_of_quiet ht hx hlink (Context.holds_iff.1 hi).1
    have hkeep : some ((w.ctx i).voided.getD reason) = (w.ctx i).voided := by
      obtain ⟨old, hold⟩ := Option.ne_none_iff_exists'.1 hv
      rw [hold, Option.getD_some]
    exact ⟨hseq.trans (by simp [hv]), hctx.trans (by rw [hkeep]), fun h => absurd h hv, fun _ => hquiet⟩

/-- What a TOF moves when its start leaves nothing to arm, and the loader and the store as they are. -/
theorem tof_frame_of_kept (harm : arm (startLabel (endRunning s)) = startLabel (endRunning s))
    (hloader : (startLabel (endRunning s)).loader = s.loader) (hstore : (startLabel (endRunning s)).store = s.store) :
    t = { s with
      seq := t.seq, ctxA := t.ctxA, ctxB := t.ctxB, raster := t.raster, ring := { s.ring with lead := t.ring.lead },
      lines := { s.lines with rdyReleased := t.lines.rdyReleased }, link := s.link.withLabelTraffic t.link,
      peers := t.peers, report := t.report } := by
  subst ht
  apply State.ext
  case link => exact tof_onlyLabels s
  case lines => exact lines_eq_of_slwAsserted (by simp)
  case ring => apply Ring.ext <;> simp
  all_goals simp [harm, hloader, hstore]

end Tof

/-! #### The context in Loading (R28, R53, R64) -/

/-- What a render of the abandoned load keeps: all of it when its reads are done, and nothing more otherwise. -/
theorem loadAbandoned_rendering {s : State} {i : CtxId} {r : Render} (h : s.raster.rendering = some r) :
    (loadAbandoned s i).raster.rendering = some (
      if r.ctx = i ∧ r.seq = (s.ctx i).seq ∧ r.reads = true ∧ (s.store.holdRaster = false ∨ s.store.waitRaster = true)
      then { r with reads := false, cut := true } else r) := by
  have hread : (stopLoad s i).renderRead r = false
      ↔ r.reads = true ∧ (s.store.holdRaster = false ∨ s.store.waitRaster = true) := by
    cases hr : s.store.holdRaster <;> simp [State.renderRead, hr]
  have hstop : (stopLoad s i).raster.rendering = some r := by simpa using h
  unfold loadAbandoned cutReads
  simp only [hstop, stopLoad_ctx, hread]
  split <;> simp [h]

@[simp] theorem loadAbandoned_labelVoided (s : State) (i : CtxId) (seq : Nat) :
    (loadAbandoned s i).labelVoided seq = s.labelVoided seq := by
  simp [State.labelVoided]

/-- No load of the context is left. -/
theorem loadAbandoned_loader (s : State) (i : CtxId) : ∀ l, (loadAbandoned s i).loader = some l → l.ctx ≠ i := by
  intro l hl
  rcases stopLoad_cases s i with ⟨h, hne⟩ | h
  · exact hne l (by simpa [h] using hl)
  · simp [h] at hl

/-- Arming begins no load for a context that is in use. -/
theorem arm_loader_ne {s : State} {i : CtxId} (h : ∀ l, s.loader = some l → l.ctx ≠ i) (hi : (s.ctx i).state ≠ .free) :
    ∀ l, (arm s).loader = some l → l.ctx ≠ i := by
  intro l hl
  rcases arm_loader_cases s with harm | ⟨k, harm, hk⟩
  · exact h l (harm ▸ hl)
  · obtain rfl : k = l := Option.some.inj (harm.symm.trans hl)
    rintro rfl
    exact hi hk

/-- The context in Loading before its mark: started blank, its label taken from the queue. -/
def blankLoading (s : State) (e : JobEntry) (i : CtxId) : State :=
  (loadAbandoned ((endRunning s).setSeq (s.seq.consume e.seq)) i).setCtx i (s.ctx i).startedBlank

section Loading
variable {s : State} {e : JobEntry} {rest : List JobEntry} {i : CtxId}

theorem startLabel_blankLoading (hq : s.seq.queue = e :: rest) (hl : (s.ctx i).state = .loading)
    (hseq : (s.ctx i).seq = e.seq) (ho : (s.ctx i.other).isNext = false) :
    startLabel (endRunning s) = moveToStarted (ownVoid (blankLoading s e i) e.seq .notArmed) i := by
  have hri : (endRunning s).ctx i = s.ctx i := endRunning_ctx_of_not_running (by simp [hl])
  rw [startLabel_of_loading (e := e) (rest := rest) (by simpa using hq) (by rw [hri, hl]) (by rw [hri, hseq])
    (by simpa using ho), startLoading_eq]
  simp [blankLoading, hri, hseq]

theorem blankLoading_labelVoided (hlv : s.labelVoided e.seq = false) (hv : (s.ctx i).voided = none) :
    (blankLoading s e i).labelVoided e.seq = false :=
  setCtx_labelVoided (by simpa using consume_labelVoided (endRunning_labelVoided hlv) e.seq) fun _ => hv

theorem blankLoading_seq (hq : s.seq.queue = e :: rest) : (blankLoading s e i).seq = { s.seq with
    lc := e.seq, queue := rest,
    preVoid := if seqDistance s.seq.preVoid e.seq = 0 ∨ 32767 < seqDistance s.seq.preVoid e.seq then 0
      else s.seq.preVoid } := by
  simp [blankLoading, SeqUnit.consume_eq, hq]

end Loading

/-! #### The head that no context holds (R28, log 18) -/

/-- The unheld head in the Free record, before its mark. -/
def blankUnheld (s : State) (e : JobEntry) (i : CtxId) : State :=
  ((endRunning s).setSeq (s.seq.consume e.seq)).setCtx i { e.toContext with state := .running, fields := [] }

section Unheld
variable {s : State} {e : JobEntry} {rest : List JobEntry} {i : CtxId}

theorem startLabel_blankUnheld (hq : s.seq.queue = e :: rest) (hn : ∀ j, (s.ctx j).isNext = false)
    (hf : (endRunning s).findCtx Context.isFree = some i) :
    startLabel (endRunning s) = moveToStarted (ownVoid (blankUnheld s e i) e.seq .notArmed) i := by
  rw [startLabel_of_unheld (e := e) (rest := rest) (by simpa using hq) (by simpa using hn) hf]
  simp [blankUnheld, startUnheld]

theorem blankUnheld_labelVoided (hlv : s.labelVoided e.seq = false) (hv : e.voided = none) :
    (blankUnheld s e i).labelVoided e.seq = false :=
  setCtx_labelVoided (by simpa using consume_labelVoided (endRunning_labelVoided hlv) e.seq) fun _ => hv

theorem blankUnheld_seq (hq : s.seq.queue = e :: rest) : (blankUnheld s e i).seq = { s.seq with
    lc := e.seq, queue := rest,
    preVoid := if seqDistance s.seq.preVoid e.seq = 0 ∨ 32767 < seqDistance s.seq.preVoid e.seq then 0
      else s.seq.preVoid } := by
  simp [blankUnheld, SeqUnit.consume_eq, hq]

@[simp] theorem blankUnheld_link (s : State) (e : JobEntry) (i : CtxId) :
    (blankUnheld s e i).link = (endRunning s).link := by
  simp [blankUnheld]

theorem blankUnheld_ctx_other (h : (s.ctx i.other).state = .ending) :
    (blankUnheld s e i).ctx i.other = s.ctx i.other := by
  have hother : (endRunning s).ctx i.other = s.ctx i.other := endRunning_ctx_of_not_running (by simp [h])
  simp [blankUnheld, hother]

theorem blankUnheld_ctx (s : State) (e : JobEntry) (i : CtxId) :
    (blankUnheld s e i).ctx i = { e.toContext with state := .running, fields := [] } := by
  simp [blankUnheld]

end Unheld

/-! #### No head at all (R29) -/

/-- The blank placeholder in the Free record. -/
def blankEmpty (s : State) (i : CtxId) (voided : Option Reason) : State :=
  ((endRunning s).setSeq (s.seq.consume (nextSeq s.seq.lc))).setCtx i
    { blankContext (nextSeq s.seq.lc) with voided := voided }

section Empty
variable {s : State} {i : CtxId}

theorem startLabel_blankEmpty (hq : s.seq.queue = []) (hf : (endRunning s).findCtx Context.isFree = some i)
    (hp : s.seq.preVoid ≠ nextSeq s.seq.lc) :
    startLabel (endRunning s) = moveToStarted (ownVoid (blankEmpty s i none) (nextSeq s.seq.lc) .noJob) i := by
  rw [startLabel_of_empty (by simpa using hq) hf]
  simp [hp, startEmpty_noJob, blankEmpty, blankContext, Context.free]

theorem startLabel_preVoided (hq : s.seq.queue = []) (hf : (endRunning s).findCtx Context.isFree = some i)
    (hp : s.seq.preVoid = nextSeq s.seq.lc) :
    startLabel (endRunning s) = moveToStarted (blankEmpty s i (some .peerVoid)) i := by
  rw [startLabel_of_empty (by simpa using hq) hf]
  simp [hp, startEmpty_preVoided, blankEmpty]

theorem blankEmpty_seq (hq : s.seq.queue = []) (v : Option Reason) : (blankEmpty s i v).seq = {
    lc := nextSeq s.seq.lc, queue := [],
    preVoid := if seqDistance s.seq.preVoid (nextSeq s.seq.lc) = 0
      ∨ 32767 < seqDistance s.seq.preVoid (nextSeq s.seq.lc) then 0 else s.seq.preVoid } := by
  simp [blankEmpty, SeqUnit.consume_eq, hq]

theorem blankEmpty_ctx (s : State) (i : CtxId) (v : Option Reason) :
    (blankEmpty s i v).ctx i = { blankContext (nextSeq s.seq.lc) with voided := v } := by
  simp [blankEmpty]

@[simp] theorem blankEmpty_link (s : State) (i : CtxId) (v : Option Reason) :
    (blankEmpty s i v).link = (endRunning s).link := by
  simp [blankEmpty]

@[simp] theorem blankEmpty_report (s : State) (i : CtxId) (v : Option Reason) :
    (blankEmpty s i v).report = (endRunning s).report := by
  simp [blankEmpty]

/-- The other context does not hold the placeholder's seq, so the placeholder is not voided before its mark. -/
theorem blankEmpty_labelVoided (hq : s.seq.queue = [])
    (hn : ((endRunning s).ctx i.other).holds (nextSeq s.seq.lc) = false) :
    (blankEmpty s i none).labelVoided (nextSeq s.seq.lc) = false := by
  refine State.labelVoided_eq_false.2 ⟨fun j hj => ?_, by simp [blankEmpty_seq hq]⟩
  rcases CtxId.eq_or_eq_other i j with rfl | rfl
  · rw [blankEmpty_ctx]
  · simp [blankEmpty, hn] at hj

/-- What a TOF with the queue empty does when a record is Free by then. -/
structure StartsEmpty (s : State) (i : CtxId) (t : State) : Prop where
  exec_eq : exec .topOfForm s = .next t
  seq : t.seq = { lc := nextSeq s.seq.lc, queue := [], preVoid := if seqDistance s.seq.preVoid (nextSeq s.seq.lc) = 0
    ∨ 32767 < seqDistance s.seq.preVoid (nextSeq s.seq.lc) then 0 else s.seq.preVoid }
  ctx : t.ctx i = { Context.free with
    state := .running, seq := nextSeq s.seq.lc, kind := .placeholder,
    voided := some (if s.seq.preVoid = nextSeq s.seq.lc then .peerVoid else .noJob) }
  ctx_other : t.ctx i.other = (endRunning s).ctx i.other
  placed : s.seq.preVoid ≠ nextSeq s.seq.lc → VoidPlaced s { seq := nextSeq s.seq.lc, reason := .noJob } t
  quiet : s.seq.preVoid = nextSeq s.seq.lc → t.link.voidQueue = s.link.voidQueue ∧ t.link.counts = s.link.counts
  report : s.link.voidQueue.length < 4 ∨ s.seq.preVoid = nextSeq s.seq.lc → t.report = (endRunning s).report
  frame : t = { s with
    seq := t.seq, ctxA := t.ctxA, ctxB := t.ctxB, raster := t.raster, ring := { s.ring with lead := t.ring.lead },
    lines := { s.lines with rdyReleased := t.lines.rdyReleased },
    link := s.link.withLabelTraffic t.link, peers := t.peers, report := t.report }

/-- A start from the empty queue leaves no entry to arm, the loader and the store. -/
theorem startLabel_keeps_of_empty (hq : s.seq.queue = []) (hf : (endRunning s).findCtx Context.isFree = some i) :
    (startLabel (endRunning s)).seq.queue = [] ∧ (startLabel (endRunning s)).loader = s.loader
    ∧ (startLabel (endRunning s)).store = s.store := by
  by_cases hp : s.seq.preVoid = nextSeq s.seq.lc
  · rw [startLabel_preVoided hq hf hp]
    simp [blankEmpty_seq hq]
    simp [blankEmpty]
  · rw [startLabel_blankEmpty hq hf hp]
    have hqueue : (ownVoid (blankEmpty s i none) (nextSeq s.seq.lc) .noJob).seq.queue = [] := by
      obtain ⟨-, -, hseqs, -⟩ := ownVoid_kept (blankEmpty s i none) (nextSeq s.seq.lc) .noJob
      simpa [blankEmpty_seq hq] using hseqs
    simp [hqueue]
    simp [blankEmpty]

theorem tof_startsEmpty (hs : s.station = .active) (hq : s.seq.queue = []) (hlc : s.seq.lc ≠ 0)
    (hf : (endRunning s).findCtx Context.isFree = some i)
    (hn : ((endRunning s).ctx i.other).holds (nextSeq s.seq.lc) = false) :
    StartsEmpty s i (afterStart (startLabel (endRunning s))) := by
  obtain ⟨hqueue, hloader, hstore⟩ := startLabel_keeps_of_empty hq hf
  have harm : arm (startLabel (endRunning s)) = startLabel (endRunning s) := arm_of_empty hqueue
  have hexec := exec_topOfForm hs (by simp [hlc])
  have hother : ∀ v, (blankEmpty s i v).ctx i.other = (endRunning s).ctx i.other := by simp [blankEmpty]
  have hframe := tof_frame_of_kept rfl harm hloader hstore
  by_cases hp : s.seq.preVoid = nextSeq s.seq.lc
  · have hx := startLabel_preVoided hq hf hp
    obtain ⟨hseq, hctx, hquiet⟩ := tof_of_quiet rfl hx (by simp) (by simp [blankEmpty_ctx, blankContext])
    refine ⟨hexec, hseq.trans (blankEmpty_seq hq _), ?_, ?_, fun h => absurd hp h, fun _ => hquiet, fun _ => ?_, hframe⟩
    · rw [hctx, blankEmpty_ctx, if_pos hp, blankContext]
    · rw [afterStart_ctx, harm, hx, moveToStarted_ctx, hother]
    · simp [hx]
  · have hx := startLabel_blankEmpty hq hf hp
    have hw := blankEmpty_labelVoided hq hn
    obtain ⟨hseq, hctx, hplaced⟩ := tof_of_voided rfl hx (by simp) hw
      (by simp [blankEmpty_ctx, blankContext, Context.holds_iff])
    refine ⟨hexec, hseq.trans (by simp [blankEmpty_seq hq]), ?_, ?_, fun _ => hplaced, fun h => absurd h hp,
      fun h => ?_, hframe⟩
    · rw [hctx, blankEmpty_ctx, if_neg hp, blankContext]
    · rw [afterStart_ctx, harm, hx, moveToStarted_ctx, ownVoid_ctx_other (by rw [hother]; exact hn), hother]
    · have hroom : (blankEmpty s i none).link.voidQueue.length < 4 := by
        rw [blankEmpty_link, (endRunning_onlyTx s).voidQueue]
        exact h.resolve_right hp
      simp [hx, ownVoid_report_of_room hw _ hroom]

end Empty

/-- Settles O40, by what the start finds: a context in Loading, an unheld head, or an empty queue. -/
theorem tofStartsBlank : Obligations.TofStartsBlank := by
  refine ⟨fun s e rest i hs hq hl hseq hoa hol hv => ?_, fun s e rest i hs hq hrun hend hne hleave hv => ?_,
    fun s hs hq hlc hfree => ?_, fun s i hs hq hlc hend hne hfree => ?_, fun s i hs hq hlc hrun hne => ?_⟩
  · have hx := startLabel_blankLoading hq hl hseq (Context.isNext_eq_false hoa hol)
    have hctxw : (blankLoading s e i).ctx i = (s.ctx i).startedBlank := by simp [blankLoading]
    have hholds : ((blankLoading s e i).ctx i).holds e.seq = true := by
      simp [hctxw, Context.startedBlank, Context.holds_iff, hseq]
    have hri : (endRunning s).ctx i = s.ctx i := endRunning_ctx_of_not_running (by simp [hl])
    have hbusy : ((startLabel (endRunning s)).ctx i).state ≠ .free := by
      obtain ⟨-, -, -, hstates⟩ := ownVoid_kept (blankLoading s e i) e.seq .notArmed
      rw [hx, moveToStarted_ctx, hstates]
      exact (Context.holds_iff.1 hholds).1
    obtain ⟨hseqt, hctxt, hplaced, hquiet⟩ := tof_of_marked rfl hx (by simp [blankLoading]) hholds fun hvi => by
      rw [hctxw] at hvi
      exact blankLoading_labelVoided (hv.resolve_right fun h => h hvi) hvi
    rw [hctxw] at hseqt hctxt hplaced hquiet
    refine ⟨_, exec_topOfForm hs (by simp [hq]), ?_, fun r hr => ?_, hctxt, hplaced, hquiet, ?_, ?_⟩
    · rw [hseqt, blankLoading_seq hq]
      rfl
    · have hrender : (startLabel (endRunning s)).raster.rendering = (loadAbandoned ((endRunning s).setSeq
          (s.seq.consume e.seq)) i).raster.rendering := by simp [hx, blankLoading]
      refine afterStart_rendering (hrender.trans ?_)
      rw [loadAbandoned_rendering (r := r) (by simpa using hr)]
      simp [hri, hseq]
    · rw [show (afterStart (startLabel (endRunning s))).loader = (arm (startLabel (endRunning s))).loader by simp]
      refine arm_loader_ne ?_ hbusy
      simpa [hx, blankLoading] using loadAbandoned_loader ((endRunning s).setSeq (s.seq.consume e.seq)) i
    · apply State.ext
      case link => exact tof_onlyLabels s
      case lines => exact lines_eq_of_slwAsserted (by simp)
      case ring => apply Ring.ext <;> simp
      case store =>
        obtain ⟨-, -, -, hmem, hcat, hsec, hwrite⟩ := startLabel_parts (endRunning s)
        exact Store.ext_kept (by simp [hmem]) (by simp [hcat]) (by simp [hsec]) (by simp [hwrite])
      all_goals simp
  · have hrunning : s.runningCtx = some i := State.runningCtx_of_states hrun (by simp [hend])
    have hri : (endRunning s).ctx i = Context.free := by rw [endRunning_ctx_of_leaves hrunning hleave, if_pos rfl]
    have hro : (endRunning s).ctx i.other = s.ctx i.other := endRunning_ctx_of_not_running (by simp [hend])
    have hf : (endRunning s).findCtx Context.isFree = some i :=
      State.findFree_of_states (by rw [hri]; rfl) (by simp [hro, hend])
    have hnext : ∀ j, (s.ctx j).isNext = false := fun j => by
      rcases CtxId.eq_or_eq_other i j with rfl | rfl
      · simp [Context.isNext, hrun]
      · simp [Context.isNext, hend]
    have hx := startLabel_blankUnheld hq hnext hf
    have hctxw := blankUnheld_ctx s e i
    have hholds : ((blankUnheld s e i).ctx i).holds e.seq = true := by
      simp [hctxw, Context.holds_iff, JobEntry.toContext]
    have hwo : (blankUnheld s e i).ctx i.other = s.ctx i.other := blankUnheld_ctx_other hend
    have hother : (ownVoid (blankUnheld s e i) e.seq .notArmed).ctx i.other = s.ctx i.other := by
      rw [ownVoid_ctx_other (by rw [hwo]; exact Context.holds_eq_false.2 (.inr hne)), hwo]
    have harm : arm (startLabel (endRunning s)) = startLabel (endRunning s) := by
      obtain ⟨-, -, -, hstates⟩ := ownVoid_kept (blankUnheld s e i) e.seq .notArmed
      refine arm_of_busy (i := i) ?_ ?_ <;> rw [hx, moveToStarted_ctx, hstates]
      · exact (Context.holds_iff.1 hholds).1
      · simp [hwo, hend]
    obtain ⟨hseqt, hctxt, hplaced, hquiet⟩ := tof_of_marked rfl hx (by simp) hholds fun hvi => by
      rw [hctxw] at hvi
      exact blankUnheld_labelVoided (hv.resolve_right fun h => h hvi) hvi
    rw [hctxw] at hseqt hctxt hplaced hquiet
    refine ⟨_, exec_topOfForm hs (by simp [hq]), ?_, hctxt, ?_, hplaced, hquiet, ?_⟩
    · rw [hseqt, blankUnheld_seq hq]
      rfl
    · rw [afterStart_ctx, harm, hx, moveToStarted_ctx, hother]
    · exact tof_frame_of_kept rfl harm (by simp [hx, blankUnheld]) (by simp [hx, blankUnheld])
  · have hnone : s.runningCtx = none :=
      State.runningCtx_eq_none (i := .a) (by simp [State.ctx, hfree.1]) (by simp [State.ctx, CtxId.other, hfree.2])
    have hf : s.findCtx Context.isFree = some .a := State.findCtx_of_first (Context.isFree_iff.2 hfree.1) (by simp)
    have h := tof_startsEmpty (i := .a) hs hq hlc (by rwa [endRunning_of_none hnone]) (by
      rw [endRunning_of_none hnone]
      exact Context.holds_eq_false.2 (.inl hfree.2))
    have hB : (afterStart (startLabel (endRunning s))).ctxB = s.ctxB :=
      h.ctx_other.trans (by rw [endRunning_of_none hnone]; rfl)
    refine ⟨_, h.exec_eq, h.seq, hB, h.ctx, h.placed, h.quiet, ?_, fun hroom => ?_⟩
    · have := h.frame
      rwa [hB] at this
    · rw [h.report hroom, endRunning_of_none hnone]
  · have hnone : s.runningCtx = none := State.runningCtx_eq_none (i := i) (by simp [hend]) (by simp [hfree])
    have hf : s.findCtx Context.isFree = some i.other := State.findFree_of_states hfree (by simp [hend])
    have h := tof_startsEmpty hs hq hlc (by rwa [endRunning_of_none hnone]) (by
      rw [endRunning_of_none hnone, CtxId.other_other]
      exact Context.holds_eq_false.2 (.inr hne))
    have hi := h.ctx_other
    rw [CtxId.other_other, endRunning_of_none hnone] at hi
    rw [endRunning_of_none hnone] at h
    exact ⟨_, h.exec_eq, h.seq, by simpa [endRunning_of_none hnone] using hi, h.ctx, h.placed, h.quiet, h.frame,
      fun hroom => by rw [h.report hroom, endRunning_of_none hnone]⟩
  · intro leaves blank hother
    have hother' : (s.ctx i.other).state ≠ .running := by rcases hother with h | ⟨h, -⟩ <;> simp [h]
    have hrunning : s.runningCtx = some i := State.runningCtx_of_states hrun hother'
    have hro : (endRunning s).ctx i.other = s.ctx i.other := endRunning_ctx_of_not_running hother'
    have hstart : ∀ f, (endRunning s).findCtx Context.isFree = some f →
        StartsEmpty s f (afterStart (startLabel (endRunning s))) := fun f hf =>
      tof_startsEmpty hs hq hlc hf (endRunning_holds_eq_false hne _)
    rcases hother with ho | ⟨ho, hl⟩
    · have hof : ((endRunning s).ctx i.other).isFree = true := by simp [hro, Context.isFree, ho]
      have hne : (s.ctx i.other).state ≠ .ending := by simp [ho]
      by_cases hl : leaves
      · have hr : ∀ j, (endRunning s).ctx j = if j = i then Context.free else s.ctx j :=
          endRunning_ctx_of_leaves hrunning hl
        have hf : (endRunning s).findCtx Context.isFree = some .a := by
          refine State.findCtx_of_first ?_ (by simp)
          rcases CtxId.eq_or_eq_other i .a with rfl | ha
          · simp [hr, Context.isFree, Context.free]
          · rwa [ha]
        have h := hstart _ hf
        have hB : (afterStart (startLabel (endRunning s))).ctxB = if i = .b then Context.free else s.ctxB := by
          refine h.ctx_other.trans ((hr _).trans ?_)
          simp only [CtxId.other, eq_comm]
          rfl
        exact ⟨_, h.exec_eq, h.seq, fun h' => absurd h' hne, fun _ _ => ⟨h.ctx, hB⟩, fun _ h' => absurd hl h',
          h.placed, h.quiet, h.frame⟩
      · have hr : (endRunning s).ctx i = { s.ctx i with truncated := true, state := .ending } := by
          rw [endRunning_ctx_of_stays hrunning hl, if_pos rfl]
        have h := hstart i.other (State.findCtx_of_unique hof (by simp [hr, Context.isFree]))
        have hi := h.ctx_other
        rw [CtxId.other_other, hr] at hi
        exact ⟨_, h.exec_eq, h.seq, fun h' => absurd h' hne, fun _ h' => absurd h' hl, fun _ _ => ⟨h.ctx, hi⟩,
          h.placed, h.quiet, h.frame⟩
    · have hne : (s.ctx i.other).state ≠ .free := by simp [ho]
      have hr : (endRunning s).ctx i = Context.free := by rw [endRunning_ctx_of_leaves hrunning hl, if_pos rfl]
      have h := hstart i (State.findFree_of_states (by rw [hr]; rfl) (by simp [hro, ho]))
      exact ⟨_, h.exec_eq, h.seq, fun _ => ⟨h.ctx, h.ctx_other.trans hro⟩, fun h' => absurd h' hne,
        fun h' => absurd h' hne, h.placed, h.quiet, h.frame⟩

end Sys2Proof.Machine

/-! ### Rows without a plan (O45) -/

namespace Sys2Proof.Machine

/-! #### The start of a row pulse (log 1, R118, R133) -/

/-- The state in which a row pulse finds the row to take: the time has passed, the timer has its edge, the hold count
has decreased. -/
def pulseBegun (dt : Nat) (s : State) : State :=
  decreaseHold ((passTime dt s).setTimer (passTime dt s).timer.edge)

@[simp] theorem pulseBegun_frame (dt : Nat) (s : State) : (pulseBegun dt s).station = s.station
    ∧ (pulseBegun dt s).number = s.number ∧ (pulseBegun dt s).setup = s.setup ∧ (pulseBegun dt s).seq = s.seq
    ∧ (pulseBegun dt s).ctxA = s.ctxA ∧ (pulseBegun dt s).ctxB = s.ctxB ∧ (pulseBegun dt s).loader = s.loader
    ∧ (pulseBegun dt s).raster = s.raster ∧ (pulseBegun dt s).ring = s.ring ∧ (pulseBegun dt s).plan = s.plan
    ∧ (pulseBegun dt s).head = s.head ∧ (pulseBegun dt s).lines = s.lines ∧ (pulseBegun dt s).peers = s.peers
    ∧ (pulseBegun dt s).store = s.store ∧ (pulseBegun dt s).report = s.report
    ∧ (pulseBegun dt s).freeCount = s.freeCount ∧ (pulseBegun dt s).pending = s.pending := by
  simp [pulseBegun]

@[simp] theorem pulseBegun_ctx (dt : Nat) (s : State) (j : CtxId) : (pulseBegun dt s).ctx j = s.ctx j := by
  simp [pulseBegun]

@[simp] theorem pulseBegun_thermal (dt : Nat) (s : State) :
    (pulseBegun dt s).thermal = { s.thermal with hold := s.thermal.hold - 1 } := by
  simp [pulseBegun, decreaseHold]

/-- Time moves the quiet count of the link alone. -/
theorem pulseBegun_link (dt : Nat) (s : State) :
    (pulseBegun dt s).link = { s.link with quiet := (pulseBegun dt s).link.quiet } := by
  have hpass : (passTime dt s).link = { s.link with quiet := (passTime dt s).link.quiet } := by
    unfold passTime
    dsimp only
    split <;> simp
  simpa [pulseBegun] using hpass

/-- When RDY is held as before, SLW alone can have moved. -/
theorem lines_eq_of_rdyReleased {l m : Lines} (h : m.rdyReleased = l.rdyReleased) :
    m = { l with slwAsserted := m.slwAsserted } := by
  cases l; cases m; simp_all

theorem Link.OnlyTx.demand {l m : Link} (h : l.OnlyTx m) : l.OnlyDemand m := by
  unfold Link.OnlyTx Link.OnlyDemand at *
  rw [h]

/-- What follows the row of a pulse: the purges, arming, the rasterizer, SLW. -/
def afterRow (s : State) : State := driveSlw (settle (purgeStale s))

theorem exec_rowPulse_of_unplanned {s : State} {i : CtxId} {dt : Nat} (hs : s.station = .active) (hp : s.plan = none)
    (hrun : s.runningCtx = some i) (hlast : (s.ctx i).taken < (s.ctx i).rowLimit) :
    exec (.rowPulse dt) s = .next (afterRow (takeRow (pulseBegun dt s) i)) := by
  have hact : ((passTime dt s).setTimer (passTime dt s).timer.edge).station = .active := by simp [hs]
  have hcut : cutFlight (pulseBegun dt s) = pulseBegun dt s := by simp [cutFlight, hp]
  have hrun' : (pulseBegun dt s).runningCtx = some i := by
    rw [← hrun]
    exact State.findCtx_congr fun j => by rw [pulseBegun_ctx]
  have hhand : handRow (pulseBegun dt s) = takeRow (pulseBegun dt s) i := by simp [handRow, hrun', hlast]
  show execRowPulse dt s = _
  rw [execRowPulse]
  simp only [hact, if_true]
  rw [pulseActive]
  simp only [← pulseBegun.eq_def, hcut, hhand, afterRow]

@[simp] theorem afterRow_frame (s : State) : (afterRow s).station = s.station ∧ (afterRow s).number = s.number
    ∧ (afterRow s).setup = s.setup ∧ (afterRow s).seq = s.seq
    ∧ (afterRow s).ring.history = s.ring.history ∧ (afterRow s).plan = s.plan ∧ (afterRow s).head = s.head
    ∧ (afterRow s).thermal = s.thermal ∧ (afterRow s).lines.rdyReleased = s.lines.rdyReleased
    ∧ (afterRow s).store = s.store ∧ (afterRow s).report.queue = s.report.queue
    ∧ (afterRow s).freeCount = s.freeCount ∧ (afterRow s).pending = s.pending := by
  have hlines : (driveSlw (settle (purgeStale s))).lines.rdyReleased = s.lines.rdyReleased := by simp [driveSlw]
  simp [afterRow, hlines]

theorem afterRow_ctx_of_not_free {s : State} {j : CtxId} (h : (s.ctx j).state ≠ .free) :
    (afterRow s).ctx j = s.ctx j := by
  have harm : (arm (purgeStale s)).ctx j = (purgeStale s).ctx j := arm_ctx_of_not_free (by simpa using h)
  simpa [afterRow] using harm

theorem afterRow_ctx_of_empty {s : State} (h : s.seq.queue = []) (j : CtxId) : (afterRow s).ctx j = s.ctx j := by
  have harm : arm (purgeStale s) = purgeStale s := arm_of_empty (by simpa using h)
  simp [afterRow, harm]

theorem afterRow_dropsStay (s : State) : DropsStay s (afterRow s) :=
  .trans (.of_report (by simp)) (driveSlw_dropsStay (settle (purgeStale s)))

theorem afterRow_onlyDemand (s : State) : s.link.OnlyDemand (afterRow s).link := by
  have hdrive : (settle (purgeStale s)).link.OnlyDemand (afterRow s).link :=
    (driveSlw_onlyTx (settle (purgeStale s))).demand
  exact (purgeStale_onlyDemand s).trans (by simpa using hdrive)

theorem afterRow_armsHead {s : State} (hs : s.station = .active) : s.ArmsHead s.seq.queue (afterRow s) := by
  have harms : (purgeStale s).ArmsHead (purgeStale s).seq.queue (settle (purgeStale s)) :=
    settle_armsHead (by simpa using hs)
  have hqueue : (purgeStale s).seq.queue = s.seq.queue := by simp
  rw [hqueue] at harms
  exact harms.congr (by simp) (by simp) (by simp) (by simp [afterRow]) (by simp [afterRow]) (by simp [afterRow])

/-! #### The row that begins no pulse (R31, R59, R120, R121) -/

/-- The row enters the history as this record: a Rendered row with no dot fired, and a pulse without one as a gap. -/
def Ring.unplannedRow (g : Ring) (c : Context) : Slot :=
  match g.findRow c.seq c.taken with
  | some x => if c.h = none ∧ 5 ≤ c.taken then gapRecord else { x with state := .history, fired := 0 }
  | none => gapRecord

/-- The row is late, and its label not yet voided (R121, R11). -/
abbrev State.rowVoids (s : State) (i : CtxId) : Prop :=
  ¬((s.ctx i).h = none ∧ 5 ≤ (s.ctx i).taken) ∧ s.ring.findRow (s.ctx i).seq (s.ctx i).taken = none
  ∧ s.labelVoided (s.ctx i).seq = false

/-- The label has taken a row, and the ring is `ring`. -/
def rowTaken (s : State) (i : CtxId) (ring : Ring) : State := (s.setCtx i (s.ctx i).takeRow).setRing ring

section RowTaken
variable (s : State) (i : CtxId) (ring : Ring)

@[simp] theorem rowTaken_frame : (rowTaken s i ring).station = s.station ∧ (rowTaken s i ring).number = s.number
    ∧ (rowTaken s i ring).setup = s.setup ∧ (rowTaken s i ring).seq = s.seq ∧ (rowTaken s i ring).loader = s.loader
    ∧ (rowTaken s i ring).raster = s.raster ∧ (rowTaken s i ring).ring = ring ∧ (rowTaken s i ring).timer = s.timer
    ∧ (rowTaken s i ring).plan = s.plan ∧ (rowTaken s i ring).head = s.head
    ∧ (rowTaken s i ring).thermal = s.thermal ∧ (rowTaken s i ring).lines = s.lines
    ∧ (rowTaken s i ring).link = s.link ∧ (rowTaken s i ring).peers = s.peers ∧ (rowTaken s i ring).store = s.store
    ∧ (rowTaken s i ring).report = s.report ∧ (rowTaken s i ring).freeCount = s.freeCount
    ∧ (rowTaken s i ring).pending = s.pending := by
  simp [rowTaken]

theorem rowTaken_ctx (j : CtxId) : (rowTaken s i ring).ctx j = if j = i then (s.ctx i).takeRow else s.ctx j := by
  rw [rowTaken, State.setRing_ctx, State.setCtx_ctx]

/-- Taking a row leaves which label a context holds, whether it is a running one, and its mark Voided. -/
theorem rowTaken_holder {j : CtxId} (hrun : (s.ctx i).state = .running) :
    ((rowTaken s i ring).ctx j).isRunningLabel = (s.ctx j).isRunningLabel
    ∧ ((rowTaken s i ring).ctx j).seq = (s.ctx j).seq
    ∧ ((rowTaken s i ring).ctx j).isFree = (s.ctx j).isFree
    ∧ ((rowTaken s i ring).ctx j).voided = (s.ctx j).voided := by
  rw [rowTaken_ctx]
  split
  · rename_i hj
    subst hj
    by_cases hh : (s.ctx j).h = some ((s.ctx j).taken + 1) <;>
      simp [Context.takeRow, Context.isRunningLabel, Context.isFree, hrun, hh]
  · simp

theorem rowTaken_labelVoided (hrun : (s.ctx i).state = .running) (seq : Nat) :
    (rowTaken s i ring).labelVoided seq = s.labelVoided seq := by
  have hctx : ∀ j, ((rowTaken s i ring).ctx j).holds seq = (s.ctx j).holds seq
      ∧ ((rowTaken s i ring).ctx j).voided = (s.ctx j).voided := fun j => by
    obtain ⟨-, hseq, hfree, hvoided⟩ := rowTaken_holder s i ring (j := j) hrun
    simp [Context.holds, hseq, hfree, hvoided]
  rw [Bool.eq_iff_iff, State.labelVoided_iff, State.labelVoided_iff]
  simp [hctx]

theorem rowTaken_runningLabelCtx (hrun : (s.ctx i).state = .running) (seq : Nat) :
    (rowTaken s i ring).runningLabelCtx seq = s.runningLabelCtx seq :=
  State.findCtx_congr fun j => by
    obtain ⟨hlabel, hseq, -⟩ := rowTaken_holder s i ring (j := j) hrun
    rw [hlabel, hseq]

end RowTaken

/-- The label has taken the row and, when the row is late, its mark (R121). -/
def rowMarked (s : State) (i : CtxId) (ring : Ring) : State :=
  if s.rowVoids i then ownVoid (rowTaken s i ring) (s.ctx i).seq .lateRow else rowTaken s i ring

/-- The mark Voided of the label when it has taken the row. -/
def State.rowMark (s : State) (i : CtxId) : Option Reason := if s.rowVoids i then some .lateRow else (s.ctx i).voided

section RowMarked
variable (s : State) (i : CtxId) (ring : Ring)

@[simp] theorem rowMarked_frame : (rowMarked s i ring).station = s.station ∧ (rowMarked s i ring).number = s.number
    ∧ (rowMarked s i ring).setup = s.setup ∧ (rowMarked s i ring).loader = s.loader
    ∧ (rowMarked s i ring).raster = s.raster ∧ (rowMarked s i ring).ring = ring ∧ (rowMarked s i ring).timer = s.timer
    ∧ (rowMarked s i ring).plan = s.plan ∧ (rowMarked s i ring).head = s.head
    ∧ (rowMarked s i ring).thermal = s.thermal ∧ (rowMarked s i ring).lines = s.lines
    ∧ (rowMarked s i ring).peers = s.peers ∧ (rowMarked s i ring).store = s.store
    ∧ (rowMarked s i ring).report.queue = s.report.queue ∧ (rowMarked s i ring).freeCount = s.freeCount
    ∧ (rowMarked s i ring).pending = s.pending := by
  unfold rowMarked
  split <;> simp

theorem rowMarked_onlyVoids : s.link.OnlyVoids (rowMarked s i ring).link := by
  unfold rowMarked
  split
  · simpa using ownVoid_onlyVoids (rowTaken s i ring) (s.ctx i).seq .lateRow
  · simpa using Link.OnlyVoids.refl s.link

theorem rowMarked_of_not_voids (hv : ¬s.rowVoids i) : rowMarked s i ring = rowTaken s i ring := if_neg hv

section Running
variable {s i ring} (hrun : (s.ctx i).state = .running)
include hrun

theorem rowVoids_labelVoided (hv : s.rowVoids i) : (rowTaken s i ring).labelVoided (s.ctx i).seq = false := by
  rw [rowTaken_labelVoided _ _ _ hrun]
  exact hv.2.2

theorem rowMarked_ctx : (rowMarked s i ring).ctx i = { (s.ctx i).takeRow with voided := s.rowMark i } := by
  have hctx := rowTaken_ctx s i ring i
  rw [if_pos rfl] at hctx
  have hholds : ((s.ctx i).takeRow).holds (s.ctx i).seq = true := by
    refine Context.holds_iff.2 ⟨?_, rfl⟩
    rw [← Context.isFree_eq_false, ← hctx, (rowTaken_holder s i ring hrun).2.2.1]
    simp [Context.isFree, hrun]
  unfold rowMarked State.rowMark
  split
  · rename_i hv
    rw [ownVoid_ctx (rowVoids_labelVoided hrun hv), hctx, if_pos hholds]
  · rw [hctx]
    rfl

theorem rowMarked_seq : (rowMarked s i ring).seq = { s.seq with
    queue := s.seq.queue.map fun e => if s.rowVoids i ∧ e.seq = (s.ctx i).seq ∧ e.voided = none
      then { e with voided := some .lateRow } else e } := by
  unfold rowMarked
  split
  · rename_i hv
    rw [ownVoid_seq (rowVoids_labelVoided hrun hv)]
    simp only [rowTaken_frame, eq_true hv, true_and]
  · rename_i hv
    simp [hv]

theorem rowMarked_runningLabelCtx (seq : Nat) : (rowMarked s i ring).runningLabelCtx seq = s.runningLabelCtx seq := by
  rw [← rowTaken_runningLabelCtx s i ring hrun]
  unfold rowMarked
  split
  · rename_i hv
    refine State.runningLabelCtx_congr (fun j => ?_) seq
    rw [ownVoid_ctx (rowVoids_labelVoided hrun hv)]
    split <;> simp
  · rfl

theorem rowMarked_placed (hv : s.rowVoids i) :
    VoidPlaced s { seq := (s.ctx i).seq, reason := .lateRow } (rowMarked s i ring) := by
  rw [rowMarked, if_pos hv]
  exact (ownVoid_placed (rowVoids_labelVoided hrun hv) .lateRow).mono (by simp) (by simp) rfl rfl (.of_report rfl)

end Running

/-- A context that does not hold the label stays. -/
theorem rowMarked_ctx_other (h : (s.ctx i.other).holds (s.ctx i).seq = false) :
    (rowMarked s i ring).ctx i.other = s.ctx i.other := by
  have hctx : (rowTaken s i ring).ctx i.other = s.ctx i.other := by simp [rowTaken_ctx]
  unfold rowMarked
  split
  · rw [ownVoid_ctx_other (by rwa [hctx]), hctx]
  · exact hctx

end RowMarked

/-- What the firing unit does with a row that begins no pulse: one record in the history, and the row's end. -/
theorem takeRow_unplanned {s : State} {i : CtxId} (hrun : (s.ctx i).state = .running)
    (hrow : ((s.ctx i).h = none ∧ 5 ≤ (s.ctx i).taken) ∨ ∀ x, s.ring.findRow (s.ctx i).seq (s.ctx i).taken = some x →
      (s.ctx i).voided ≠ none ∨ (s.ctx i).cancelled = true ∨ s.thermal.hot = true ∨ x.demand = 0) :
    ∃ ring : Ring, ring.history = (s.ring.history ++ [s.ring.unplannedRow (s.ctx i)]).drop (s.ring.history.length - 1)
      ∧ takeRow s i = endRow (rowMarked s i ring) (s.ctx i).seq false false false := by
  have hgap : recordGap (s.setCtx i (s.ctx i).takeRow) = rowTaken s i (s.ring.pushHistory gapRecord) := by
    simp [recordGap, rowTaken]
  by_cases hopen : (s.ctx i).h = none ∧ 5 ≤ (s.ctx i).taken
  · refine ⟨s.ring.pushHistory gapRecord, ?_, ?_⟩
    · rw [Ring.pushHistory_eq, Ring.unplannedRow]
      split <;> simp [hopen]
    · rw [takeRow, if_pos hopen, hgap, rowMarked_of_not_voids _ _ _ fun hv => hv.1 hopen]
  · have hrow := hrow.resolve_left hopen
    cases hfind : s.ring.findRow (s.ctx i).seq (s.ctx i).taken with
    | none =>
      refine ⟨s.ring.pushHistory gapRecord, by simp [Ring.pushHistory_eq, Ring.unplannedRow, hfind], ?_⟩
      simp only [takeRow, if_neg hopen, State.setCtx_ring, hfind, lateRow, hgap, rowMarked]
      split
      · rfl
      · rename_i hv
        have hvoided : (rowTaken s i (s.ring.pushHistory gapRecord)).labelVoided (s.ctx i).seq = true := by
          rw [rowTaken_labelVoided _ _ _ hrun]
          simpa [State.rowVoids, hopen, hfind] using hv
        rw [ownVoid_of_voided hvoided]
    | some x =>
      refine ⟨(s.ring.dropRow (s.ctx i).seq (s.ctx i).taken).pushHistory (x.toHistory 0), ?_, ?_⟩
      · simp [Ring.pushHistory_eq, Ring.unplannedRow, hfind, hopen, Ring.dropRow, Slot.toHistory]
      · have hempty : (s.setCtx i (s.ctx i).takeRow).plansNothing (s.ctx i) x = true := by
          have hsome : (s.ctx i).voided.isSome = true ↔ (s.ctx i).voided ≠ none := by
            cases (s.ctx i).voided <;> simp
          simpa [State.plansNothing, Context.marked, hsome, or_assoc] using hrow x hfind
        rw [rowMarked_of_not_voids _ _ _ fun ⟨_, hnone, _⟩ => by simp [hfind] at hnone]
        simp only [takeRow, if_neg hopen, State.setCtx_ring, hfind, fireRow, hempty, true_or, if_true]
        simp [recordEmpty, rowTaken]

/-! #### The label at the end of such a row (R32, R34) -/

/-- The context of the label when its row has ended, before the label may complete. -/
def Context.rowPassed (c : Context) (voided : Option Reason) : Context :=
  { c.takeRow with completed := c.completed + 1, voided := voided }

/-- The row is the label's last one when H, or 4,800 of an unknown H, is reached (R31, R34). -/
theorem Context.rowPassed_endsNow {c : Context} (hrun : c.state = .running) (hlast : c.taken < c.rowLimit)
    (voided : Option Reason) : (c.rowPassed voided).endsNow = true ↔ c.taken + 1 = c.rowLimit := by
  cases hh : c.h with
  | none =>
    have hlimit : c.rowLimit = 4800 := by simp [Context.rowLimit, hh]
    simp [Context.endsNow, Context.rowPassed, Context.takeRow, Context.isRunning, hh, hrun, Config.lastRow, hlimit]
    omega
  | some n =>
    have hlimit : c.rowLimit = n := by simp [Context.rowLimit, hh]
    by_cases hn : n = c.taken + 1
    · simp [Context.endsNow, Context.rowPassed, Context.takeRow, hh, hlimit, hn]
    · simp [Context.endsNow, Context.rowPassed, Context.takeRow, hh, hlimit, hn, hrun, Ne.symm hn]

/-- Before its last row a label stays Running. -/
theorem Context.rowPassed_of_more {c : Context} (hmore : c.taken + 1 < c.rowLimit) (voided : Option Reason) :
    c.rowPassed voided = { c with taken := c.taken + 1, completed := c.completed + 1, voided := voided } := by
  have hstate : c.h ≠ some (c.taken + 1) := fun h => by simp [Context.rowLimit, h] at hmore
  simp [Context.rowPassed, Context.takeRow, hstate]

/-- The record of a label does not depend on Running or Ending (R35, R36). -/
theorem Context.rowPassed_record (c : Context) (voided : Option Reason) : (c.rowPassed voided).completedRecord
    = ({ c with taken := c.taken + 1, completed := c.completed + 1, voided := voided } : Context).completedRecord := rfl

section RowEnd
variable {s w : State} {i : CtxId} {v : Option Reason}

/-- The row's end in a state whose label has taken it. -/
theorem endRow_of_rowTaken (hrun : (s.ctx i).state = .running) (hlast : (s.ctx i).taken < (s.ctx i).rowLimit)
    (hlabel : w.runningLabelCtx (s.ctx i).seq = some i) (hctx : w.ctx i = { (s.ctx i).takeRow with voided := v }) :
    endRow w (s.ctx i).seq false false false
      = if (s.ctx i).taken + 1 = (s.ctx i).rowLimit then completeLabel (w.setCtx i ((s.ctx i).rowPassed v)) i
        else w.setCtx i ((s.ctx i).rowPassed v) := by
  have hpassed : (w.ctx i).rowEnded false false = (s.ctx i).rowPassed v := by
    rw [hctx]
    simp [Context.rowEnded, Context.rowPassed, Context.takeRow]
  rw [endRow_of_running hlabel, hpassed]
  have hends := Context.rowPassed_endsNow hrun hlast v
  rw [← State.setCtx_ctx_self w i ((s.ctx i).rowPassed v)] at hends
  split
  · rename_i hl
    exact completeIfEnding_of_endsNow (hends.2 hl)
  · rename_i hl
    exact completeIfEnding_of_not_endsNow (by rwa [← hends, Bool.not_eq_true] at hl)

/-- The end of such a row sets aside no record. -/
theorem endRow_dropsStay_of_rowTaken (hrun : (s.ctx i).state = .running) (hlast : (s.ctx i).taken < (s.ctx i).rowLimit)
    (hlabel : w.runningLabelCtx (s.ctx i).seq = some i) (hctx : w.ctx i = { (s.ctx i).takeRow with voided := v }) :
    DropsStay w (endRow w (s.ctx i).seq false false false) := by
  have hset : DropsStay w (w.setCtx i ((s.ctx i).rowPassed v)) := .of_report (by simp)
  rw [endRow_of_rowTaken hrun hlast hlabel hctx]
  split
  · exact hset.trans (completeLabel_dropsStay _ _)
  · exact hset

end RowEnd

/-- Settles O45: the row's mark, its end, and what the pulse does after it. -/
theorem rowsWithoutPlan : Obligations.RowsWithoutPlan := by
  intro dt s i hs hplan hrun hlabel c hlast isOpen hrow voids ended row
  let s0 := pulseBegun dt s
  have hc0 : s0.ctx i = c := pulseBegun_ctx dt s i
  have hstate : c.state = .running := by simpa [Context.isRunning] using State.findCtx_eq_some hrun
  have hvoids : s0.rowVoids i ↔ voids := by
    have hlv : s0.labelVoided c.seq = s.labelVoided c.seq := by simp [s0, State.labelVoided]
    have hring : s0.ring = s.ring := by simp [s0]
    rw [State.rowVoids, hc0, hlv, hring]
  have hrun0 : (s0.ctx i).state = .running := hc0 ▸ hstate
  have hlast0 : (s0.ctx i).taken < (s0.ctx i).rowLimit := hc0 ▸ hlast
  obtain ⟨ring, hhist, htake⟩ := takeRow_unplanned hrun0 (by simpa [s0] using hrow)
  let w := rowMarked s0 i ring
  have hwlabel : w.runningLabelCtx (s0.ctx i).seq = some i := by
    rw [rowMarked_runningLabelCtx hrun0, hc0, ← hlabel]
    exact State.findCtx_congr fun j => by rw [pulseBegun_ctx]
  have hwctx := rowMarked_ctx (ring := ring) hrun0
  have hx := endRow_of_rowTaken hrun0 hlast0 hwlabel hwctx
  have hdrops := endRow_dropsStay_of_rowTaken hrun0 hlast0 hwlabel hwctx
  have hmark : s0.rowMark i = if voids then some .lateRow else c.voided :=
    if_congr hvoids rfl (congrArg Context.voided hc0)
  have hwlink : s0.link.OnlyVoids w.link := rowMarked_onlyVoids s0 i ring
  have hlink0 : s0.link.voidQueue = s.link.voidQueue ∧ s0.link.counts = s.link.counts := by
    rw [pulseBegun_link dt s]
    exact ⟨rfl, rfl⟩
  have hxlink := endRow_onlyTx w (s0.ctx i).seq false false
  rw [hc0] at hx hdrops hxlink htake
  let x := endRow w c.seq false false false
  have htlink := afterRow_onlyDemand x
  refine ⟨afterRow x, ?_, fun hv => ?_, fun hv => ?_, ?_, ?_, fun hmore => ?_, fun hl => ?_, ?_⟩
  · rw [exec_rowPulse_of_unplanned hs hplan hrun hlast]
    exact congrArg (Host.Outcome.next ∘ afterRow) htake
  · have hplaced : VoidPlaced s0 { seq := c.seq, reason := .lateRow } w := hc0 ▸ rowMarked_placed hrun0 (hvoids.2 hv)
    exact hplaced.mono hlink0.1 hlink0.2
      (htlink.voidQueue.trans hxlink.voidQueue) (htlink.counts.trans hxlink.counts)
      (hdrops.trans (afterRow_dropsStay x))
  · have hw : w.link = s0.link := by
      show (rowMarked s0 i ring).link = _
      rw [rowMarked_of_not_voids _ _ _ (mt hvoids.1 hv)]
      simp
    rw [htlink.voidQueue, hxlink.voidQueue, htlink.counts, hxlink.counts, hw]
    exact hlink0
  · have hseq : w.seq = _ := rowMarked_seq hrun0
    simp only [hvoids, hc0] at hseq
    simpa [x, s0] using hseq
  · have hhistory : (afterRow x).ring.history = ring.history := by simp [x, w]
    rw [hhistory, hhist, hc0, show s0.ring = s.ring by simp [s0]]
    rfl
  · have hmore : c.taken + 1 < c.rowLimit := hmore
    have hxi : x = w.setCtx i ended := by
      rw [hmark, Context.rowPassed_of_more hmore, if_neg (Nat.ne_of_lt hmore)] at hx
      exact hx
    refine ⟨?_, by simp [hxi, w, s0]⟩
    rw [afterRow_ctx_of_not_free (by simp [hxi, ended, hstate]), hxi, State.setCtx_ctx_self]
  · have hl : c.taken + 1 = c.rowLimit := hl
    let y := w.setCtx i (c.rowPassed (s0.rowMark i))
    have hxi : x = completeLabel y i := by
      rw [if_pos hl] at hx
      exact hx
    have hplaced : RecordPlaced y ended.completedRecord x := by
      have hrecord := completeLabel_placed y i
      rwa [State.setCtx_ctx_self, Context.rowPassed_record, hmark, ← hxi] at hrecord
    refine ⟨hplaced.mono (by simp [y, w, s0]) (by simp) (afterRow_dropsStay x), fun hq => ?_, fun hother => ?_⟩
    · have hqueue : x.seq.queue = [] := by simp [x, w, rowMarked_seq hrun0, s0, hq]
      rw [afterRow_ctx_of_empty hqueue, hxi, completeLabel_ctx, if_pos rfl]
    · have hctx : ∀ j, (s.setCtx i Context.free).ctx j = x.ctx j := fun j => by
        rw [hxi, completeLabel_ctx, State.setCtx_ctx]
        rcases CtxId.eq_or_eq_other i j with rfl | rfl
        · simp
        · have hw : w.ctx i.other = s0.ctx i.other := rowMarked_ctx_other s0 i ring (by simpa [hc0, s0] using hother)
          simp [y, hw, s0]
      have harms := afterRow_armsHead (s := x) (by simp [x, w, s0, hs])
      rw [show (afterRow x).seq.queue = x.seq.queue by simp]
      exact harms.congr (hctx .a) (hctx .b) (by simp [x, w, s0]) rfl rfl rfl
  · apply State.ext
    case link =>
      have hlabels : (pulseBegun dt s).link.OnlyLabels (afterRow x).link :=
        (hwlink.labels.trans hxlink.labels).trans htlink.labels
      rw [hlabels, pulseBegun_link dt s]
      rfl
    case lines => exact lines_eq_of_rdyReleased (by simp [x, w, s0])
    all_goals simp [x, w, s0]

end Sys2Proof.Machine

/-! ### RDY, SLW and the current conditions after every step (O10) -/

namespace Sys2Proof.Machine

/-! #### The conditions that follow the monitor and the driver (R134): only a reading, SETUP and SLW move them -/

/-- The conditions Warm, Hot and Slow of a set of conditions. -/
def lineConds (values : CondSet) : Bool × Bool × Bool :=
  (Cond.warm.isIn values, Cond.hot.isIn values, Cond.slow.isIn values)

section Conds
variable (s : State)

theorem setCond_lineConds (c : Cond) (v : Bool) (h : c ≠ .warm ∧ c ≠ .hot ∧ c ≠ .slow) :
    lineConds (setCond s c v).report.values = lineConds s.report.values := by
  obtain ⟨hwarm, hhot, hslow⟩ := h
  simp [lineConds, setCond_isIn_other, hwarm.symm, hhot.symm, hslow.symm]

@[simp] theorem setStoreFault_lineConds (v : Bool) :
    lineConds (setCond s .storeFault v).report.values = lineConds s.report.values := setCond_lineConds s _ v (by simp)
@[simp] theorem setFramesDropped_lineConds (v : Bool) :
    lineConds (setCond s .framesDropped v).report.values = lineConds s.report.values := setCond_lineConds s _ v (by simp)
@[simp] theorem setReportsDropped_lineConds (v : Bool) :
    lineConds (setCond s .reportsDropped v).report.values = lineConds s.report.values := setCond_lineConds s _ v (by simp)
@[simp] theorem setUnexpectedTof_lineConds (v : Bool) :
    lineConds (setCond s .unexpectedTof v).report.values = lineConds s.report.values := setCond_lineConds s _ v (by simp)

@[simp] theorem countDropped_lineConds : lineConds (countDropped s).report.values = lineConds s.report.values := by
  simp [countDropped_eq]

@[simp] theorem pushVoid_lineConds (f : VoidFrame) :
    lineConds (pushVoid s f).report.values = lineConds s.report.values := by
  unfold pushVoid
  split <;> simp

@[simp] theorem pushRecord_lineConds (r : Record) :
    lineConds (pushRecord s r).report.values = lineConds s.report.values := by
  unfold pushRecord
  split <;> simp

@[simp] theorem ownVoid_lineConds (seq : Nat) (reason : Reason) :
    lineConds (ownVoid s seq reason).report.values = lineConds s.report.values := by
  unfold ownVoid
  split <;> simp

/-! Labels and rows. -/

@[simp] theorem completeLabel_lineConds (i : CtxId) :
    lineConds (completeLabel s i).report.values = lineConds s.report.values := by simp [completeLabel]

@[simp] theorem completeIfEnding_lineConds (i : CtxId) :
    lineConds (completeIfEnding s i).report.values = lineConds s.report.values := by
  unfold completeIfEnding
  split <;> simp

@[simp] theorem endRow_lineConds (seq : Nat) (trimmed miss short : Bool) :
    lineConds (endRow s seq trimmed miss short).report.values = lineConds s.report.values := by
  unfold endRow
  split
  · rfl
  · cases short <;> simp

@[simp] theorem endFlight_lineConds (p : Plan) (trimmed short : Bool) :
    lineConds (endFlight s p trimmed short).report.values = lineConds s.report.values := by
  simp [endFlight_eq]

@[simp] theorem stopRow_lineConds : lineConds (stopRow s).report.values = lineConds s.report.values := by
  unfold stopRow
  split
  · rfl
  · split <;> simp

@[simp] theorem afterMark_lineConds (seq : Nat) :
    lineConds (afterMark s seq).report.values = lineConds s.report.values := by
  unfold afterMark stopRowOf
  split
  · split <;> simp
  · simp

@[simp] theorem addPlaceholders_lineConds (n seq : Nat) :
    lineConds (addPlaceholders n seq s).report.values = lineConds s.report.values := by
  induction n generalizing seq s with
  | zero => rfl
  | succ n ih =>
    unfold addPlaceholders
    split
    · rw [ih, addPlaceholder]
      split <;> simp
    · rfl

@[simp] theorem appendOrRefuse_lineConds (e : JobEntry) :
    lineConds (appendOrRefuse s e).report.values = lineConds s.report.values := by
  unfold appendOrRefuse
  split <;> simp

@[simp] theorem classifyJob_lineConds (e : JobEntry) :
    lineConds (classifyJob s e).report.values = lineConds s.report.values := by
  unfold classifyJob
  dsimp only
  split
  · simp
  · split
    · simp
    · split <;> simp

@[simp] theorem takeJob_lineConds (seq form darkness : Nat) (entries : List Field) :
    lineConds (takeJob s seq form darkness entries).report.values = lineConds s.report.values := by
  unfold takeJob
  split
  · rfl
  · rfl
  · simp
  · split <;> simp

@[simp] theorem takeCancel_lineConds (seq : Nat) :
    lineConds (takeCancel s seq).report.values = lineConds s.report.values := by
  unfold takeCancel
  split <;> simp

@[simp] theorem takeCancelAll_lineConds : lineConds (takeCancelAll s).report.values = lineConds s.report.values := by
  by_cases hs : s.station = .active
  · simp [takeCancelAll_active hs]
  · simp [takeCancelAll, hs]

@[simp] theorem takeVoid_lineConds (seq : Nat) :
    lineConds (takeVoid s seq).report.values = lineConds s.report.values := by
  unfold takeVoid
  split
  · split
    · simp
    · split <;> simp
  · rfl

@[simp] theorem endRunning_lineConds : lineConds (endRunning s).report.values = lineConds s.report.values := by
  unfold endRunning
  dsimp only
  split
  · rfl
  · split
    · simp
    · split <;> simp

/-- A start sends a VOID at most. -/
@[simp] theorem startLabel_lineConds : lineConds (startLabel s).report.values = lineConds s.report.values := by
  have harmed : ∀ (u : State) i, lineConds (startArmed u i).report.values = lineConds u.report.values := fun u i => by
    unfold startArmed
    dsimp only
    split <;> simp
  have hempty : ∀ (u : State) i seq v, lineConds (startEmpty u i seq v).report.values = lineConds u.report.values :=
    fun u i seq v => by
      unfold startEmpty
      dsimp only
      split <;> simp
  unfold startLabel
  dsimp only
  split
  · split
    · split <;> simp [harmed, startLoading]
    · split <;> simp [startUnheld]
  · split <;> simp [hempty]

@[simp] theorem endLoad_lineConds (l : Load) : lineConds (endLoad s l).report.values = lineConds s.report.values := by
  unfold endLoad
  dsimp only
  split <;> simp

@[simp] theorem afterPulse_lineConds (p : Plan) :
    lineConds (afterPulse s p).report.values = lineConds s.report.values := by
  unfold afterPulse
  split <;> simp

@[simp] theorem cutFlight_lineConds : lineConds (cutFlight s).report.values = lineConds s.report.values := by
  unfold cutFlight
  dsimp only
  split
  · rfl
  · split <;> simp

@[simp] theorem takeRow_lineConds (i : CtxId) :
    lineConds (takeRow s i).report.values = lineConds s.report.values := by
  unfold takeRow
  dsimp only
  split
  · simp
  · split
    · simp [lateRow]
    · unfold fireRow
      dsimp only
      split <;> simp

@[simp] theorem handRow_lineConds : lineConds (handRow s).report.values = lineConds s.report.values := by
  unfold handRow
  split
  · split <;> simp
  · simp

/-! The store controller. -/

@[simp] theorem storeRecord_lineConds (cmd : StoreCmd) (number : Nat) (result : StoreResult) (generation received : Nat) :
    lineConds (storeRecord s cmd number result generation received).report.values = lineConds s.report.values := by
  simp [storeRecord]

@[simp] theorem abandonForBegin_lineConds :
    lineConds (abandonForBegin s).report.values = lineConds s.report.values := by
  unfold abandonForBegin
  split <;> simp

@[simp] theorem takeStoreFrame_lineConds (f : StoreFrame) :
    lineConds (takeStoreFrame s f).report.values = lineConds s.report.values := by
  cases f with
  | begin number kind len =>
    show lineConds (takeStoreBegin s number kind len).report.values = _
    unfold takeStoreBegin
    dsimp only
    (repeat' split) <;> simp
  | data offset bytes =>
    show lineConds (takeStoreData s offset bytes).report.values = _
    unfold takeStoreData
    (repeat' split) <;> simp
  | stop check =>
    show lineConds (takeStoreEnd s check).report.values = _
    unfold takeStoreEnd
    (repeat' split) <;> simp
  | delete number =>
    show lineConds (takeStoreDelete s number).report.values = _
    unfold takeStoreDelete
    (repeat' split) <;> simp

@[simp] theorem takeNextStore_lineConds : lineConds (takeNextStore s).report.values = lineConds s.report.values := by
  unfold takeNextStore
  split <;> simp

@[simp] theorem takeStoreHead_lineConds (cmd : StoreCmd) :
    lineConds (takeStoreHead s cmd).report.values = lineConds s.report.values := by
  unfold takeStoreHead
  (repeat' split) <;> simp

@[simp] theorem completeServing_lineConds (sv : Serving) :
    lineConds (completeServing s sv).report.values = lineConds s.report.values := by
  unfold completeServing
  split <;> simp

@[simp] theorem endServing_lineConds : lineConds (endServing s).report.values = lineConds s.report.values := by
  simp [endServing]

@[simp] theorem continueServing_lineConds :
    lineConds (continueServing s).report.values = lineConds s.report.values := by
  unfold continueServing
  split
  · rfl
  · split <;> simp

@[simp] theorem failServing_lineConds (sv : Serving) (op : StoreOp) :
    lineConds (failServing s sv op).report.values = lineConds s.report.values := by
  unfold failServing
  split <;> simp

/-! The link. -/

@[simp] theorem route_lineConds (source : Nat) (p : Payload) :
    lineConds (route s source p).report.values = lineConds s.report.values := by
  cases p with
  | command f =>
    show lineConds (enqueueCommand s f).report.values = _
    unfold enqueueCommand
    split <;> simp
  | store f =>
    show lineConds (enqueueStore s f).report.values = _
    unfold enqueueStore
    split <;> simp
  | demand seq first ds => simp [route]
  | void seq => simp [route]
  | ignored => rfl

@[simp] theorem acceptFrame_lineConds (f : RxFrame) :
    lineConds (acceptFrame s f).report.values = lineConds s.report.values := by
  unfold acceptFrame acceptChecked
  dsimp only
  (repeat' split) <;> simp

@[simp] theorem popReport_lineConds : lineConds (popReport s).report.values = lineConds s.report.values := by
  simp [popReport]

@[simp] theorem jamEnd_lineConds (held : Bool) :
    lineConds (jamEnd held s).report.values = lineConds s.report.values := by
  have hgiveUp : ∀ (u : State) x, lineConds (giveUp u x).report.values = lineConds u.report.values := fun u x => by
    cases x <;> simp [giveUp, giveUpSource]
  unfold jamEnd
  dsimp only
  (repeat' split) <;> simp [hgiveUp]

@[simp] theorem frameSent_lineConds : lineConds (frameSent s).report.values = lineConds s.report.values := by
  have hsent : ∀ (u : State) x, lineConds (sentSource u x).report.values = lineConds u.report.values := fun u x => by
    cases x <;> simp [sentSource, ReportUnit.recordSent]
  unfold frameSent
  dsimp only
  (repeat' split) <;> simp [hsent]

@[simp] theorem clearSticky_lineConds : lineConds (clearSticky s).report.values = lineConds s.report.values := by
  simp [clearSticky]

end Conds

/-! #### The Armed contexts: only a TOF and a completed render move them (R23, R27) -/

section Armed
variable (s : State) (j : CtxId)

theorem setCtx_armed {i : CtxId} {c : Context} (h : c.state = .armed ↔ (s.ctx i).state = .armed) :
    ((s.setCtx i c).ctx j).state = .armed ↔ (s.ctx j).state = .armed := by
  rw [State.setCtx_ctx]
  split
  · rename_i hj
    rw [hj, h]
  · rfl

@[simp] theorem Context.voidWith_state (c : Context) (reason : Reason) : (c.voidWith reason).state = c.state := by
  simp [Context.voidWith_eq]

@[simp] theorem markVoided_armed (seq : Nat) (reason : Reason) :
    ((markVoided s seq reason).ctx j).state = .armed ↔ (s.ctx j).state = .armed := by
  rw [markVoided_ctx]
  split <;> simp

@[simp] theorem markCancelled_armed (seq : Nat) :
    ((markCancelled s seq).ctx j).state = .armed ↔ (s.ctx j).state = .armed := by
  rw [markCancelled_ctx]
  split <;> rfl

@[simp] theorem cancelledAll_armed : ((cancelledAll s).ctx j).state = .armed ↔ (s.ctx j).state = .armed := by
  rw [cancelledAll_ctx]
  split <;> rfl

@[simp] theorem ownVoid_armed (seq : Nat) (reason : Reason) :
    ((ownVoid s seq reason).ctx j).state = .armed ↔ (s.ctx j).state = .armed := by
  unfold ownVoid
  split <;> simp

/-- A label that completes with its row was in Running or Ending. -/
@[simp] theorem completeIfEnding_armed (i : CtxId) :
    ((completeIfEnding s i).ctx j).state = .armed ↔ (s.ctx j).state = .armed := by
  rcases hends : (s.ctx i).endsNow with _ | _
  · rw [completeIfEnding_of_not_endsNow hends]
  · have hi : (s.ctx i).state ≠ .armed := fun ha => by
      simp [Context.endsNow, Context.isRunning, ha] at hends
    rw [completeIfEnding_of_endsNow hends, completeLabel_ctx]
    split
    · rename_i hj
      simp [hj, hi, Context.free]
    · rfl

@[simp] theorem endRow_armed (seq : Nat) (trimmed miss short : Bool) :
    ((endRow s seq trimmed miss short).ctx j).state = .armed ↔ (s.ctx j).state = .armed := by
  unfold endRow
  split
  · rfl
  · rename_i i _
    have hset := setCtx_armed s j (c := (s.ctx i).rowEnded trimmed miss) (i := i) Iff.rfl
    cases short <;> simpa using hset

@[simp] theorem endFlight_armed (p : Plan) (trimmed short : Bool) :
    ((endFlight s p trimmed short).ctx j).state = .armed ↔ (s.ctx j).state = .armed := by
  simp [endFlight_eq]

@[simp] theorem stopRow_armed : ((stopRow s).ctx j).state = .armed ↔ (s.ctx j).state = .armed := by
  unfold stopRow
  split
  · rfl
  · split <;> simp

@[simp] theorem afterMark_armed (seq : Nat) :
    ((afterMark s seq).ctx j).state = .armed ↔ (s.ctx j).state = .armed := by
  unfold afterMark stopRowOf
  split
  · split <;> simp
  · simp

/-- A record that arming takes goes from Free to Loading. -/
@[simp] theorem arm_armed : ((arm s).ctx j).state = .armed ↔ (s.ctx j).state = .armed := by
  by_cases hj : (s.ctx j).state = .free
  · rcases arm_ctx_of_free s j with hc | ⟨e, -, -, hc⟩
    · rw [hc]
    · simp [hc, hj, JobEntry.toContext]
  · rw [arm_ctx_of_not_free hj]

@[simp] theorem takeJob_armed (seq form darkness : Nat) (entries : List Field) :
    ((takeJob s seq form darkness entries).ctx j).state = .armed ↔ (s.ctx j).state = .armed := by
  have hclassify : ∀ e, ((classifyJob s e).ctx j).state = .armed ↔ (s.ctx j).state = .armed := fun e => by
    unfold classifyJob
    dsimp only
    (repeat' split) <;> simp
  unfold takeJob
  (repeat' split) <;> simp [hclassify]

@[simp] theorem takeCancel_armed (seq : Nat) :
    ((takeCancel s seq).ctx j).state = .armed ↔ (s.ctx j).state = .armed := by
  unfold takeCancel
  split <;> simp

@[simp] theorem takeCancelAll_armed : ((takeCancelAll s).ctx j).state = .armed ↔ (s.ctx j).state = .armed := by
  by_cases hs : s.station = .active
  · simp [takeCancelAll_active hs]
  · simp [takeCancelAll, hs]

@[simp] theorem takeVoid_armed (seq : Nat) :
    ((takeVoid s seq).ctx j).state = .armed ↔ (s.ctx j).state = .armed := by
  unfold takeVoid
  (repeat' split) <;> simp

@[simp] theorem endLoad_armed (l : Load) : ((endLoad s l).ctx j).state = .armed ↔ (s.ctx j).state = .armed := by
  have hset := setCtx_armed s j (i := l.ctx) (c := (s.ctx l.ctx).loaded (s.loadHeight l) l) Iff.rfl
  unfold endLoad
  dsimp only
  split
  · rw [State.setCtx_ctx] at hset ⊢
    simpa using hset
  · simp
  · simp
  · simp

@[simp] theorem afterPulse_armed (p : Plan) :
    ((afterPulse s p).ctx j).state = .armed ↔ (s.ctx j).state = .armed := by
  unfold afterPulse
  split <;> simp

@[simp] theorem cutFlight_armed : ((cutFlight s).ctx j).state = .armed ↔ (s.ctx j).state = .armed := by
  unfold cutFlight
  dsimp only
  split
  · rfl
  · split <;> simp

/-- The label that takes a row is Running, and Running or Ending after it. -/
theorem takeRow_armed {i : CtxId} (hrun : (s.ctx i).state = .running) :
    ((takeRow s i).ctx j).state = .armed ↔ (s.ctx j).state = .armed := by
  have hset := setCtx_armed s j (i := i) (c := (s.ctx i).takeRow) (by
    unfold Context.takeRow
    dsimp only
    split <;> simp [hrun])
  unfold takeRow
  dsimp only
  split
  · simpa using hset
  · split
    · simpa [lateRow] using hset
    · unfold fireRow
      dsimp only
      split <;> simpa using hset

@[simp] theorem handRow_armed : ((handRow s).ctx j).state = .armed ↔ (s.ctx j).state = .armed := by
  unfold handRow
  split
  · rename_i i hrun
    have hstate : (s.ctx i).state = .running := by simpa [Context.isRunning] using State.findCtx_eq_some hrun
    split
    · exact takeRow_armed s j hstate
    · simp
  · simp

@[simp] theorem route_armed (source : Nat) (p : Payload) :
    ((route s source p).ctx j).state = .armed ↔ (s.ctx j).state = .armed := by
  cases p <;> simp [route]

@[simp] theorem acceptFrame_armed (f : RxFrame) :
    ((acceptFrame s f).ctx j).state = .armed ↔ (s.ctx j).state = .armed := by
  unfold acceptFrame acceptChecked
  dsimp only
  (repeat' split) <;> simp

end Armed

/-! #### The lines and their conditions (R25, R133, R134) -/

/-- What RDY, SLW and the conditions Warm, Hot and Slow depend on is the same in `t` as in `s`, and so are they. -/
structure SignalsStay (s t : State) : Prop where
  station : t.station = s.station
  thermal : t.thermal = s.thermal
  lines   : t.lines = s.lines
  armed   : ∀ j, (t.ctx j).state = .armed ↔ (s.ctx j).state = .armed
  conds   : lineConds t.report.values = lineConds s.report.values

theorem State.exists_ctx_iff (s : State) (p : Context → Prop) : (∃ j, p (s.ctx j)) ↔ p s.ctxA ∨ p s.ctxB := by
  refine ⟨fun ⟨j, hj⟩ => ?_, fun h => h.elim (fun h => ⟨.a, h⟩) fun h => ⟨.b, h⟩⟩
  cases j
  · exact .inl hj
  · exact .inr hj

theorem State.rdyCondition_iff (s : State) : s.rdyCondition = true ↔
    (s.station = .active ∧ s.thermal.hot = false ∧ ∃ j, (s.ctx j).state = .armed) ∨ s.station = .outside := by
  rw [State.exists_ctx_iff s fun c => c.state = .armed]
  simp [State.rdyCondition, and_assoc]

/-- The condition of RDY's release depends on the station's state, on Hot and on the Armed contexts. -/
theorem State.rdyCondition_congr {s t : State} (hstation : t.station = s.station) (hhot : t.thermal.hot = s.thermal.hot)
    (harmed : ∀ j, (t.ctx j).state = .armed ↔ (s.ctx j).state = .armed) : t.rdyCondition = s.rdyCondition := by
  rw [Bool.eq_iff_iff, State.rdyCondition_iff, State.rdyCondition_iff, hstation, hhot]
  simp only [harmed]

/-- The lines and the three conditions in terms of the conditions as a whole. -/
theorem State.linesOk_iff (s : State) : s.LinesOk ↔ s.lines.rdyReleased = s.rdyCondition
    ∧ s.lines.slwAsserted = s.thermal.slwCondition
    ∧ lineConds s.report.values = (s.thermal.warm, s.thermal.hot, s.lines.slwAsserted) := by
  simp [State.LinesOk, lineConds]

theorem SignalsStay.linesOk {s t : State} (h : SignalsStay s t) (hs : s.LinesOk) : t.LinesOk := by
  rw [State.linesOk_iff] at hs ⊢
  rw [h.conds, h.lines, h.thermal, State.rdyCondition_congr h.station (by rw [h.thermal]) h.armed]
  exact hs

/-- Warm and Hot are current in the conditions: all that the drivers leave to the monitor (R134). -/
def State.MonitorOk (s : State) : Prop :=
  Cond.warm.isIn s.report.values = s.thermal.warm ∧ Cond.hot.isIn s.report.values = s.thermal.hot

theorem State.LinesOk.monitorOk {s : State} (h : s.LinesOk) : s.MonitorOk := by
  obtain ⟨-, -, hwarm, hhot, -⟩ := h
  exact ⟨hwarm, hhot⟩

theorem State.MonitorOk.of_lineConds {s t : State} (h : s.MonitorOk)
    (hconds : lineConds t.report.values = lineConds s.report.values) (hwarm : t.thermal.warm = s.thermal.warm)
    (hhot : t.thermal.hot = s.thermal.hot) : t.MonitorOk := by
  have hsame : Cond.warm.isIn t.report.values = Cond.warm.isIn s.report.values
      ∧ Cond.hot.isIn t.report.values = Cond.hot.isIn s.report.values := by
    simp only [lineConds, Prod.mk.injEq] at hconds
    exact ⟨hconds.1, hconds.2.1⟩
  obtain ⟨h1, h2⟩ := h
  exact ⟨by rw [hsame.1, hwarm, h1], by rw [hsame.2, hhot, h2]⟩

/-! #### The driver of SLW, and of both lines -/

@[simp] theorem driveSlw_lines (s : State) :
    (driveSlw s).lines = { s.lines with slwAsserted := s.thermal.slwCondition } := by simp [driveSlw]

/-- SLW and the condition Slow follow their rules after the driver, and RDY and the monitor's conditions stay. -/
theorem driveSlw_linesOk {s : State} (hrdy : s.lines.rdyReleased = s.rdyCondition) (h : s.MonitorOk) :
    (driveSlw s).LinesOk := by
  obtain ⟨hwarm, hhot⟩ := h
  have hcond : (driveSlw s).rdyCondition = s.rdyCondition :=
    State.rdyCondition_congr (by simp) (by simp) (by simp)
  refine ⟨by rw [hcond]; simpa using hrdy, by simp, ?_, ?_, ?_⟩
  · simpa [driveSlw, setCond_isIn_other] using hwarm
  · simpa [driveSlw, setCond_isIn_other] using hhot
  · simp [driveSlw]

@[simp] theorem driveRdy_lines (s : State) : (driveRdy s).lines = { s.lines with rdyReleased := s.rdyCondition } := by
  simp [driveRdy]

@[simp] theorem driveRdy_rdyCondition (s : State) : (driveRdy s).rdyCondition = s.rdyCondition := rfl

theorem driveLines_linesOk {s : State} (h : s.MonitorOk) : (driveLines s).LinesOk :=
  driveSlw_linesOk (s := driveRdy s) (by simp) h

/-! #### The events that drive a line -/

section Drivers
variable {s : State}

/-- Warm and its condition move together, and Hot and its own (R134). -/
theorem setWarm_monitorOk (h : s.MonitorOk) (v : Bool) : (setWarm s v).MonitorOk := by
  obtain ⟨-, hhot⟩ := h
  exact ⟨by simp [setWarm], by simpa [setWarm, setCond_isIn_other] using hhot⟩

theorem setHot_monitorOk (h : s.MonitorOk) (v : Bool) : (setHot s v).MonitorOk := by
  obtain ⟨hwarm, -⟩ := h
  exact ⟨by simpa [setHot, setCond_isIn_other] using hwarm, by simp [setHot]⟩

theorem enterHot_monitorOk (h : s.MonitorOk) : (enterHot s).MonitorOk := by
  have hvoid : ∀ (u : State) st i, lineConds (voidHot st u i).report.values = lineConds u.report.values :=
    fun u st i => by
      unfold voidHot
      split <;> simp
  exact (setHot_monitorOk h true).of_lineConds (by simp [enterHot, voidRunningHot, hvoid]) (by simp [enterHot])
    (by simp [enterHot])

theorem evalWarm_monitorOk (h : s.MonitorOk) : (evalWarm s).MonitorOk := by
  unfold evalWarm
  split
  · exact setWarm_monitorOk h _
  · split
    · exact setWarm_monitorOk h _
    · exact h

theorem evalHot_monitorOk (h : s.MonitorOk) : (evalHot s).MonitorOk := by
  unfold evalHot
  split
  · split
    · exact setHot_monitorOk h _
    · exact h
  · split
    · exact enterHot_monitorOk h
    · exact h

/-- A reading outside ACTIVE and OUTSIDE moves T alone; in them the lines are driven after it (R129). -/
theorem takeReading_linesOk (h : s.LinesOk) (reading : Int) : (takeReading s reading).LinesOk := by
  have hmonitor : (s.setThermal { s.thermal with t := clampInt (-20) 100 reading }).MonitorOk := h.monitorOk
  unfold takeReading
  dsimp only
  split
  · exact h
  · exact h
  · exact driveLines_linesOk (evalHot_monitorOk (evalWarm_monitorOk hmonitor))
  · exact driveLines_linesOk (evalWarm_monitorOk hmonitor)

theorem State.MonitorOk.ite {p : Prop} [Decidable p] {v w : State} (hv : v.MonitorOk) (hw : w.MonitorOk) :
    (if p then v else w).MonitorOk := by
  split
  · exact hv
  · exact hw

theorem examineSlot_monitorOk (h : s.MonitorOk) : (examineSlot s).MonitorOk := by
  unfold examineSlot
  exact .ite h h

theorem takeSetup_linesOk (h : s.LinesOk) (v : Setup) : (takeSetup s v).LinesOk := by
  have hmode : ((s.setSetup v).setStation (stationFor s.number v.n)).MonitorOk := h.monitorOk
  have hslot := examineSlot_monitorOk (hmode.ite
    (p := ((s.setSetup v).setStation (stationFor s.number v.n)).station = .active)
    (v := ((s.setSetup v).setStation (stationFor s.number v.n)).setPeers (emptyPeers v.n s.number)) hmode)
  unfold takeSetup
  dsimp only
  refine driveLines_linesOk (.ite (enterHot_monitorOk ?_) ?_) <;> exact .ite (setWarm_monitorOk hslot true) hslot

/-- A TOF drives RDY after its start; an unsynchronised one starts nothing (R25, R26). -/
theorem takeTof_linesOk (h : s.LinesOk) : (takeTof s).LinesOk := by
  unfold takeTof
  split
  · split
    · exact SignalsStay.linesOk ⟨by simp, by simp, by simp, by simp, by simp⟩ h
    · rw [State.linesOk_iff] at h ⊢
      obtain ⟨-, hslw, hconds⟩ := h
      exact ⟨by simp, by simpa using hslw, by simpa using hconds⟩
  · exact h

/-- A completed render may arm a context, and RDY is driven after it (R23, R25). -/
theorem endRender_linesOk (h : s.LinesOk) (r : Render) : (advanceRaster (driveRdy (endRender s r))).LinesOk := by
  have hcond : (advanceRaster (driveRdy (endRender s r))).rdyCondition = (endRender s r).rdyCondition :=
    State.rdyCondition_congr (by simp) (by simp) (by simp)
  rw [State.linesOk_iff] at h ⊢
  obtain ⟨-, hslw, hconds⟩ := h
  exact ⟨by rw [hcond]; simp, by simpa using hslw, by simpa using hconds⟩

/-- A row pulse arms no context, and moves the hold count; SLW is driven after it (R133). -/
theorem pulseActive_linesOk (h : s.LinesOk) : (pulseActive s).LinesOk := by
  have hhold : ∀ u : State, (cutFlight u).thermal.warm = u.thermal.warm ∧ (cutFlight u).thermal.hot = u.thermal.hot :=
    fun u => by
      unfold cutFlight
      dsimp only
      split
      · exact ⟨rfl, rfl⟩
      · split <;> simp [reloadHold]
  have hfire : ∀ (u : State) i, (takeRow u i).thermal.warm = u.thermal.warm
      ∧ (takeRow u i).thermal.hot = u.thermal.hot := fun u i => by
    unfold takeRow fireRow beginFiring
    dsimp only
    (repeat' split) <;> simp [reloadHold]
  have hrow : ∀ u : State, (handRow u).thermal.warm = u.thermal.warm ∧ (handRow u).thermal.hot = u.thermal.hot :=
    fun u => by
      unfold handRow
      (repeat' split) <;> simp [hfire]
  have hmonitor := h.monitorOk
  obtain ⟨hrdy, -⟩ := h
  have hcond : (settle (purgeStale (handRow (cutFlight (decreaseHold s))))).rdyCondition = s.rdyCondition :=
    State.rdyCondition_congr (by simp) (by simp [hrow, hhold, decreaseHold]) (by simp)
  exact driveSlw_linesOk (by rw [hcond]; simpa using hrdy)
    (hmonitor.of_lineConds (by simp) (by simp [hrow, hhold, decreaseHold]) (by simp [hrow, hhold, decreaseHold]))

end Drivers

/-! #### Every command and every step -/

section Step
variable {s t : State}

theorem SignalsStay.refl (s : State) : SignalsStay s s := ⟨rfl, rfl, rfl, fun _ => Iff.rfl, rfl⟩

theorem acceptFrame_signals (f : RxFrame) : SignalsStay s (acceptFrame s f) :=
  ⟨by simp, by simp, by simp, by simp, by simp⟩

theorem takeStoreHead_signals (cmd : StoreCmd) : SignalsStay s (takeStoreHead s cmd) :=
  ⟨by simp, by simp, by simp, by simp, by simp⟩

theorem completeOp_signals {k : StoreOp → Bool} (h : completeOp s k = .next t) : SignalsStay s t := by
  unfold completeOp at h
  split at h
  · split at h
    · split at h <;> cases h
      exact ⟨by simp, by simp, by simp, by simp, by simp⟩
    · cases h
      exact .refl s
  · cases h
    exact .refl s

theorem execOperationFailed_signals (h : execOperationFailed s = .next t) : SignalsStay s t := by
  unfold execOperationFailed at h
  dsimp only at h
  split at h
  · split at h
    · split at h <;> cases h <;> exact ⟨by simp, by simp, by simp, by simp, by simp⟩
    · cases h
      exact .refl s
  · cases h
    exact .refl s

theorem execStoreReadRequest_signals {reader : Reader} {what : ReadKind}
    (h : execStoreReadRequest reader what s = .next t) : SignalsStay s t := by
  unfold execStoreReadRequest at h
  (repeat' split at h) <;> cases h <;> exact ⟨by simp, by simp, by simp, by simp, by simp⟩

/-- The commands of the sequence unit, the report unit and the loader that drive no line. -/
theorem execTaken_signals {c : Instr} (hc : c = .query ∨ c = .clear ∨ c = .job ∨ c = .cancel ∨ c = .cancelAll
    ∨ c = .loadComplete ∨ c = .minimumRunComplete ∨ c = .suspendComplete) (h : exec c s = .next t) :
    SignalsStay s t := by
  rcases hc with rfl | rfl | rfl | rfl | rfl | rfl | rfl | rfl <;>
    simp only [exec, execQuery, execClear, execJob, execCancel, execCancelAll, execLoadComplete,
      execMinimumRunComplete, execSuspendComplete] at h <;>
    (repeat' split at h) <;> cases h <;> exact ⟨by simp, by simp, by simp, by simp, by simp⟩

/-- The steps of a plan drive no line of the two. -/
theorem execPlan_signals {c : Instr} (hc : c = .dataLoadComplete ∨ c = .latchComplete ∨ c = .mainPulseComplete
    ∨ c = .boostPulseComplete) (h : exec c s = .next t) : SignalsStay s t := by
  rcases hc with rfl | rfl | rfl | rfl <;>
    simp only [exec, execDataLoadComplete, execLatchComplete, execMainPulseComplete, execBoostPulseComplete] at h <;>
    (repeat' split at h) <;> cases h <;> exact ⟨by simp, by simp, by simp, by simp, by simp⟩

theorem execRowPulse_linesOk {dt : Nat} (hs : s.LinesOk) (h : execRowPulse dt s = .next t) : t.LinesOk := by
  have hedge : SignalsStay s ((passTime dt s).setTimer (passTime dt s).timer.edge) :=
    ⟨by simp, by simp, by simp, by simp, by simp⟩
  unfold execRowPulse at h
  dsimp only at h
  split at h <;> cases h
  · exact pulseActive_linesOk (hedge.linesOk hs)
  · exact hedge.linesOk hs

/-- A cold start holds RDY and SLW, and clears the monitor and the conditions (R168). -/
theorem afterColdStart_linesOk (number : Nat) (memory : Memory) (sectors : List SectorState) (freeCount : Nat)
    (pending : List Instr) : (State.afterColdStart number memory sectors freeCount pending).LinesOk := by
  simp [State.LinesOk, State.afterColdStart, State.rdyCondition, Thermal.slwCondition, Cond.isIn]

/-- The scan's end takes one state in which RDY is held to another (R154, R25). -/
theorem endScan_linesOk (hs : s.LinesOk) (hstart : s.station = .starting) : (endScan s).LinesOk := by
  have hcond : s.rdyCondition = false ∧ (endScan s).rdyCondition = false := by
    simp [State.rdyCondition, hstart, endScan]
  rw [State.linesOk_iff] at hs ⊢
  rw [hcond.2]
  simpa [hcond.1] using hs

theorem exec_linesOk {c : Instr} (hs : s.LinesOk) (h : exec c s = .next t) : t.LinesOk := by
  cases c
  case coldStart => cases h; exact afterColdStart_linesOk _ _ _ _ _
  case scanComplete =>
    cases h
    split
    · exact endScan_linesOk hs ‹_›
    · exact hs
  case rowPulse => exact execRowPulse_linesOk hs h
  case slwHoldExpiry =>
    cases h
    split
    · exact driveSlw_linesOk hs.1 hs.monitorOk
    · exact hs
  case topOfForm => cases h; exact takeTof_linesOk hs
  case setup =>
    simp only [exec, execSetup] at h
    have hpop : (popCommand s).LinesOk := SignalsStay.linesOk ⟨by simp, by simp, by simp, by simp, by simp⟩ hs
    split at h
    · split at h <;> cases h
      · exact takeSetup_linesOk hpop _
      · exact hpop
    · cases h; exact hs
  case renderComplete =>
    simp only [exec, execRenderComplete] at h
    split at h
    · cases h; exact hs
    · split at h <;> cases h
      · exact endRender_linesOk hs _
      · exact hs
  case conversionComplete => cases h; exact takeReading_linesOk hs _
  all_goals refine SignalsStay.linesOk ?_ hs
  case frameAccepted => cases h; exact acceptFrame_signals _
  case demand => cases h; exact acceptFrame_signals _
  case void => cases h; exact acceptFrame_signals _
  case storeBegin => cases h; exact takeStoreHead_signals _
  case storeData => cases h; exact takeStoreHead_signals _
  case storeEnd => cases h; exact takeStoreHead_signals _
  case storeDelete => cases h; exact takeStoreHead_signals _
  case sectorEraseComplete => exact completeOp_signals h
  case lineProgramComplete => exact completeOp_signals h
  case markProgramComplete => exact completeOp_signals h
  case operationFailed => exact execOperationFailed_signals h
  case storeReadRequest => exact execStoreReadRequest_signals h
  case query => exact execTaken_signals (by simp) h
  case clear => exact execTaken_signals (by simp) h
  case job => exact execTaken_signals (by simp) h
  case cancel => exact execTaken_signals (by simp) h
  case cancelAll => exact execTaken_signals (by simp) h
  case loadComplete => exact execTaken_signals (by simp) h
  case minimumRunComplete => exact execTaken_signals (by simp) h
  case suspendComplete => exact execTaken_signals (by simp) h
  case dataLoadComplete => exact execPlan_signals (by simp) h
  case latchComplete => exact execPlan_signals (by simp) h
  case mainPulseComplete => exact execPlan_signals (by simp) h
  case boostPulseComplete => exact execPlan_signals (by simp) h
  -- what is left belongs to the receiver and the transmitter
  all_goals
    cases h
    exact ⟨by simp, by simp, by simp, by simp, by simp⟩

theorem step_linesOk (hs : s.LinesOk) (h : step s = .next t) : t.LinesOk := by
  unfold step at h
  split at h
  · exact exec_linesOk (s := s.setPending _) (by exact hs) h
  · cases h
    exact SignalsStay.linesOk ⟨by simp, by simp, by simp, by simp, by simp⟩ hs

end Step

/-- Settles O10: every step keeps the lines, and the invariant spells the rules out. -/
theorem stepKeepsLines : Obligations.StepKeepsLines := by
  intro s t hs hstep
  have hlines := step_linesOk hs hstep
  have ⟨hrdy, hslw, hwarm, hhot, hslow⟩ := hlines
  refine ⟨hlines, ?_, ?_, by rw [hwarm], by rw [hhot], by rw [hslow]⟩
  · rw [hrdy, State.rdyCondition_iff, State.exists_ctx_iff t fun c => c.state = .armed]
  · rw [hslw]
    simp [Thermal.slwCondition, or_assoc]

end Sys2Proof.Machine

/-! ### Stale demands, and what a TOF and a row pulse remove (O26) -/

namespace Sys2Proof.Machine

/-! #### The row pulse as a whole -/

theorem exec_rowPulse_active {s : State} (hs : s.station = .active) (dt : Nat) :
    exec (.rowPulse dt) s = .next (afterRow (handRow (cutFlight (pulseBegun dt s)))) := by
  have hact : ((passTime dt s).setTimer (passTime dt s).timer.edge).station = .active := by simp [hs]
  show execRowPulse dt s = _
  rw [execRowPulse]
  simp only [hact, if_true]
  rfl

/-- A row's end moves the VOID queue at most, and of the link what goes with it. -/
theorem endRow_onlyVoids (s : State) (seq : Nat) (trimmed miss short : Bool) :
    s.link.OnlyVoids (endRow s seq trimmed miss short).link := by
  unfold endRow
  split
  · exact .refl _
  · rename_i i _
    cases short
    · simpa using (completeIfEnding_onlyTx (s.setCtx i ((s.ctx i).rowEnded trimmed miss)) i).voids
    · have hvoid := ownVoid_onlyVoids (s.setCtx i ((s.ctx i).rowEnded trimmed miss)) seq .firedShort
      simpa using hvoid.trans (completeIfEnding_onlyTx _ i).voids

theorem cutFlight_onlyVoids (s : State) : s.link.OnlyVoids (cutFlight s).link := by
  unfold cutFlight
  dsimp only
  split
  · exact .refl _
  · rename_i p _
    have hend := endRow_onlyVoids (flightOver s p) p.seq (s.cutTrimmed p) p.miss (s.cutShort p)
    split <;> simpa [endFlight_eq] using hend

theorem takeRow_onlyVoids (s : State) (i : CtxId) : s.link.OnlyVoids (takeRow s i).link := by
  unfold takeRow
  dsimp only
  split
  · simpa using endRow_onlyVoids (recordGap (s.setCtx i (s.ctx i).takeRow)) (s.ctx i).seq false false false
  · split
    · have hvoid := ownVoid_onlyVoids (recordGap (s.setCtx i (s.ctx i).takeRow)) (s.ctx i).seq .lateRow
      simpa [lateRow] using hvoid.trans (endRow_onlyVoids _ (s.ctx i).seq false false false)
    · rename_i x _
      unfold fireRow
      dsimp only
      split
      · simpa using endRow_onlyVoids (recordEmpty (s.setCtx i (s.ctx i).takeRow) x (s.ctx i).seq (s.ctx i).taken)
          (s.ctx i).seq false false false
      · simpa using Link.OnlyVoids.refl s.link

theorem handRow_onlyVoids (s : State) : s.link.OnlyVoids (handRow s).link := by
  unfold handRow
  split
  · split
    · exact takeRow_onlyVoids s _
    · simpa using Link.OnlyVoids.refl s.link
  · simpa using Link.OnlyVoids.refl s.link

theorem Link.OnlyVoids.demand {l m : Link} (h : l.OnlyVoids m) : m.demand = l.demand ∧ m.backlog = l.backlog := by
  rw [h]
  exact ⟨rfl, rfl⟩

/-! #### The test of staleness (R20, R104) -/

section Stale
variable {s t : State} {seq row : Nat}

theorem State.isStale_of_other (h : seq ≠ s.seq.lc) : s.isStale seq row = decide (seq ≠ s.seq.followingSeq) := by
  simp [State.isStale, SeqUnit.runningSeq, h]

theorem State.isStale_of_noLabel (h : seq = s.seq.lc) (hno : ∀ i, ¬((s.ctx i).state = .running ∧ (s.ctx i).seq = seq)) :
    s.isStale seq row = true := by
  have hfind : s.findCtx (fun c => c.isRunning && decide (c.seq = seq)) = none :=
    State.findCtx_eq_none.2 fun j => by simpa [Context.isRunning] using hno j
  simp only [State.isStale, SeqUnit.runningSeq, h, if_true]
  rw [← h, hfind]

theorem State.isStale_of_label {i : CtxId} (h : seq = s.seq.lc) (hi : (s.ctx i).state = .running ∧ (s.ctx i).seq = seq)
    (hother : ¬((s.ctx i.other).state = .running ∧ (s.ctx i.other).seq = seq)) :
    s.isStale seq row = decide (row < (s.ctx i).taken) := by
  have hfind : s.findCtx (fun c => c.isRunning && decide (c.seq = seq)) = some i :=
    State.findCtx_of_unique (by simpa [Context.isRunning] using hi) (by simpa [Context.isRunning] using hother)
  simp only [State.isStale, SeqUnit.runningSeq, h, if_true]
  rw [← h, hfind]

/-- What is stale depends on the sequence unit and on the Running contexts, their seqs and the rows they have
taken. -/
theorem State.isStale_congr (hseq : t.seq = s.seq) (h : ∀ j, ((t.ctx j).state = .running ↔ (s.ctx j).state = .running)
    ∧ ((s.ctx j).state = .running → (t.ctx j).seq = (s.ctx j).seq ∧ (t.ctx j).taken = (s.ctx j).taken))
    (seq row : Nat) : t.isStale seq row = s.isStale seq row := by
  have hfind : t.findCtx (fun c => c.isRunning && decide (c.seq = seq))
      = s.findCtx (fun c => c.isRunning && decide (c.seq = seq)) := by
    refine State.findCtx_congr fun j => ?_
    obtain ⟨hrun, hsame⟩ := h j
    by_cases hj : (s.ctx j).state = .running
    · simp [Context.isRunning, hj, hrun.2 hj, hsame hj]
    · simp [Context.isRunning, hj, hrun]
  unfold State.isStale
  rw [hseq, hfind]
  split
  · split
    · rfl
    · rename_i i hi
      have hrun : (s.ctx i).state = .running := by
        have := State.findCtx_eq_some hi
        simp_all [Context.isRunning]
      rw [((h i).2 hrun).2]
  · rfl

theorem State.isStale_congr_ctx (hseq : t.seq = s.seq) (h : ∀ j, t.ctx j = s.ctx j) (seq row : Nat) :
    t.isStale seq row = s.isStale seq row := State.isStale_congr hseq (fun j => by simp [h j]) seq row

/-- Arming starts no label. -/
theorem settle_isStale (s : State) (seq row : Nat) : (settle s).isStale seq row = s.isStale seq row := by
  refine State.isStale_congr (by simp) (fun j => ?_) seq row
  rw [settle_ctx]
  by_cases hj : (s.ctx j).state = .free
  · rcases arm_ctx_of_free s j with hc | ⟨e, -, -, hc⟩ <;> simp [hc, hj, JobEntry.toContext]
  · simp [arm_ctx_of_not_free hj]

/-! #### The purges (R104, R111) -/

theorem dropStaleRows_of_stale {stale : Nat → Bool} {r : Nat} {ds : List Nat}
    (h : ∀ j, j < ds.length → stale (r + j) = true) : (dropStaleRows stale r ds).2 = [] := by
  induction ds generalizing r with
  | nil => rfl
  | cons d ds ih =>
    rw [dropStaleRows, if_pos (by simpa using h 0 (by simp))]
    exact ih fun j hj => by simpa [Nat.add_assoc, Nat.add_comm 1] using h (j + 1) (by simpa using hj)

/-- The rows are removed from the front, up to the first that is not stale. -/
theorem dropStaleRows_of_fresh {stale : Nat → Bool} {r k : Nat} {ds : List Nat} (hk : k < ds.length)
    (h : ∀ j, j < k → stale (r + j) = true) (hfresh : stale (r + k) = false) :
    dropStaleRows stale r ds = (r + k, ds.drop k) := by
  induction ds generalizing r k with
  | nil => simp at hk
  | cons d ds ih =>
    cases k with
    | zero => simp_all [dropStaleRows]
    | succ k =>
      rw [dropStaleRows, if_pos (by simpa using h 0 (by simp)),
        ih (by simpa using hk) (fun j hj => by simpa [Nat.add_assoc, Nat.add_comm 1] using h (j + 1) (by omega))
          (by simpa [Nat.add_assoc, Nat.add_comm 1] using hfresh)]
      simp [Nat.add_assoc, Nat.add_comm 1]

/-- The peer tables and the backlog without their stale entries, the pending frame as it is. -/
def backlogPurged (s : State) : State :=
  (purgePeers s).setLink { s.link with backlog := s.freshEntries s.link.backlog }

theorem backlogPurged_isStale (s : State) (seq row : Nat) : (backlogPurged s).isStale seq row = s.isStale seq row :=
  State.isStale_congr_ctx (by simp [backlogPurged]) (by simp [backlogPurged]) seq row

theorem purgeStale_eq (s : State) : purgeStale s = match s.link.demand with
    | some f => if f.frozen then backlogPurged s else trimDemand (backlogPurged s)
    | none => backlogPurged s := by
  have hfresh : (purgePeers s).freshEntries = s.freshEntries := by
    funext es
    simp [State.freshEntries, State.isStale_congr_ctx (t := purgePeers s) (s := s) (by simp) (by simp)]
  unfold purgeStale removeStaleDemands
  simp only [hfresh, purgePeers_frame, State.setLink_link]
  rfl

/-- A frozen frame keeps its rows (R106). -/
theorem purgeStale_of_kept (h : s.link.demand = none ∨ ∃ f, s.link.demand = some f ∧ f.frozen = true) :
    purgeStale s = backlogPurged s := by
  rw [purgeStale_eq]
  rcases h with h | ⟨f, h, hf⟩ <;> simp [*]

theorem purgeStale_of_unfrozen {f : DemandFrame} (h : s.link.demand = some f) (hf : f.frozen = false) :
    purgeStale s = trimDemand (backlogPurged s) := by
  rw [purgeStale_eq]
  simp [h, hf]

theorem purgeStale_peers (s : State) : (purgeStale s).peers
    = s.peers.map fun p => { p with entries := s.freshEntries p.entries } := by
  have hpeers : (backlogPurged s).peers = s.peers.map fun p => { p with entries := s.freshEntries p.entries } := by
    simp [backlogPurged, purgePeers]
  rw [purgeStale_eq, ← hpeers]
  split
  · split <;> simp
  · rfl

/-- The pending frame keeps its rows from the first that is not stale. -/
theorem trimDemand_of_row {f : DemandFrame} {k : Nat} (h : s.link.demand = some f) (hk : k < f.demands.length)
    (hstale : ∀ j, j < k → s.isStale f.seq (f.first + j) = true) (hfresh : s.isStale f.seq (f.first + k) = false) :
    trimDemand s = s.setLink { s.link with demand := some { f with first := f.first + k, demands := f.demands.drop k } } := by
  have hdrop := dropStaleRows_of_fresh hk hstale hfresh
  have hne : f.demands.drop k ≠ [] := by simpa using hk
  simp only [trimDemand, h, hdrop, if_neg hne]

theorem trimDemand_of_stale {f : DemandFrame} (h : s.link.demand = some f)
    (hstale : ∀ j, j < f.demands.length → s.isStale f.seq (f.first + j) = true) : trimDemand s = discardDemand s := by
  have hdrop := dropStaleRows_of_stale hstale
  simp only [trimDemand, h, hdrop, if_true]

/-- The frame formed depends on the backlog and on what is stale in it. -/
theorem formDemand_congr (hd : t.link.demand = s.link.demand) (hb : t.link.backlog = s.link.backlog)
    (hs : ∀ seq row, t.isStale seq row = s.isStale seq row) :
    (formDemand t).link.demand = (formDemand s).link.demand
    ∧ (formDemand t).link.backlog = (formDemand s).link.backlog := by
  have hfresh : t.freshEntries t.link.backlog = s.freshEntries s.link.backlog := by
    simp [State.freshEntries, hs, hb]
  unfold formDemand
  rw [hd, hfresh]
  split
  · exact ⟨hd, hb⟩
  · split
    · exact ⟨hd, rfl⟩
    · exact ⟨rfl, rfl⟩

end Stale

/-- A TOF and a row pulse in ACTIVE purge a state `u` whose tables, frame and backlog are those of before, and what is
stale then is stale at the event's end. -/
theorem exec_purges {s : State} {c : Instr} (hs : s.station = .active) (hc : c = .topOfForm ∨ ∃ dt, c = .rowPulse dt) :
    ∃ u t, exec c s = .next t ∧ (u.peers = s.peers ∧ u.link.demand = s.link.demand ∧ u.link.backlog = s.link.backlog)
      ∧ (t.peers = (purgeStale u).peers ∧ t.link.demand = (purgeStale u).link.demand
        ∧ t.link.backlog = (purgeStale u).link.backlog)
      ∧ ∀ seq row, t.isStale seq row = u.isStale seq row := by
  rcases hc with rfl | ⟨dt, rfl⟩
  · by_cases hsync : s.seq.lc = 0 ∧ s.seq.queue = []
    · refine ⟨setCond s .unexpectedTof true, _, ?_, ⟨by simp, by rw [setCond_link], by rw [setCond_link]⟩,
        ⟨rfl, rfl, rfl⟩, State.isStale_congr_ctx (by simp) (by simp)⟩
      show Host.Outcome.next (takeTof s) = _
      rw [takeTof, if_pos hs, if_pos (SeqUnit.unsynchronised_iff.2 hsync)]
    · obtain ⟨hlink, -⟩ := startLabel_parts (endRunning s)
      obtain ⟨hd, hb⟩ := ((endRunning_onlyTx s).voids.trans hlink).demand
      refine ⟨arm (startLabel (endRunning s)), _, exec_topOfForm hs hsync, ⟨by simp, by simpa using hd, by simpa using hb⟩,
        ⟨by simp [afterStart], by simp [afterStart], by simp [afterStart]⟩, ?_⟩
      exact State.isStale_congr_ctx (by simp) (by simp)
  · have hlink : (pulseBegun dt s).link.OnlyVoids (handRow (cutFlight (pulseBegun dt s))).link :=
      (cutFlight_onlyVoids _).trans (handRow_onlyVoids _)
    obtain ⟨hd, hb⟩ := hlink.demand
    rw [pulseBegun_link] at hd hb
    refine ⟨handRow (cutFlight (pulseBegun dt s)), _, exec_rowPulse_active hs dt, ⟨by simp, hd, hb⟩, ?_, fun seq row => ?_⟩
    · have hdrive := (driveSlw_onlyTx (settle (purgeStale (handRow (cutFlight (pulseBegun dt s))))))
      exact ⟨by simp [afterRow], by rw [afterRow, hdrive]; simp, by rw [afterRow, hdrive]; simp⟩
    · let u := handRow (cutFlight (pulseBegun dt s))
      calc (afterRow u).isStale seq row
        _ = (settle (purgeStale u)).isStale seq row :=
          State.isStale_congr_ctx (by simp [afterRow]) (by simp [afterRow]) seq row
        _ = (purgeStale u).isStale seq row := settle_isStale _ seq row
        _ = u.isStale seq row := State.isStale_congr_ctx (by simp) (by simp) seq row

/-- Settles O26: the cases of the test, and the purge that both events make. -/
theorem staleRemoved : Obligations.StaleRemoved := by
  refine ⟨?_, fun s c hs hc => ?_⟩
  · intro s seq row next runs
    refine ⟨fun hlc hnext => ?_, fun hlc hnext => ?_, State.isStale_of_noLabel, fun i => State.isStale_of_label⟩
    · rw [State.isStale_of_other hlc]
      exact decide_eq_true hnext
    · rw [State.isStale_of_other hlc]
      exact decide_eq_false (not_not.2 hnext)
  · obtain ⟨u, t, ht, ⟨hpeers, hdemand, hback⟩, ⟨hpeers', hdemand', hback'⟩, hstale⟩ := exec_purges hs hc
    have hfresh : (fun es => List.filter (fun (e : DemandEntry) => !t.isStale e.seq e.row) es) = u.freshEntries := by
      funext es
      simp [State.freshEntries, hstale]
    have hstale' : ∀ seq row, (backlogPurged u).isStale seq row = t.isStale seq row := fun seq row => by
      rw [backlogPurged_isStale, hstale]
    refine ⟨t, ht, ?_⟩
    simp only [hfresh]
    refine ⟨by rw [hpeers', purgeStale_peers, hpeers], fun hkept => ?_, fun f hf hfrozen => ⟨fun k hk hbefore hrow => ?_,
      fun hall => ?_⟩⟩
    · rw [hdemand', hback', purgeStale_of_kept (by rwa [hdemand])]
      exact ⟨hdemand, by simp [backlogPurged, hback]⟩
    · have htrim := trimDemand_of_row (s := backlogPurged u) (by simp [backlogPurged, hdemand, hf]) hk
        (by simpa only [hstale'] using hbefore) (by rw [hstale', hrow])
      rw [hdemand', hback', purgeStale_of_unfrozen (by rw [hdemand, hf]) hfrozen, htrim]
      exact ⟨rfl, by simp [backlogPurged, hback]⟩
    · have htrim := trimDemand_of_stale (s := backlogPurged u) (f := f) (by simp [backlogPurged, hdemand, hf])
        (by simpa only [hstale'] using hall)
      rw [hdemand', hback', purgeStale_of_unfrozen (by rw [hdemand, hf]) hfrozen, htrim]
      exact formDemand_congr (by simp) (by simp [backlogPurged, hback]) fun seq row => by
        rw [State.isStale_congr_ctx (s := backlogPurged u) (by simp) (by simp), hstale']
        exact (State.isStale_congr_ctx rfl (fun j => by cases j <;> rfl) seq row).symm

end Sys2Proof.Machine

/-! ### A completed render (O43) -/

namespace Sys2Proof.Machine

@[simp] theorem Store.releaseRaster_frame (st : Store) : st.releaseRaster.memory = st.memory
    ∧ st.releaseRaster.catalog = st.catalog ∧ st.releaseRaster.sectors = st.sectors
    ∧ st.releaseRaster.write = st.write ∧ st.releaseRaster.holdRaster = false
    ∧ st.releaseRaster.holdLoader = st.holdLoader := by
  unfold Store.releaseRaster
  split <;> simp_all

/-! #### The parts of a row that is kept (R23, R61, R63, R103) -/

section Kept
variable {s t : State}

theorem formDemand_link_congr (hl : t.link = s.link) (hs : ∀ seq row, t.isStale seq row = s.isStale seq row) :
    (formDemand t).link = (formDemand s).link := by
  have hfresh : t.freshEntries = s.freshEntries := by
    funext es
    simp [State.freshEntries, hs]
  unfold formDemand
  rw [hl, hfresh]
  split
  · exact hl
  · split <;> simp

theorem appendBacklog_link_congr (hl : t.link = s.link) (e : DemandEntry) :
    (appendBacklog t e).link = (appendBacklog s e).link := by
  unfold appendBacklog
  rw [hl]
  split
  · simp
  · exact hl

/-- What the hand-over of a demand does to the link depends on the link and on what is stale. -/
theorem handDemand_link_congr (hl : t.link = s.link) (hs : ∀ seq row, t.isStale seq row = s.isStale seq row)
    (e : DemandEntry) : (handDemand t e).link = (handDemand s e).link := by
  have hback : ∀ (u : State) seq row, (appendBacklog u e).isStale seq row = u.isStale seq row := fun u seq row =>
    State.isStale_congr_ctx (by simp) (by simp) seq row
  unfold handDemand
  rw [hl]
  split
  · split
    · simp
    · exact formDemand_link_congr (appendBacklog_link_congr hl e) fun seq row => by rw [hback, hback, hs]
  · split
    · simp
    · exact appendBacklog_link_congr hl e

/-- The position moves to the row, or leaves the label beyond its last row to render (R61). -/
theorem movePosition_raster (s : State) (i : CtxId) (row : Nat) : (movePosition s i row).raster
    = if row ≤ (s.ctx i).lastToRender then { s.raster with position := some ⟨i, row⟩ }
      else { rendering := s.raster.rendering, pending := [], active := [],
             position := if (s.ctx i.other).isNext then some ⟨i.other, 0⟩ else none } := by
  unfold movePosition
  split
  · rfl
  · simp [leaveLabel, setPosition]

theorem armIfReady_ctx (s : State) (i j : CtxId) : (armIfReady s i).ctx j = if j = i then { s.ctx i with
    state := if (s.ctx i).state = .loading ∧ s.loadingCtx i = false ∧ (s.ctx i).armingCount ≤ (s.ctx i).rendered
      then .armed else (s.ctx i).state } else s.ctx j := by
  unfold armIfReady
  dsimp only
  split
  · rw [State.setCtx_ctx]
  · split
    · rename_i hj
      rw [hj]
    · rfl

/-- The loader's context depends on the loader alone. -/
theorem State.loadingCtx_congr (h : t.loader = s.loader) (i : CtxId) : t.loadingCtx i = s.loadingCtx i := by
  rw [State.loadingCtx, State.loadingCtx, h]

/-- The kept row's label has one more row rendered, and its slot its image (R63). -/
def rowRendered (s : State) (r : Render) (image : Dots) : State :=
  (s.setRing (s.ring.keepRender image)).setCtx r.ctx { s.ctx r.ctx with rendered := (s.ctx r.ctx).rendered + 1 }

theorem rowRendered_ctx (s : State) (r : Render) (image : Dots) (j : CtxId) : (rowRendered s r image).ctx j
    = if j = r.ctx then { s.ctx r.ctx with rendered := (s.ctx r.ctx).rendered + 1 } else s.ctx j := by
  rw [rowRendered, State.setCtx_ctx, State.setRing_ctx]

@[simp] theorem rowRendered_frame (s : State) (r : Render) (image : Dots) :
    (rowRendered s r image).seq = s.seq ∧ (rowRendered s r image).loader = s.loader
    ∧ (rowRendered s r image).raster = s.raster ∧ (rowRendered s r image).ring = s.ring.keepRender image
    ∧ (rowRendered s r image).link = s.link ∧ (rowRendered s r image).store = s.store := by
  simp [rowRendered]

/-- A rendered row makes nothing stale. -/
theorem rowRendered_isStale (s : State) (r : Render) (image : Dots) (seq row : Nat) :
    (rowRendered s r image).isStale seq row = s.isStale seq row := by
  refine State.isStale_congr (by simp) (fun j => ?_) seq row
  rw [rowRendered_ctx]
  split
  · rename_i hj
    simp [hj]
  · simp

/-- The demand that a kept row hands on: 0 of a marked label (R103). -/
def State.handedDemand (s : State) (r : Render) : DemandEntry :=
  { seq := r.seq, row := r.row, demand := if (s.ctx r.ctx).marked then 0 else Dots.count (s.renderImage r) }

theorem keepRender_eq (s : State) (r : Render) :
    let v := handDemand (rowRendered s r (s.renderImage r)) (s.handedDemand r)
    keepRender s r = armIfReady (if v.raster.position = some ⟨r.ctx, r.row⟩ then movePosition v r.ctx (r.row + 1) else v)
      r.ctx := rfl

theorem keepRender_link (s : State) (r : Render) : (keepRender s r).link = (handDemand s (s.handedDemand r)).link := by
  have hhand := handDemand_link_congr (t := rowRendered s r (s.renderImage r)) (s := s) (by simp)
    (rowRendered_isStale s r _) (s.handedDemand r)
  rw [keepRender_eq, ← hhand]
  split <;> simp

theorem keepRender_ring (s : State) (r : Render) : (keepRender s r).ring = s.ring.keepRender (s.renderImage r) := by
  rw [keepRender_eq]
  split <;> simp

theorem keepRender_ctx (s : State) (r : Render) : (keepRender s r).ctx r.ctx = { s.ctx r.ctx with
    rendered := (s.ctx r.ctx).rendered + 1,
    state := if (s.ctx r.ctx).state = .loading ∧ s.loadingCtx r.ctx = false
        ∧ (s.ctx r.ctx).armingCount ≤ (s.ctx r.ctx).rendered + 1 then .armed else (s.ctx r.ctx).state } := by
  have hload := State.loadingCtx_congr (t := rowRendered s r (s.renderImage r)) (s := s) (by simp) r.ctx
  rw [keepRender_eq, armIfReady_ctx, if_pos rfl, ← hload]
  split <;> simp [rowRendered_ctx, State.loadingCtx, Context.armingCount]

theorem keepRender_ctx_other (s : State) (r : Render) : (keepRender s r).ctx r.ctx.other = s.ctx r.ctx.other := by
  rw [keepRender_eq, armIfReady_ctx, if_neg (CtxId.other_ne _)]
  split <;> simp [rowRendered_ctx]

theorem keepRender_raster (s : State) (r : Render) : (keepRender s r).raster
    = if s.raster.position = some ⟨r.ctx, r.row⟩ then
        if r.row + 1 ≤ (s.ctx r.ctx).lastToRender then { s.raster with position := some ⟨r.ctx, r.row + 1⟩ }
        else { rendering := s.raster.rendering, pending := [], active := [],
               position := if (s.ctx r.ctx.other).isNext then some ⟨r.ctx.other, 0⟩ else none }
      else s.raster := by
  rw [keepRender_eq]
  simp only [handDemand_frame, rowRendered_frame, armIfReady_frame]
  split
  · simp [movePosition_raster, rowRendered_ctx, Context.lastToRender]
  · simp

end Kept

/-! #### The end of a render -/

/-- A render that reads the store is done when its hold stands with no read waiting (R73). -/
theorem State.renderRead_iff {s : State} {r : Render} : s.renderRead r = true ↔
    (r.reads = true → s.store.holdRaster = true ∧ s.store.waitRaster = false) := by
  cases hr : r.reads <;> simp [State.renderRead, hr]

theorem exec_renderComplete {s : State} {r : Render} (h : s.raster.rendering = some r) : exec .renderComplete s
    = .next (if s.renderRead r then advanceRaster (driveRdy (endRender s r)) else s) := by
  simp only [exec, execRenderComplete, h]
  split <;> rfl

/-- The row is kept while its label is not yet running, or has not passed it (R62). -/
theorem State.keepsRender_iff {s : State} {r : Render} : s.keepsRender r = true ↔ (s.ctx r.ctx).seq = r.seq
    ∧ ((s.ctx r.ctx).state = .loading ∨ (s.ctx r.ctx).state = .armed
      ∨ ((s.ctx r.ctx).state = .running ∧ (s.ctx r.ctx).taken ≤ r.row)) := by
  simp [State.keepsRender, Context.isNext, Context.isRunning, or_assoc]

theorem State.keepsRender_eq_false {s : State} {r : Render} (h : (s.ctx r.ctx).seq ≠ r.seq ∨ (s.ctx r.ctx).state = .free
    ∨ (s.ctx r.ctx).state = .ending ∨ ((s.ctx r.ctx).state = .running ∧ r.row < (s.ctx r.ctx).taken)) :
    s.keepsRender r = false := by
  rw [← Bool.not_eq_true, State.keepsRender_iff]
  rintro ⟨hseq, hstate⟩
  rcases h with h | h | h | ⟨h, hrow⟩
  · exact h hseq
  · simp [h] at hstate
  · simp [h] at hstate
  · simp [h] at hstate
    omega

/-- The rasterizer is no longer rendering. -/
def renderOver (s : State) : State := s.setRaster { s.raster with rendering := none }

@[simp] theorem renderOver_ctx (s : State) (j : CtxId) : (renderOver s).ctx j = s.ctx j := by simp [renderOver]

theorem endRender_of_kept {s : State} {r : Render} (h : s.keepsRender r = true) :
    endRender s r = (keepRender (renderOver s) r).setStore s.store.releaseRaster := by
  have hk : (renderOver s).keepsRender r = true := h
  unfold endRender
  dsimp only
  rw [if_pos (by exact hk)]
  simp [renderOver]

theorem endRender_of_dropped {s : State} {r : Render} (h : s.keepsRender r = false) :
    endRender s r = ((renderOver s).setRing s.ring.dropRender).setStore s.store.releaseRaster := by
  have hk : ¬(renderOver s).keepsRender r = true := fun hk => Bool.false_ne_true (h.symm.trans hk)
  unfold endRender
  dsimp only
  rw [if_neg (by exact hk)]
  simp [renderOver]

/-- Settles O43: the render waits for its reads, and its row is kept or dropped. -/
theorem renderCompletes : Obligations.RenderCompletes := by
  intro s r hr c isRead image
  refine ⟨fun hwait => ?_, fun hread hseq hstate => ?_, fun hread hgone => ?_⟩
  · rw [exec_renderComplete hr, if_neg (mt State.renderRead_iff.1 hwait)]
  · have hkeep : s.keepsRender r = true := State.keepsRender_iff.2 ⟨hseq, hstate⟩
    let k := keepRender (renderOver s) r
    have hend : endRender s r = k.setStore s.store.releaseRaster := endRender_of_kept hkeep
    have hctx : k.ctx r.ctx = _ := keepRender_ctx (renderOver s) r
    have hother : k.ctx r.ctx.other = _ := keepRender_ctx_other (renderOver s) r
    have hring : k.ring = _ := keepRender_ring (renderOver s) r
    have hraster : k.raster = _ := keepRender_raster (renderOver s) r
    have hdemand : (renderOver s).handedDemand r = s.handedDemand r := rfl
    have hlink : k.link = (handDemand s (s.handedDemand r)).link := by
      rw [← hdemand]
      exact (keepRender_link (renderOver s) r).trans
        (handDemand_link_congr (t := renderOver s) (s := s) rfl (State.isStale_congr_ctx rfl (renderOver_ctx s)) _)
    refine ⟨driveRdy (endRender s r), by rw [exec_renderComplete hr, if_pos (State.renderRead_iff.2 hread)], ?_, ?_, ?_, ?_,
      ?_, ?_, ?_, ?_⟩
    · rw [driveRdy_ctx, hend, State.setStore_ctx, hctx]
      rfl
    · rw [driveRdy_ctx, hend, State.setStore_ctx, hother, renderOver_ctx]
    · rw [hend]
      exact hring
    · rw [hend]
      exact hlink
    · rw [hend]
      exact hraster
    · simp
    · simp [hend]
    · apply State.ext
      case store => exact Store.ext_kept (by simp [hend]) (by simp [hend]) (by simp [hend]) (by simp [hend])
      all_goals simp
  · have hend := endRender_of_dropped (State.keepsRender_eq_false hgone)
    refine ⟨driveRdy (endRender s r), by rw [exec_renderComplete hr, if_pos (State.renderRead_iff.2 hread)], ?_, ?_⟩
    · simp [hend]
    · rw [hend]
      apply State.ext
      case ring => simp [Ring.dropRender]
      case store => exact Store.ext_kept (by simp) (by simp) (by simp) (by simp)
      case lines =>
        simp only [driveRdy_lines]
        rfl
      all_goals simp [renderOver]

end Sys2Proof.Machine

/-! ### The timing of a row pulse, and the pulse with no row (O44) -/

namespace Sys2Proof.Machine

/-! #### The row timer and the quiet count (R118, R136) -/

/-- The edge takes the count with the time that has passed into T_pred, and starts it anew (log 1, log 25). -/
theorem passTime_timer_edge (dt : Nat) (s : State) : (passTime dt s).timer.edge = {
    tPred := if s.timer.seen then max 1 (min 65535 (s.timer.elapsed + dt)) else s.timer.tPred,
    elapsed := 0, seen := true } := by
  have htimer : (passTime dt s).timer = s.timer.advance dt := by
    unfold passTime
    dsimp only
    split <;> simp
  rw [htimer]
  cases hseen : s.timer.seen <;> simp [RowTimer.edge, RowTimer.advance, hseen]

theorem passTime_quiet (dt : Nat) (s : State) : (passTime dt s).link.quiet
    = if s.link.tx.state = .sending ∨ s.link.tx.state = .jamming ∨ s.link.receiver = .receiving then s.link.quiet
      else if s.link.quiet < 16 ∧ s.link.held = false then min 15 (s.link.quiet + 2 * dt)
      else min 24 (s.link.quiet + 2 * dt) := by
  have hdrives : (s.link.tx.state.drives || decide (s.link.receiver = .receiving)) = true
      ↔ s.link.tx.state = .sending ∨ s.link.tx.state = .jamming ∨ s.link.receiver = .receiving := by
    cases s.link.tx.state <;> simp [TxState.drives]
  unfold passTime
  dsimp only
  split
  · rename_i hd
    rw [if_pos (hdrives.1 hd)]
    rfl
  · rename_i hd
    rw [if_neg (mt hdrives.2 hd)]
    rfl

theorem passTime_link (dt : Nat) (s : State) : (passTime dt s).link = { s.link with quiet := (passTime dt s).link.quiet } := by
  simpa [pulseBegun] using pulseBegun_link dt s

/-- Outside ACTIVE the pulse is timed and nothing more. -/
theorem exec_rowPulse_inactive {s : State} (hs : s.station ≠ .active) (dt : Nat) :
    exec (.rowPulse dt) s = .next ((passTime dt s).setTimer (passTime dt s).timer.edge) := by
  have hact : ((passTime dt s).setTimer (passTime dt s).timer.edge).station ≠ .active := by simpa using hs
  show execRowPulse dt s = _
  rw [execRowPulse]
  simp only [hact, if_false]

/-! #### What the row of a pulse and what follows it leave of the timing -/

@[simp] theorem afterRow_timer (s : State) : (afterRow s).timer = s.timer := by simp [afterRow]

theorem Link.OnlyVoids.quiet {l m : Link} (h : l.OnlyVoids m) : m.quiet = l.quiet := by rw [h]
theorem Link.OnlyDemand.quiet {l m : Link} (h : l.OnlyDemand m) : m.quiet = l.quiet := by rw [h]

theorem rowPulse_timer (dt : Nat) (s : State) :
    (afterRow (handRow (cutFlight (pulseBegun dt s)))).timer = (passTime dt s).timer.edge := by
  simp [pulseBegun]

theorem rowPulse_quiet (dt : Nat) (s : State) :
    (afterRow (handRow (cutFlight (pulseBegun dt s)))).link.quiet = (passTime dt s).link.quiet := by
  rw [(afterRow_onlyDemand _).quiet, (handRow_onlyVoids _).quiet, (cutFlight_onlyVoids _).quiet]
  simp [pulseBegun]

/-! #### The pulse with no row to take (R30, R59) -/

theorem cutFlight_of_none {s : State} (h : s.plan = none) : cutFlight s = s := by simp [cutFlight, h]

theorem handRow_of_noRow {s : State} (h : ∀ i, s.runningCtx = some i → (s.ctx i).rowLimit ≤ (s.ctx i).taken) :
    handRow s = recordGap s := by
  unfold handRow
  split
  · rename_i i hi
    rw [if_neg (Nat.not_lt.2 (h i hi))]
  · rfl

theorem pulseBegun_runningCtx (dt : Nat) (s : State) : (pulseBegun dt s).runningCtx = s.runningCtx :=
  State.findCtx_congr fun j => by rw [pulseBegun_ctx]

theorem rowPulse_of_noRow {s : State} {dt : Nat} (hp : s.plan = none)
    (h : ∀ i, s.runningCtx = some i → (s.ctx i).rowLimit ≤ (s.ctx i).taken) :
    handRow (cutFlight (pulseBegun dt s)) = recordGap (pulseBegun dt s) := by
  rw [cutFlight_of_none (by simpa using hp), handRow_of_noRow]
  simpa [pulseBegun_runningCtx] using h

/-- Settles O44: the timing in every state, and the gap record in ACTIVE. -/
theorem rowPulseTimesAndGaps : Obligations.RowPulseTimesAndGaps := by
  intro dt s
  by_cases hs : s.station = .active
  · refine ⟨_, exec_rowPulse_active hs dt, by rw [rowPulse_timer, passTime_timer_edge],
      by rw [rowPulse_quiet, passTime_quiet], fun hno => absurd hs hno, fun _ hp hrow => ?_⟩
    rw [rowPulse_of_noRow hp hrow]
    have hlink : (pulseBegun dt s).link.OnlyDemand (afterRow (recordGap (pulseBegun dt s))).link := by
      simpa using afterRow_onlyDemand (recordGap (pulseBegun dt s))
    refine ⟨by simp [recordGap, Ring.pushHistory], rfl, rfl, by simp, ?_, by simp, fun i hi => ?_⟩
    · apply State.ext
      case link => rw [hlink, pulseBegun_link dt s]
      case ring => apply Ring.ext <;> simp [afterRow, recordGap, Ring.pushHistory]
      all_goals simp
    · rw [afterRow_ctx_of_not_free (by simpa using hi)]
      simp
  · refine ⟨_, exec_rowPulse_inactive hs dt, by rw [State.setTimer_timer, passTime_timer_edge],
      by rw [State.setTimer_link, passTime_quiet], fun _ => ?_, fun hact => absurd hact hs⟩
    apply State.ext
    case link => exact passTime_link dt s
    all_goals simp

end Sys2Proof.Machine

/-! ### The last pulse of a row (O49) -/

namespace Sys2Proof.Machine

/-! #### The pulse that ends a row (R126, R128) -/

/-- After the last boost of the last phase no pulse follows. -/
theorem Plan.nextPulse_eq_none {p : Plan} (hphase : p.phases.length ≤ p.step.phase + 1)
    (hboost : ∀ ph, p.phases[p.step.phase]? = some ph → ph.boosts.length ≤ (p.step.boost.map fun k => k + 1).getD 0) :
    p.nextPulse p.step = none := by
  unfold Plan.nextPulse
  dsimp only
  split
  · rfl
  · rename_i ph hph
    have hlast := hboost ph hph
    rw [if_neg, if_neg (by omega)]
    cases hb : p.step.boost <;> simp [hb] at hlast ⊢ <;> omega

theorem afterPulse_of_last {s : State} {p : Plan} (h : p.stopping = true ∨ p.nextPulse p.step = none) :
    afterPulse s p = settle (endFlight s p (decide (1 ≤ p.trim)) false) := by
  unfold afterPulse
  split
  · rename_i hstop hnext
    rcases h with h | h
    · simp [hstop] at h
    · simp [hnext] at h
  · rfl

/-- A completed pulse: the dots of a main pulse enter the fired map, a boost adds none. -/
theorem exec_pulseComplete {s : State} {p : Plan} {c : Instr} {fired : Dots} (hp : s.plan = some p)
    (hstage : p.step.stage = .strobe)
    (hc : (p.step.boost = none ∧ c = .mainPulseComplete
        ∧ fired = p.fired ||| ((p.phases[p.step.phase]?).map Phase.main).getD 0)
      ∨ (p.step.boost ≠ none ∧ c = .boostPulseComplete ∧ fired = p.fired)) :
    exec c s = .next (afterPulse s { p with fired := fired }) := by
  rcases hc with ⟨hboost, rfl, rfl⟩ | ⟨hboost, rfl, rfl⟩
  · have hdata : p.dataOf p.step = ((p.phases[p.step.phase]?).map Phase.main).getD 0 := by
      unfold Plan.dataOf
      rw [hboost]
      cases p.phases[p.step.phase]? <;> rfl
    simp [exec, execMainPulseComplete, hp, hstage, hboost, hdata]
  · simp [exec, execBoostPulseComplete, hp, hstage, Option.isSome_iff_ne_none.2 hboost]

/-! #### The row's end, told of its label (R32, R34) -/

/-- The row in flight `p` has left the firing unit, and its findings are on the label of context `i`. -/
def rowOver (s : State) (p : Plan) (i : CtxId) (c : Context) : State := (flightOver s p).setCtx i c

@[simp] theorem rowOver_frame (s : State) (p : Plan) (i : CtxId) (c : Context) :
    (rowOver s p i c).station = s.station ∧ (rowOver s p i c).number = s.number ∧ (rowOver s p i c).setup = s.setup
    ∧ (rowOver s p i c).seq = s.seq ∧ (rowOver s p i c).loader = s.loader ∧ (rowOver s p i c).raster = s.raster
    ∧ (rowOver s p i c).timer = s.timer ∧ (rowOver s p i c).plan = none ∧ (rowOver s p i c).head = HeadLines.idle
    ∧ (rowOver s p i c).thermal = s.thermal ∧ (rowOver s p i c).lines = s.lines ∧ (rowOver s p i c).link = s.link
    ∧ (rowOver s p i c).peers = s.peers ∧ (rowOver s p i c).store = s.store ∧ (rowOver s p i c).report = s.report
    ∧ (rowOver s p i c).freeCount = s.freeCount ∧ (rowOver s p i c).pending = s.pending := by
  simp [rowOver, flightOver]

theorem rowOver_ctx (s : State) (p : Plan) (i : CtxId) (c : Context) (j : CtxId) :
    (rowOver s p i c).ctx j = if j = i then c else s.ctx j := by
  rw [rowOver, State.setCtx_ctx, flightOver_ctx]

/-- The slot has left Firing for History, with the plan's fired map. -/
theorem rowOver_ring {s : State} {x : Slot} (h : s.ring.firing = some x) (p : Plan) (i : CtxId) (c : Context) :
    (rowOver s p i c).ring = { s.ring with
      firing := none,
      history := (s.ring.history ++ [{ x with state := .history, fired := p.fired }]).drop (s.ring.history.length - 1) } := by
  simp [rowOver, flightOver, h, Ring.pushHistory_eq, Slot.toHistory]

/-- A row's end without the finding short: the findings on the label, which completes when the row was its last. -/
theorem endFlight_unshort {s : State} {p : Plan} {i : CtxId} (h : s.runningLabelCtx p.seq = some i) (trimmed : Bool) :
    endFlight s p trimmed false = completeIfEnding (rowOver s p i ((s.ctx i).rowEnded trimmed p.miss)) i := by
  rw [endFlight_eq, endRow_of_running (by rw [flightOver_runningLabelCtx, h]), flightOver_ctx]
  rfl

theorem arm_of_inactive {s : State} (h : s.station ≠ .active) : arm s = s := by
  unfold arm
  split
  · exact if_neg fun ha => h ha.1
  · rfl

/-- Settles O49: the row ends with the plan's findings, and its label goes on or completes. -/
theorem pulseEndsRow : Obligations.PulseEndsRow := by
  intro s p i x c fired hp hstage hlast hlabel hx hc ended
  let q : Plan := { p with fired := fired }
  let v := rowOver s q i ended
  let u := completeIfEnding v i
  have hend : q.stopping = true ∨ q.nextPulse q.step = none :=
    hlast.imp id fun ⟨hphase, hboost⟩ => Plan.nextPulse_eq_none (p := q) hphase hboost
  have ht : exec c s = .next (settle u) := by
    rw [exec_pulseComplete hp hstage hc, afterPulse_of_last hend, endFlight_unshort (p := q) hlabel, rowEnded_eq]
  have hvi : v.ctx i = ended := by simp [v, rowOver_ctx]
  have hvring : v.ring = _ := rowOver_ring hx q i ended
  have huring : u.ring = v.ring := by simp [u]
  have hulink : s.link.OnlyTx u.link := by simpa [u, v] using completeIfEnding_onlyTx v i
  refine ⟨settle u, ht, by simp [u, v], by simp [u, v, HeadLines.idle], by simp [huring, hvring],
    by simp [huring, hvring, q], fun hrun hrows => ?_, fun hending => ?_, ?_⟩
  · have hu : u = v := completeIfEnding_of_not_endsNow (by rw [hvi]; exact Context.endsNow_of_running hrun hrows)
    rw [hu, settle_ctx, arm_ctx_of_not_free (by rw [hvi]; simp [ended, hrun])]
    exact ⟨hvi, by simp [v], by simp [v]⟩
  · have hu : u = completeLabel v i := completeIfEnding_of_endsNow (by rw [hvi]; exact Context.endsNow_of_ending hending)
    have hctx : ∀ j, u.ctx j = (s.setCtx i Context.free).ctx j := fun j => by
      rw [hu, completeLabel_ctx, State.setCtx_ctx]
      split
      · rfl
      · simp [v, rowOver_ctx, *]
    refine ⟨?_, fun hno => ?_, fun hact => ?_⟩
    · rw [← hvi, hu]
      exact (completeLabel_placed v i).mono (by simp [v]) (by simp) (.of_report (by simp))
    · have harm : arm u = u := hno.elim (fun hq => arm_of_empty (by simpa [u, v] using hq))
        fun hs => arm_of_inactive (by simpa [u, v] using hs)
      rw [settle_ctx, harm, hctx, State.setCtx_ctx_self]
    · have harms := settle_armsHead (s := u) (by simpa [u, v] using hact)
      rw [show u.seq.queue = s.seq.queue by simp [u, v]] at harms
      exact harms.congr (hctx .a).symm (hctx .b).symm (by simp [u, v]) rfl rfl rfl
  · apply State.ext
    case link => simpa [Link.OnlyTx] using hulink
    all_goals simp [u, v]

end Sys2Proof.Machine

/-! ### Readings, Hot and SLW (O50) -/

namespace Sys2Proof.Machine

/-! #### A change of a condition sets its latch (R134, R173) -/

/-- From `s` to `t` no latch and no pending slot is lost, and a condition that changes sets its latch, and the slot
when the mask has it. -/
structure ChangesLatched (s t : State) : Prop where
  setup   : t.setup = s.setup
  latches : ∀ c : Cond, c.isIn s.report.latches = true → c.isIn t.report.latches = true
  pending : s.report.pending = true → t.report.pending = true
  changed : ∀ c : Cond, c.isIn t.report.values ≠ c.isIn s.report.values →
    c.isIn t.report.latches = true ∧ (c.isIn s.setup.mask = true → t.report.pending = true)

section Latched
variable {s t u : State}

theorem ChangesLatched.of_report (hr : t.report = s.report) (hs : t.setup = s.setup) : ChangesLatched s t where
  setup := hs
  latches c h := by rwa [hr]
  pending h := by rwa [hr]
  changed c h := absurd (by rw [hr]) h

theorem ChangesLatched.trans (h : ChangesLatched s u) (h' : ChangesLatched u t) : ChangesLatched s t where
  setup := h'.setup.trans h.setup
  latches c hc := h'.latches c (h.latches c hc)
  pending hp := h'.pending (h.pending hp)
  changed c hc := by
    by_cases hcu : c.isIn u.report.values = c.isIn s.report.values
    · obtain ⟨hlatch, hpend⟩ := h'.changed c (by rwa [hcu])
      exact ⟨hlatch, by rwa [h.setup] at hpend⟩
    · obtain ⟨hlatch, hpend⟩ := h.changed c hcu
      exact ⟨h'.latches c hlatch, fun hm => h'.pending (hpend hm)⟩

/-- A change of neither report nor mask may come first. -/
theorem ChangesLatched.after (h : ChangesLatched u t) (hr : u.report = s.report) (hs : u.setup = s.setup) :
    ChangesLatched s t := .trans (.of_report hr hs) h

@[simp] theorem Cond.isIn_or_bit (m : CondSet) (c d : Cond) :
    c.isIn (m ||| d.bit) = (c.isIn m || decide (c = d)) := by
  cases c <;> cases d <;> simp [Cond.isIn, Cond.bit, Cond.index]

theorem setCond_changesLatched (s : State) (c : Cond) (v : Bool) : ChangesLatched s (setCond s c v) where
  setup := by simp
  latches d hd := by
    rw [setCond_latches]
    split <;> simp [hd]
  pending hp := by simp [setCond_pending, hp]
  changed d hd := by
    by_cases hdc : d = c
    · subst hdc
      have hne : d.isIn s.report.values ≠ v := fun h => hd (by simp [h])
      exact ⟨by simp [setCond_latches, hne], fun hm => by simp [setCond_pending, hm, hne]⟩
    · exact absurd (setCond_isIn_other _ _ _ _ hdc) hd

theorem pushVoid_changesLatched (s : State) (f : VoidFrame) : ChangesLatched s (pushVoid s f) := by
  unfold pushVoid
  split
  · exact .of_report rfl rfl
  · rw [countDropped_eq]
    exact .after (setCond_changesLatched _ .framesDropped true) rfl rfl

theorem pushRecord_changesLatched (s : State) (r : Record) : ChangesLatched s (pushRecord s r) := by
  unfold pushRecord
  split
  · exact ⟨rfl, fun _ => id, id, fun _ h => absurd rfl h⟩
  · exact setCond_changesLatched s .reportsDropped true

theorem ownVoid_changesLatched (s : State) (seq : Nat) (reason : Reason) :
    ChangesLatched s (ownVoid s seq reason) := by
  unfold ownVoid
  split
  · exact .of_report rfl rfl
  · exact .after (pushVoid_changesLatched _ _) (by simp) (by simp)

theorem completeIfEnding_changesLatched (s : State) (i : CtxId) : ChangesLatched s (completeIfEnding s i) := by
  unfold completeIfEnding
  split
  · have hset : ChangesLatched s (s.setCtx i Context.free) := .of_report (by simp) (by simp)
    exact (hset.trans (pushRecord_changesLatched _ (.label (s.ctx i).record))).trans
      (.of_report (by simp [completeLabel]) (by simp [completeLabel]))
  · exact .of_report rfl rfl

theorem stopRow_changesLatched (s : State) : ChangesLatched s (stopRow s) := by
  have hend : ∀ (u : State) seq trimmed miss, ChangesLatched u (endRow u seq trimmed miss false) :=
    fun u seq trimmed miss => by
      cases h : u.runningLabelCtx seq with
      | none => rw [endRow_of_none h]; exact .of_report rfl rfl
      | some i =>
        rw [endRow_of_running h]
        exact .after (completeIfEnding_changesLatched _ i) (by simp) (by simp)
  unfold stopRow
  split
  · exact .of_report rfl rfl
  · split
    · exact .of_report rfl rfl
    · rename_i p _ _
      rw [endFlight_eq]
      exact .after (hend (flightOver s p) _ _ _) rfl rfl

theorem setWarm_changesLatched (s : State) (v : Bool) : ChangesLatched s (setWarm s v) := by
  unfold setWarm
  exact .after (setCond_changesLatched _ .warm v) rfl rfl

theorem setHot_changesLatched (s : State) (v : Bool) : ChangesLatched s (setHot s v) := by
  unfold setHot
  exact .after (setCond_changesLatched _ .hot v) rfl rfl

theorem driveLines_changesLatched (s : State) : ChangesLatched s (driveLines s) := by
  unfold driveLines driveSlw
  exact .after (setCond_changesLatched _ .slow _) rfl rfl

end Latched

/-! #### A label that its own cause voids, and the others (R11, R12) -/

section OwnVoids
variable {s : State} {seq : Nat}

theorem ownVoid_shape (s : State) (seq : Nat) (reason : Reason) (j : CtxId) :
    ((ownVoid s seq reason).ctx j).state = (s.ctx j).state ∧ ((ownVoid s seq reason).ctx j).seq = (s.ctx j).seq := by
  rcases hv : s.labelVoided seq with _ | _
  · rw [ownVoid_ctx hv]
    split <;> simp
  · simp [ownVoid_of_voided hv]

theorem ownVoid_holds (s : State) (seq : Nat) (reason : Reason) (j : CtxId) (q : Nat) :
    ((ownVoid s seq reason).ctx j).holds q = (s.ctx j).holds q := by
  obtain ⟨hstate, hseq⟩ := ownVoid_shape s seq reason j
  simp [Context.holds, Context.isFree, hstate, hseq]

/-- The label that a context holds carries Voided after it, and of no other label it changes that. -/
theorem ownVoid_labelVoided (hv : s.labelVoided seq = false) (hheld : ∃ j, (s.ctx j).holds seq = true) (reason : Reason)
    (q : Nat) : (ownVoid s seq reason).labelVoided q = (s.labelVoided q || decide (q = seq)) := by
  by_cases hq : q = seq
  · obtain ⟨j, hj⟩ := hheld
    have hvoided : (ownVoid s seq reason).labelVoided seq = true :=
      State.labelVoided_iff.2 (.inl ⟨j, by rw [ownVoid_holds, hj], by simp [ownVoid_ctx hv, hj]⟩)
    simp [hq, hvoided]
  · have hctx : ∀ j, (s.ctx j).holds q = true → (ownVoid s seq reason).ctx j = s.ctx j := fun j hj => by
      refine ownVoid_ctx_other (Context.holds_eq_false.2 (.inr fun hs => hq ?_)) reason
      obtain ⟨-, hjq⟩ := Context.holds_iff.1 hj
      rw [← hjq, hs]
    rw [Bool.eq_iff_iff, Bool.or_eq_true, State.labelVoided_iff, State.labelVoided_iff]
    simp only [ownVoid_holds, ownVoid_seq hv, List.mem_map, decide_eq_true_eq, hq, or_false]
    refine or_congr (exists_congr fun j => and_congr_right fun hj => by rw [hctx j hj]) ⟨?_, ?_⟩
    · rintro ⟨e, ⟨e', he', rfl⟩, hseq, hvoided⟩
      split at hseq
      · rename_i hmark
        exact absurd (hseq.symm.trans hmark.1) hq
      · rename_i hmark
        rw [if_neg hmark] at hvoided
        exact ⟨e', he', hseq, hvoided⟩
    · rintro ⟨e, he, hseq, hvoided⟩
      exact ⟨e, ⟨e, he, if_neg fun hmark => hq (hseq.symm.trans hmark.1)⟩, hseq, hvoided⟩

/-! #### The labels that Hot voids, one after the other -/

/-- Each label of the list is voided Hot. -/
def voidAllHot (s : State) (qs : List Nat) : State := qs.foldl (fun s q => ownVoid s q .hot) s

/-- The seqs of the list whose labels are not voided yet, each once. -/
def State.freshSeqs (s : State) : List Nat → List Nat
  | [] => []
  | q :: qs => if s.labelVoided q then s.freshSeqs qs else q :: (s.freshSeqs qs).filter fun x => decide (x ≠ q)

/-- Each seq of the list is held by a context. -/
def State.HoldsAll (s : State) (qs : List Nat) : Prop := ∀ q ∈ qs, ∃ j, (s.ctx j).holds q = true

theorem State.HoldsAll.tail {q : Nat} {qs : List Nat} (h : s.HoldsAll (q :: qs)) (reason : Reason) :
    (ownVoid s q reason).HoldsAll qs := fun x hx => by
  obtain ⟨j, hj⟩ := h x (List.mem_cons_of_mem q hx)
  exact ⟨j, by rw [ownVoid_holds, hj]⟩

theorem voidAllHot_cons (s : State) (q : Nat) (qs : List Nat) :
    voidAllHot s (q :: qs) = voidAllHot (ownVoid s q .hot) qs := rfl

theorem voidAllHot_shape (s : State) (qs : List Nat) (j : CtxId) :
    ((voidAllHot s qs).ctx j).state = (s.ctx j).state ∧ ((voidAllHot s qs).ctx j).seq = (s.ctx j).seq := by
  induction qs generalizing s with
  | nil => exact ⟨rfl, rfl⟩
  | cons q qs ih =>
    obtain ⟨hstate, hseq⟩ := ih (ownVoid s q .hot)
    obtain ⟨hstate', hseq'⟩ := ownVoid_shape s q .hot j
    exact ⟨hstate.trans hstate', hseq.trans hseq'⟩

theorem voidAllHot_ctx {qs : List Nat} (h : s.HoldsAll qs) (j : CtxId) : (voidAllHot s qs).ctx j
    = if (s.ctx j).state ≠ .free ∧ (s.ctx j).seq ∈ qs ∧ s.labelVoided (s.ctx j).seq = false
      then { s.ctx j with voided := some .hot } else s.ctx j := by
  induction qs generalizing s with
  | nil => simp [voidAllHot]
  | cons q qs ih =>
    rw [voidAllHot_cons, ih (h.tail .hot)]
    obtain ⟨hstate, hseq⟩ := ownVoid_shape s q .hot j
    rw [hstate, hseq]
    rcases hv : s.labelVoided q with _ | _
    · rw [ownVoid_labelVoided hv (h q (by simp)), ownVoid_ctx hv]
      by_cases hq : (s.ctx j).seq = q
      · by_cases hfree : (s.ctx j).state = .free <;> simp [hq, hv, hfree, Context.holds_iff]
      · simp [hq, Context.holds_iff]
    · rw [ownVoid_of_voided hv]
      by_cases hq : (s.ctx j).seq = q
      · simp [hq, hv]
      · simp [hq]

theorem voidAllHot_seq {qs : List Nat} (h : s.HoldsAll qs) : (voidAllHot s qs).seq = { s.seq with
    queue := s.seq.queue.map fun e =>
      if e.seq ∈ qs ∧ s.labelVoided e.seq = false then { e with voided := some .hot } else e } := by
  induction qs generalizing s with
  | nil => simp [voidAllHot]
  | cons q qs ih =>
    rw [voidAllHot_cons, ih (h.tail .hot)]
    rcases hv : s.labelVoided q with _ | _
    · rw [ownVoid_seq hv, List.map_map]
      simp only [ownVoid_labelVoided hv (h q (by simp))]
      congr 1
      refine List.map_congr_left fun e he => ?_
      by_cases hq : e.seq = q
      · simp [hq, hv, (State.labelVoided_eq_false.1 hv).2 e he hq]
      · simp [hq]
    · rw [ownVoid_of_voided hv]
      have hmap : ∀ e ∈ s.seq.queue,
          (if e.seq ∈ qs ∧ s.labelVoided e.seq = false then { e with voided := some .hot } else e)
            = if e.seq ∈ q :: qs ∧ s.labelVoided e.seq = false then { e with voided := some .hot } else e := fun e _ => by
        by_cases hq : e.seq = q <;> simp [hq, hv]
      rw [List.map_congr_left hmap]

theorem voidAllHot_dropsStay (s : State) (qs : List Nat) : DropsStay s (voidAllHot s qs) := by
  induction qs generalizing s with
  | nil => exact .of_report rfl
  | cons q qs ih => exact (ownVoid_dropsStay s q .hot).trans (ih _)

theorem voidAllHot_changesLatched (s : State) (qs : List Nat) : ChangesLatched s (voidAllHot s qs) := by
  induction qs generalizing s with
  | nil => exact .of_report rfl rfl
  | cons q qs ih => exact (ownVoid_changesLatched s q .hot).trans (ih _)

theorem voidAllHot_onlyVoids (s : State) (qs : List Nat) : s.link.OnlyVoids (voidAllHot s qs).link := by
  induction qs generalizing s with
  | nil => exact .refl _
  | cons q qs ih => exact (ownVoid_onlyVoids s q .hot).trans (ih _)

theorem voidAllHot_reportQueue (s : State) (qs : List Nat) : (voidAllHot s qs).report.queue = s.report.queue := by
  induction qs generalizing s with
  | nil => rfl
  | cons q qs ih => rw [voidAllHot_cons, ih, ownVoid_queue]

theorem freshSeqs_ownVoid {q : Nat} (hv : s.labelVoided q = false) (hheld : ∃ j, (s.ctx j).holds q = true)
    (qs : List Nat) : (ownVoid s q .hot).freshSeqs qs = (s.freshSeqs qs).filter fun x => decide (x ≠ q) := by
  induction qs with
  | nil => rfl
  | cons x xs ih =>
    simp only [State.freshSeqs, ownVoid_labelVoided hv hheld, ih]
    by_cases hx : x = q
    · simp [hx, hv]
    · rcases hxv : s.labelVoided x with _ | _
      · simp [hx, List.filter_filter, Bool.and_comm]
      · simp

/-- The VOIDs of the labels follow each other in the queue (R139). -/
theorem voidAllHot_placed {qs : List Nat} (h : s.HoldsAll qs) (hlen : s.link.voidQueue.length ≤ 4) :
    VoidsPlaced s ((s.freshSeqs qs).map fun q => ⟨q, .hot⟩) (voidAllHot s qs) := by
  induction qs generalizing s with
  | nil => exact .nil hlen rfl
  | cons q qs ih =>
    rw [voidAllHot_cons, State.freshSeqs]
    rcases hv : s.labelVoided q with _ | _
    · have hplaced : VoidPlaced s ⟨q, .hot⟩ (ownVoid s q .hot) := ownVoid_placed hv .hot
      have hlen' : (ownVoid s q .hot).link.voidQueue.length ≤ 4 := by
        obtain ⟨hroom, hfull⟩ := hplaced
        rcases Nat.lt_or_ge s.link.voidQueue.length 4 with hlt | hge
        · simp [(hroom hlt).1]
          omega
        · rwa [(hfull hge).1]
      have hrest := ih (h.tail .hot) hlen'
      rw [freshSeqs_ownVoid hv (h q (by simp))] at hrest
      exact hrest.cons hlen hplaced (voidAllHot_dropsStay _ qs)
    · rw [if_pos rfl, ownVoid_of_voided hv]
      exact ih (fun x hx => h x (List.mem_cons_of_mem q hx)) hlen

/-- Of at most two labels, those not voided yet, each once. -/
theorem freshSeqs_of_two (s : State) {qs : List Nat} (h : qs.length ≤ 2) :
    (s.freshSeqs qs).map (fun q => (⟨q, .hot⟩ : VoidFrame))
      = ((qs.filter fun q => !s.labelVoided q).map fun q => (⟨q, .hot⟩ : VoidFrame)).dedup := by
  match qs, h with
  | [], _ => rfl
  | [x], _ => rcases hx : s.labelVoided x with _ | _ <;> simp [State.freshSeqs, hx]
  | [x, y], _ =>
    by_cases hxy : y = x
    · subst hxy
      rcases hy : s.labelVoided y with _ | _ <;> simp [State.freshSeqs, hy]
    · have hne : ¬x = y := fun h => hxy h.symm
      rcases hx : s.labelVoided x with _ | _ <;> rcases hy : s.labelVoided y with _ | _ <;>
        simp [State.freshSeqs, hx, hy, hxy, hne]

end OwnVoids

/-! #### The labels under the head at the entry into Hot (R131, log 10) -/

/-- The seq of context `i`'s label, when it is in that state. -/
def State.seqIn (s : State) (st : CtxState) (i : CtxId) : List Nat :=
  if (s.ctx i).state = st then [(s.ctx i).seq] else []

/-- The seqs of the labels under the head, the one in Ending first. -/
def State.hotSeqs (s : State) : List Nat :=
  (s.seqIn .ending .a ++ s.seqIn .ending .b) ++ (s.seqIn .running .a ++ s.seqIn .running .b)

section HotSeqs
variable {s : State}

@[simp] theorem State.mem_seqIn {st : CtxState} {i : CtxId} {q : Nat} :
    q ∈ s.seqIn st i ↔ (s.ctx i).state = st ∧ (s.ctx i).seq = q := by
  unfold State.seqIn
  split
  · simp [*, eq_comm]
  · simp [*]

theorem State.mem_hotSeqs {q : Nat} : q ∈ s.hotSeqs ↔ ∃ i ∈ [CtxId.a, CtxId.b],
    ((s.ctx i).state = .running ∨ (s.ctx i).state = .ending) ∧ (s.ctx i).seq = q := by
  simp only [State.hotSeqs, List.mem_append, State.mem_seqIn, List.mem_cons, List.not_mem_nil, or_false,
    exists_eq_or_imp, exists_eq_left]
  tauto

theorem State.mem_hotSeqs_of {i : CtxId} (h : (s.ctx i).state = .running ∨ (s.ctx i).state = .ending) :
    (s.ctx i).seq ∈ s.hotSeqs :=
  State.mem_hotSeqs.2 ⟨i, by cases i <;> simp, h, rfl⟩

theorem State.hotSeqs_holdsAll (s : State) : s.HoldsAll s.hotSeqs := fun q hq => by
  obtain ⟨i, -, hstate, hseq⟩ := State.mem_hotSeqs.1 hq
  exact ⟨i, Context.holds_iff.2 ⟨by rcases hstate with h | h <;> simp [h], hseq⟩⟩

theorem State.hotSeqs_length (s : State) : s.hotSeqs.length ≤ 2 := by
  have hone : ∀ i, (s.seqIn .ending i).length + (s.seqIn .running i).length ≤ 1 := fun i => by
    unfold State.seqIn
    by_cases h : (s.ctx i).state = .ending
    · simp [h]
    · simp only [h, if_false]
      split <;> simp
  have ha := hone .a
  have hb := hone .b
  simp only [State.hotSeqs, List.length_append]
  omega

theorem State.seqIn_fresh (s : State) (st : CtxState) :
    ((s.seqIn st .a ++ s.seqIn st .b).filter fun q => !s.labelVoided q)
      = ([CtxId.a, .b].filter fun i => decide ((s.ctx i).state = st) && !s.labelVoided (s.ctx i).seq).map
          fun i => (s.ctx i).seq := by
  have hone : ∀ i, (s.seqIn st i).filter (fun q => !s.labelVoided q)
      = ([i].filter fun i => decide ((s.ctx i).state = st) && !s.labelVoided (s.ctx i).seq).map
          fun i => (s.ctx i).seq := fun i => by
    unfold State.seqIn
    by_cases h : (s.ctx i).state = st
    · rcases hv : s.labelVoided (s.ctx i).seq with _ | _ <;> simp [h, hv]
    · simp [h]
  rw [List.filter_append, hone, hone, ← List.map_append, ← List.filter_append]
  rfl

theorem voidHot_eq (st : CtxState) (s : State) (i : CtxId) : voidHot st s i = voidAllHot s (s.seqIn st i) := by
  unfold voidHot State.seqIn
  split <;> rfl

theorem voidAllHot_append (s : State) (qs rs : List Nat) :
    voidAllHot s (qs ++ rs) = voidAllHot (voidAllHot s qs) rs := List.foldl_append

theorem voidAllHot_seqIn (s : State) (qs : List Nat) (st : CtxState) (i : CtxId) :
    (voidAllHot s qs).seqIn st i = s.seqIn st i := by
  obtain ⟨hstate, hseq⟩ := voidAllHot_shape s qs i
  simp [State.seqIn, hstate, hseq]

theorem voidRunningHot_eq (s : State) : voidRunningHot s = voidAllHot s s.hotSeqs := by
  simp [voidRunningHot, State.hotSeqs, voidHot_eq, voidAllHot_append, voidAllHot_seqIn]

theorem voidAllHot_frame (s : State) :
    (voidAllHot s s.hotSeqs).station = s.station ∧ (voidAllHot s s.hotSeqs).plan = s.plan
    ∧ (voidAllHot s s.hotSeqs).ring = s.ring := by simp [← voidRunningHot_eq]

/-- A label under the head that is not voided yet is voided Hot. -/
theorem voidAllHot_ctx_of_fresh {i : CtxId} (h : (s.ctx i).state = .running ∨ (s.ctx i).state = .ending)
    (hv : s.labelVoided (s.ctx i).seq = false) :
    (voidAllHot s s.hotSeqs).ctx i = { s.ctx i with voided := some .hot } := by
  rw [voidAllHot_ctx s.hotSeqs_holdsAll,
    if_pos ⟨by rcases h with h | h <;> simp [h], State.mem_hotSeqs_of h, hv⟩]

/-- A voided label is left as it is. -/
theorem voidAllHot_ctx_of_voided {i : CtxId} (hv : (s.ctx i).voided ≠ none) :
    (voidAllHot s s.hotSeqs).ctx i = s.ctx i := by
  rw [voidAllHot_ctx s.hotSeqs_holdsAll, if_neg]
  rintro ⟨hfree, -, hl⟩
  exact hv ((State.labelVoided_eq_false.1 hl).1 i (Context.holds_iff.2 ⟨hfree, rfl⟩))

end HotSeqs

/-! #### The entry into Hot (R128, R131) -/

/-- A running label of known height that the stop of its row reaches keeps its state and its mark. -/
theorem stopRow_ctx_of_running {s : State} {i : CtxId} (h : (s.ctx i).state = .running) (hh : (s.ctx i).h ≠ none) :
    ((stopRow s).ctx i).state = .running ∧ ((stopRow s).ctx i).voided = (s.ctx i).voided := by
  by_cases hstop : ∀ p, s.plan = some p → p.step.stage = .strobe ∨ s.runningLabelCtx p.seq ≠ some i
  · rw [stopRow_ctx hstop]
    exact ⟨h, rfl⟩
  · push Not at hstop
    obtain ⟨p, hp, hstage, hrun⟩ := hstop
    let ended := (s.ctx i).rowEnded (decide (1 ≤ p.trim)) p.miss
    have hover : stopRow s = completeIfEnding (rowOver s p i ended) i := by
      rw [← endFlight_unshort hrun]
      simp [stopRow, hp, hstage]
    have hctx : (rowOver s p i ended).ctx i = ended := by simp [rowOver_ctx]
    have hends : ended.endsNow = false := Context.endsNow_of_running h (.inl hh)
    rw [hover, completeIfEnding_of_not_endsNow (by rw [hctx, hends]), hctx]
    exact ⟨h, rfl⟩

/-- The ending of a row that is told of `s` is told of a state with the same labels and the same report queue, and of
what later steps leave. -/
theorem State.RowEndsAtOnce.mono {s u t v : State} {i : CtxId} {c : Context} (h : u.RowEndsAtOnce i c t)
    (hctx : ∀ j, u.ctx j = s.ctx j) (hplan : u.plan = s.plan) (hring : u.ring = s.ring)
    (hqueue : u.report.queue = s.report.queue) (htplan : v.plan = t.plan) (htctx : v.ctx i = t.ctx i)
    (hthead : v.head = t.head) (htring : v.ring = t.ring) (htseq : v.seq = t.seq)
    (htqueue : v.report.queue = t.report.queue) (hdrops : DropsStay t v) : s.RowEndsAtOnce i c v := by
  intro p x hp hstage hx hrun ended
  have hrun' : u.runningLabelCtx p.seq = some i := by
    rw [← hrun]
    exact State.runningLabelCtx_congr (fun j => by rw [hctx j]; exact ⟨rfl, rfl⟩) p.seq
  have hheld : ∀ e, u.headHeld e = s.headHeld e := State.headHeld_congr fun j => by rw [hctx j]; exact ⟨rfl, fun _ => rfl⟩
  obtain ⟨hnoplan, hidle, hfiring, hhistory, hgoes, hends⟩ := h p x (hplan.trans hp) hstage (by rw [hring, hx]) hrun'
  rw [htplan, hthead, htring, htctx, htqueue, ← hring, ← hqueue, htseq]
  refine ⟨hnoplan, hidle, hfiring, hhistory, hgoes, fun hending => ?_⟩
  obtain ⟨hplaced, harms⟩ := hends hending
  refine ⟨hplaced.mono hqueue htqueue hdrops, ?_⟩
  simpa only [hheld, hctx] using harms

section Entry
variable {s : State} {i : CtxId}

/-- What the entry into Hot does after Hot is set. -/
def hotEntered (s : State) : State := settle (stopRow (voidAllHot s s.hotSeqs))

theorem enterHot_eq (s : State) : enterHot s = hotEntered (setHot s true) := by
  rw [enterHot, voidRunningHot_eq]
  rfl

theorem hotEntered_plan {p : Plan} (h : (hotEntered s).plan = some p) : p.step.stage = .strobe ∧ p.stopping = true :=
  stopRow_plan (s := voidAllHot s s.hotSeqs) (by simpa [hotEntered] using h)

theorem hotEntered_seq (s : State) : (hotEntered s).seq = { s.seq with
    queue := s.seq.queue.map fun e =>
      if e.seq ∈ s.hotSeqs ∧ s.labelVoided e.seq = false then { e with voided := some .hot } else e } := by
  simp [hotEntered, voidAllHot_seq s.hotSeqs_holdsAll]

theorem hotEntered_voidQueue (h : s.link.voidQueue.length ≤ 4) :
    let voids := fun (st : CtxState) => ([CtxId.a, .b].filter fun i =>
      decide ((s.ctx i).state = st) && !s.labelVoided (s.ctx i).seq).map fun i => (⟨(s.ctx i).seq, .hot⟩ : VoidFrame)
    (hotEntered s).link.voidQueue = (s.link.voidQueue ++ (voids .ending ++ voids .running).dedup).take 4 := by
  intro voids
  obtain ⟨hq, -, -⟩ := voidAllHot_placed s.hotSeqs_holdsAll h
  have hvoids : voids .ending ++ voids .running
      = (s.hotSeqs.filter fun q => !s.labelVoided q).map fun q => (⟨q, .hot⟩ : VoidFrame) := by
    rw [State.hotSeqs, List.filter_append, State.seqIn_fresh, State.seqIn_fresh, List.map_append, List.map_map,
      List.map_map]
    rfl
  rw [hvoids, ← freshSeqs_of_two s s.hotSeqs_length, ← hq]
  simpa [hotEntered] using (stopRow_onlyTx (voidAllHot s s.hotSeqs)).voidQueue

/-- A label that goes on is marked. -/
theorem hotEntered_ctx_of_fresh (h : (s.ctx i).state = .running ∨ (s.ctx i).state = .ending)
    (hv : s.labelVoided (s.ctx i).seq = false)
    (hp : ∀ p, s.plan = some p → p.seq = (s.ctx i).seq → p.step.stage = .strobe) :
    (hotEntered s).ctx i = { s.ctx i with voided := some .hot } := by
  have hctx := voidAllHot_ctx_of_fresh h hv
  have hstop : (stopRow (voidAllHot s s.hotSeqs)).ctx i = (voidAllHot s s.hotSeqs).ctx i := stopRow_ctx fun p hup => by
    rw [(voidAllHot_frame s).2.1] at hup
    by_cases hseq : p.seq = (s.ctx i).seq
    · exact .inl (hp p hup hseq)
    · refine .inr fun hrun => hseq ?_
      obtain ⟨-, hlabel⟩ := State.runningLabelCtx_eq_some hrun
      rw [← hlabel, hctx]
  rw [hotEntered, settle_ctx, arm_ctx_of_not_free, hstop, hctx]
  rw [hstop, hctx]
  rcases h with h | h <;> simp [h]

theorem hotEntered_voided_of_running (h : (s.ctx i).state = .running) (hv : s.labelVoided (s.ctx i).seq = false)
    (hh : (s.ctx i).h ≠ none) : ((hotEntered s).ctx i).voided = some .hot := by
  have hctx := voidAllHot_ctx_of_fresh (.inl h) hv
  obtain ⟨hstate, hvoided⟩ := stopRow_ctx_of_running (s := voidAllHot s s.hotSeqs) (i := i) (by rw [hctx]; exact h)
    (by rw [hctx]; exact hh)
  rw [hotEntered, settle_ctx, arm_ctx_of_not_free (by simp [hstate]), hvoided, hctx]

theorem hotEntered_rowEnds (hact : s.station = .active) (i : CtxId) :
    s.RowEndsAtOnce i ((voidAllHot s s.hotSeqs).ctx i) (hotEntered s) := by
  obtain ⟨hstation, hplan, hring⟩ := voidAllHot_frame s
  have h := rowEndsAtOnce_of_marked (s := s.setReport (voidAllHot s s.hotSeqs).report) (i := i)
    (hstation.trans hact) hplan hring rfl (voidAllHot_shape s s.hotSeqs)
  exact h.mono (fun _ => rfl) rfl rfl (voidAllHot_reportQueue s s.hotSeqs) rfl rfl rfl rfl rfl rfl (.of_report rfl)

theorem hotEntered_changesLatched (s : State) : ChangesLatched s (hotEntered s) :=
  ((voidAllHot_changesLatched s s.hotSeqs).trans (stopRow_changesLatched _)).trans
    (.of_report (by simp [hotEntered]) (by simp [hotEntered]))

theorem hotEntered_onlyVoids (s : State) : s.link.OnlyVoids (hotEntered s).link := by
  simpa [hotEntered] using (voidAllHot_onlyVoids s s.hotSeqs).trans (stopRow_onlyTx _).voids

end Entry

/-! #### A completed conversion (R129, R130) -/

section Reading
variable {s : State}

/-- Warm after a reading (R130). -/
def State.warmAfter (s : State) : Bool :=
  if s.setup.tSlow ≤ s.thermal.t then true else if s.thermal.t ≤ s.setup.tSlow - 3 then false else s.thermal.warm

/-- Hot after a reading in ACTIVE (R131, R132). -/
def State.hotAfter (s : State) : Bool :=
  if s.thermal.hot then !decide (s.thermal.t ≤ s.setup.tStop - 5) else decide (s.setup.tStop ≤ s.thermal.t)

theorem setWarm_thermal (s : State) (v : Bool) : (setWarm s v).thermal = { s.thermal with warm := v } := by
  simp [setWarm]

theorem setHot_thermal (s : State) (v : Bool) : (setHot s v).thermal = { s.thermal with hot := v } := by
  simp [setHot]

theorem evalWarm_thermal (s : State) : (evalWarm s).thermal = { s.thermal with warm := s.warmAfter } := by
  unfold evalWarm State.warmAfter
  split
  · rw [setWarm_thermal]
  · split
    · rw [setWarm_thermal]
    · rfl

/-- The entry into Hot, and what else a reading does to Hot. -/
theorem evalHot_cases (s : State) :
    (s.thermal.hot = false ∧ s.hotAfter = true ∧ evalHot s = hotEntered (setHot s true))
    ∨ (¬(s.thermal.hot = false ∧ s.hotAfter = true) ∧ (evalHot s = setHot s s.hotAfter
        ∨ evalHot s = s ∧ s.hotAfter = s.thermal.hot)) := by
  unfold evalHot State.hotAfter
  rcases hhot : s.thermal.hot with _ | _
  · by_cases ht : s.setup.tStop ≤ s.thermal.t
    · exact .inl ⟨rfl, by simp [ht], by simp [ht, enterHot_eq]⟩
    · exact .inr ⟨by simp [ht], .inr (by simp [ht])⟩
  · by_cases ht : s.thermal.t ≤ s.setup.tStop - 5
    · exact .inr ⟨by simp, .inl (by simp [ht])⟩
    · exact .inr ⟨by simp, .inr (by simp [ht])⟩

@[simp] theorem hotEntered_thermal (s : State) : (hotEntered s).thermal = s.thermal := by
  simp [hotEntered, ← voidRunningHot_eq]

theorem evalHot_thermal (s : State) : (evalHot s).thermal = { s.thermal with hot := s.hotAfter } := by
  rcases evalHot_cases s with ⟨-, hafter, heval⟩ | ⟨-, heval | ⟨heval, hafter⟩⟩
  · rw [heval, hotEntered_thermal, setHot_thermal, hafter]
  · rw [heval, setHot_thermal]
  · rw [heval, hafter]

theorem evalWarm_onlyTx (s : State) : s.link.OnlyTx (evalWarm s).link := by
  unfold evalWarm
  split
  · exact setCond_onlyTx _ _ _
  · split
    · exact setCond_onlyTx _ _ _
    · exact .refl _

theorem evalHot_onlyVoids (s : State) : s.link.OnlyVoids (evalHot s).link := by
  have hset : ∀ v, s.link.OnlyVoids (setHot s v).link := fun v =>
    (setCond_onlyTx (s.setThermal { s.thermal with hot := v }) .hot v).voids
  rcases evalHot_cases s with ⟨-, -, heval⟩ | ⟨-, heval | ⟨heval, -⟩⟩
  · rw [heval]
    exact (hset true).trans (hotEntered_onlyVoids _)
  · rw [heval]
    exact hset _
  · rw [heval]
    exact .refl _

theorem driveLines_onlyTx (s : State) : s.link.OnlyTx (driveLines s).link := driveSlw_onlyTx (driveRdy s)

theorem evalWarm_changesLatched (s : State) : ChangesLatched s (evalWarm s) := by
  unfold evalWarm
  split
  · exact setWarm_changesLatched s _
  · split
    · exact setWarm_changesLatched s _
    · exact .of_report rfl rfl

theorem evalHot_changesLatched (s : State) : ChangesLatched s (evalHot s) := by
  rcases evalHot_cases s with ⟨-, -, heval⟩ | ⟨-, heval | ⟨heval, -⟩⟩
  · rw [heval]
    exact (setHot_changesLatched s true).trans (hotEntered_changesLatched _)
  · rw [heval]
    exact setHot_changesLatched s _
  · rw [heval]
    exact .of_report rfl rfl

/-- T alone has taken the reading (R129). -/
def State.withReading (s : State) (reading : Int) : State :=
  s.setThermal { s.thermal with t := max (-20) (min 100 reading) }

theorem takeReading_of_starting_unset (h : s.station = .starting ∨ s.station = .unset) (reading : Int) :
    takeReading s reading = s.withReading reading := by
  rcases h with h | h <;> simp [takeReading, h, State.withReading, clampInt]

theorem takeReading_of_active (h : s.station = .active) (reading : Int) :
    takeReading s reading = driveLines (evalHot (evalWarm (s.withReading reading))) := by
  simp [takeReading, h, State.withReading, clampInt]

theorem takeReading_of_outside (h : s.station = .outside) (reading : Int) :
    takeReading s reading = driveLines (evalWarm (s.withReading reading)) := by
  simp [takeReading, h, State.withReading, clampInt]

/-- What a reading does to the blocks that Warm, Hot and the lines leave alone. -/
theorem takeReading_link (s : State) (reading : Int) : s.link.OnlyVoids (takeReading s reading).link := by
  have hwarm : s.link.OnlyVoids (evalWarm (s.withReading reading)).link := (evalWarm_onlyTx (s.withReading reading)).voids
  cases h : s.station with
  | starting => rw [takeReading_of_starting_unset (.inl h)]; exact .refl _
  | unset => rw [takeReading_of_starting_unset (.inr h)]; exact .refl _
  | active =>
    rw [takeReading_of_active h]
    exact (hwarm.trans (evalHot_onlyVoids _)).trans (driveLines_onlyTx _).voids
  | outside =>
    rw [takeReading_of_outside h]
    exact hwarm.trans (driveLines_onlyTx _).voids

theorem takeReading_changesLatched (s : State) (reading : Int) : ChangesLatched s (takeReading s reading) := by
  have hwarm : ChangesLatched s (evalWarm (s.withReading reading)) := .after (evalWarm_changesLatched _) rfl rfl
  cases h : s.station with
  | starting => rw [takeReading_of_starting_unset (.inl h)]; exact .of_report rfl rfl
  | unset => rw [takeReading_of_starting_unset (.inr h)]; exact .of_report rfl rfl
  | active =>
    rw [takeReading_of_active h]
    exact (hwarm.trans (evalHot_changesLatched _)).trans (driveLines_changesLatched _)
  | outside =>
    rw [takeReading_of_outside h]
    exact hwarm.trans (driveLines_changesLatched _)

theorem driveLines_lines (s : State) : (driveLines s).lines.slwAsserted = (driveLines s).thermal.slwCondition
    ∧ (driveLines s).lines.rdyReleased = (driveLines s).rdyCondition := by
  have hrdy : (driveLines s).rdyCondition = s.rdyCondition := State.rdyCondition_congr (by simp) (by simp) (by simp)
  exact ⟨by simp [driveLines], by rw [hrdy]; simp [driveLines]⟩

/-- Warm, Hot, the hold count and the lines after a reading in ACTIVE. -/
theorem takeReading_active_thermal (h : s.station = .active) (reading : Int) :
    (takeReading s reading).thermal = { (s.withReading reading).thermal with
      warm := (s.withReading reading).warmAfter, hot := (s.withReading reading).hotAfter } := by
  rw [takeReading_of_active h, (show ∀ u, (driveLines u).thermal = u.thermal by simp), evalHot_thermal, evalWarm_thermal]
  simp [State.hotAfter, evalWarm_thermal]

theorem takeReading_outside_thermal (h : s.station = .outside) (reading : Int) :
    (takeReading s reading).thermal = { (s.withReading reading).thermal with
      warm := (s.withReading reading).warmAfter } := by
  rw [takeReading_of_outside h, (show ∀ u, (driveLines u).thermal = u.thermal by simp), evalWarm_thermal]

end Reading

/-! #### The reading that begins Hot -/

section HotBegun
variable {s : State} {reading : Int}

/-- The state in which a reading has set Hot and nothing has followed yet. -/
def State.hotBegun (s : State) (reading : Int) : State := setHot (evalWarm (s.withReading reading)) true

@[simp] theorem withReading_ctx (s : State) (reading : Int) (j : CtxId) : (s.withReading reading).ctx j = s.ctx j := rfl

@[simp] theorem withReading_seq (s : State) (reading : Int) : (s.withReading reading).seq = s.seq := rfl

@[simp] theorem hotBegun_ctx (s : State) (reading : Int) (j : CtxId) : (s.hotBegun reading).ctx j = s.ctx j := by
  simp [State.hotBegun]

@[simp] theorem hotBegun_frame (s : State) (reading : Int) : (s.hotBegun reading).station = s.station
    ∧ (s.hotBegun reading).seq = s.seq ∧ (s.hotBegun reading).plan = s.plan ∧ (s.hotBegun reading).ring = s.ring := by
  simp [State.hotBegun, State.withReading]

theorem hotBegun_link (s : State) (reading : Int) : s.link.OnlyTx (s.hotBegun reading).link :=
  (evalWarm_onlyTx (s.withReading reading)).trans (setCond_onlyTx _ .hot true)

theorem hotBegun_queue (s : State) (reading : Int) : (s.hotBegun reading).report.queue = s.report.queue := by
  have hwarm : ∀ u, (evalWarm u).report.queue = u.report.queue := fun u => by
    unfold evalWarm
    (repeat' split) <;> simp [setWarm]
  simp [State.hotBegun, setHot, hwarm, State.withReading]

@[simp] theorem hotBegun_labelVoided (s : State) (reading : Int) (q : Nat) :
    (s.hotBegun reading).labelVoided q = s.labelVoided q := by
  rw [Bool.eq_iff_iff, State.labelVoided_iff, State.labelVoided_iff]
  simp

@[simp] theorem hotBegun_hotSeqs (s : State) (reading : Int) : (s.hotBegun reading).hotSeqs = s.hotSeqs := by
  have hone : ∀ st i, (s.hotBegun reading).seqIn st i = s.seqIn st i := by simp [State.seqIn]
  simp only [State.hotSeqs, hone]

theorem evalWarm_withReading_hot (s : State) (reading : Int) :
    (evalWarm (s.withReading reading)).thermal.hot = s.thermal.hot := by rw [evalWarm_thermal]; rfl

theorem evalWarm_withReading_hotAfter (s : State) (reading : Int) :
    (evalWarm (s.withReading reading)).hotAfter = (s.withReading reading).hotAfter := by
  simp [State.hotAfter, evalWarm_thermal]

theorem takeReading_active_hot (h : s.station = .active) :
    (takeReading s reading).thermal.hot = (s.withReading reading).hotAfter := by rw [takeReading_active_thermal h]

theorem takeReading_of_hotBegun (h : s.station = .active) (hcold : s.thermal.hot = false)
    (hhot : (takeReading s reading).thermal.hot = true) :
    takeReading s reading = driveLines (hotEntered (s.hotBegun reading)) := by
  rw [takeReading_active_hot h, ← evalWarm_withReading_hotAfter] at hhot
  rw [← evalWarm_withReading_hot s reading] at hcold
  rcases evalHot_cases (evalWarm (s.withReading reading)) with ⟨-, -, heval⟩ | ⟨hno, -⟩
  · rw [takeReading_of_active h, heval, State.hotBegun]
  · exact absurd ⟨hcold, hhot⟩ hno

/-- A reading that does not begin Hot leaves the label sequence. -/
theorem takeReading_seq_of_not_hotBegun
    (h : ¬(s.station = .active ∧ s.thermal.hot = false ∧ (takeReading s reading).thermal.hot = true)) :
    (takeReading s reading).seq = s.seq := by
  cases hs : s.station with
  | starting => rw [takeReading_of_starting_unset (.inl hs)]; rfl
  | unset => rw [takeReading_of_starting_unset (.inr hs)]; rfl
  | outside => simp [takeReading_of_outside hs]
  | active =>
    rw [takeReading_active_hot hs, ← evalWarm_withReading_hotAfter, ← evalWarm_withReading_hot s reading] at h
    rw [takeReading_of_active hs]
    rcases evalHot_cases (evalWarm (s.withReading reading)) with ⟨hcold, hhot, -⟩ | ⟨-, heval | ⟨heval, -⟩⟩
    · exact absurd ⟨hs, hcold, hhot⟩ h
    · simp [heval]
    · simp [heval]

/-- Hot marks the queue entries of the labels that it voids, and a reading marks no other (R11). -/
theorem takeReading_seq (s : State) (reading : Int) : (takeReading s reading).seq = { s.seq with
    queue := s.seq.queue.map fun e =>
      if s.station = .active ∧ s.thermal.hot = false ∧ (takeReading s reading).thermal.hot = true
        ∧ s.labelVoided e.seq = false ∧ ∃ i ∈ [CtxId.a, CtxId.b],
            ((s.ctx i).state = .running ∨ (s.ctx i).state = .ending) ∧ (s.ctx i).seq = e.seq
      then { e with voided := some .hot } else e } := by
  by_cases h : s.station = .active ∧ s.thermal.hot = false ∧ (takeReading s reading).thermal.hot = true
  · obtain ⟨hact, hcold, hhot⟩ := h
    have hseq : (takeReading s reading).seq = (hotEntered (s.hotBegun reading)).seq := by
      rw [takeReading_of_hotBegun hact hcold hhot]
      simp
    rw [hseq, hotEntered_seq]
    simp only [hact, hcold, hhot, true_and, hotBegun_frame, hotBegun_labelVoided, hotBegun_hotSeqs, State.mem_hotSeqs,
      and_comm]
  · have hno : ∀ p : Prop, ¬(s.station = .active ∧ s.thermal.hot = false ∧ (takeReading s reading).thermal.hot = true ∧ p) :=
      fun p ⟨hact, hcold, hhot, _⟩ => h ⟨hact, hcold, hhot⟩
    simp only [takeReading_seq_of_not_hotBegun h, hno, if_false, List.map_id']

/-- The row that Hot reaches in its load or latch, told of the state before the reading. -/
theorem takeReading_rowEnds (h : s.station = .active) (hcold : s.thermal.hot = false)
    (hhot : (takeReading s reading).thermal.hot = true) (i : CtxId) :
    s.RowEndsAtOnce i ((voidAllHot (s.hotBegun reading) s.hotSeqs).ctx i) (takeReading s reading) := by
  have hends := hotEntered_rowEnds (s := s.hotBegun reading) (by simp [h]) i
  rw [hotBegun_hotSeqs] at hends
  rw [takeReading_of_hotBegun h hcold hhot]
  refine hends.mono (by simp) (by simp) (by simp) (hotBegun_queue s reading) (by simp) (by simp) (by simp) (by simp)
    (by simp) (by simp [driveLines, driveRdy]) ?_
  exact DropsStay.trans (u := driveRdy (hotEntered (s.hotBegun reading))) (.of_report rfl) (driveSlw_dropsStay _)

/-- The parts of the thermal state after a reading, by the station's state. -/
theorem takeReading_thermal (s : State) (reading : Int) : (takeReading s reading).thermal =
    { t := max (-20) (min 100 reading), hold := s.thermal.hold
      warm := if s.station = .active ∨ s.station = .outside then (s.withReading reading).warmAfter else s.thermal.warm
      hot := if s.station = .active then (s.withReading reading).hotAfter else s.thermal.hot } := by
  cases hs : s.station with
  | starting => rw [takeReading_of_starting_unset (.inl hs)]; rfl
  | unset => rw [takeReading_of_starting_unset (.inr hs)]; rfl
  | active => rw [takeReading_active_thermal hs]; rfl
  | outside => rw [takeReading_outside_thermal hs]; rfl

/-- In ACTIVE and OUTSIDE both lines are driven after the reading. -/
theorem takeReading_lines (hs : s.station = .active ∨ s.station = .outside) :
    (takeReading s reading).lines.slwAsserted = (takeReading s reading).thermal.slwCondition
    ∧ (takeReading s reading).lines.rdyReleased = (takeReading s reading).rdyCondition := by
  rcases hs with hs | hs
  · rw [takeReading_of_active hs]
    exact driveLines_lines _
  · rw [takeReading_of_outside hs]
    exact driveLines_lines _

/-- A label that is voided already is not voided again: the row that ends is told of its context as it stands. -/
theorem takeReading_rowEnds_of_voided (h : s.station = .active) (hcold : s.thermal.hot = false)
    (hhot : (takeReading s reading).thermal.hot = true) {i : CtxId} (hv : (s.ctx i).voided ≠ none) :
    s.RowEndsAtOnce i (s.ctx i) (takeReading s reading) := by
  have hends := takeReading_rowEnds h hcold hhot i
  have hctx := voidAllHot_ctx_of_voided (s := s.hotBegun reading) (i := i) (by simpa using hv)
  rw [hotBegun_hotSeqs, hotBegun_ctx] at hctx
  rwa [hctx] at hends

theorem takeReading_rowEnds_of_fresh (h : s.station = .active) (hcold : s.thermal.hot = false)
    (hhot : (takeReading s reading).thermal.hot = true) {i : CtxId}
    (hlabel : (s.ctx i).state = .running ∨ (s.ctx i).state = .ending) (hv : s.labelVoided (s.ctx i).seq = false) :
    s.RowEndsAtOnce i { s.ctx i with voided := some ((s.ctx i).voided.getD .hot) } (takeReading s reading) := by
  have hends := takeReading_rowEnds h hcold hhot i
  have hctx := voidAllHot_ctx_of_fresh (s := s.hotBegun reading) (i := i) (by simpa using hlabel) (by simpa using hv)
  have hholds : (s.ctx i).holds (s.ctx i).seq = true :=
    Context.holds_iff.2 ⟨by rcases hlabel with h | h <;> simp [h], rfl⟩
  rw [hotBegun_hotSeqs, hotBegun_ctx] at hctx
  rw [(State.labelVoided_eq_false.1 hv).1 i hholds]
  rwa [hctx] at hends

/-- The end of the hold count leaves SLW to Warm and Hot (log 16). -/
theorem slwCondition_of_hold (h : s.thermal.hold = 0) : s.thermal.slwCondition = (s.thermal.warm || s.thermal.hot) := by
  simp [Thermal.slwCondition, h]

theorem driveSlw_changesLatched (s : State) : ChangesLatched s (driveSlw s) := by
  unfold driveSlw
  exact .after (setCond_changesLatched _ .slow _) rfl rfl

/-- The driver of SLW changes no other condition. -/
theorem driveSlw_isIn_other {c : Cond} (h : c ≠ .slow) :
    c.isIn (driveSlw s).report.values = c.isIn s.report.values := by
  simp [driveSlw, setCond_isIn_other _ _ _ _ h]

end HotBegun

/-- Settles O50: the entry into Hot is told of the state in which Hot has just been set. -/
theorem readingsAndSlw : Obligations.ReadingsAndSlw := by
  refine ⟨fun reading s => ⟨takeReading s reading, rfl, ?_, ?_, fun hs => ?_, fun hs => ⟨?_, takeReading_lines hs⟩,
    fun hs => ?_, fun hs => ?_, fun hact hcold hhot => ?_, takeReading_seq s reading, fun c hc => ?_, ?_⟩,
    fun s => ⟨fun hhold => ?_, fun hhold => ?_⟩⟩
  · rw [takeReading_thermal]
  · rw [takeReading_thermal]
  · rw [takeReading_of_starting_unset hs]
    rfl
  · simp only [takeReading_thermal, if_pos hs]
    rfl
  · simp [takeReading_thermal, hs]
  · simp only [takeReading_thermal, if_pos hs]
    rfl
  · intro voids
    let w := s.hotBegun reading
    have ht : takeReading s reading = driveLines (hotEntered w) := takeReading_of_hotBegun hact hcold hhot
    have hctx : ∀ i, (takeReading s reading).ctx i = (hotEntered w).ctx i := fun i => by simp [ht]
    refine ⟨fun p hp => hotEntered_plan (s := w) (by simpa [ht] using hp), fun hlen => ?_,
      fun i => takeReading_rowEnds_of_voided hact hcold hhot,
      fun i hlabel hfresh => ⟨fun hp => ?_, fun hrun hh => ?_, takeReading_rowEnds_of_fresh hact hcold hhot hlabel hfresh⟩⟩
    · have hvq : w.link.voidQueue = s.link.voidQueue := (hotBegun_link s reading).voidQueue
      have hq := hotEntered_voidQueue (s := w) (by rw [hvq]; exact hlen)
      rw [ht, (driveLines_onlyTx _).voidQueue]
      simpa [w, hvq] using hq
    · have hmark := hotEntered_ctx_of_fresh (s := w) (i := i) (by simpa [w] using hlabel) (by simpa [w] using hfresh)
        (by simpa [w] using hp)
      rw [hctx, hmark, hotBegun_ctx]
    · rw [hctx, hotEntered_voided_of_running (s := w)] <;> simp [w, hrun, hfresh, hh]
  · exact (takeReading_changesLatched s reading).changed c hc
  · apply State.ext
    case link => exact takeReading_link s reading
    all_goals simp
  · refine ⟨driveSlw s, by simp [exec, execSlwHoldExpiry, hhold], ?_, ?_, fun c hc => ⟨?_, ?_⟩, ?_⟩
    · rw [driveSlw_lines, slwCondition_of_hold hhold]
    · simp [driveSlw]
    · exact Decidable.byContradiction fun hne => hc (driveSlw_isIn_other hne)
    · exact (driveSlw_changesLatched s).changed c hc
    · apply State.ext
      case link => exact driveSlw_onlyTx s
      all_goals simp
  · simp [exec, execSlwHoldExpiry, hhold]

end Sys2Proof.Machine

/-! ### The cut, and the row that the pulse takes after it (O47) -/

namespace Sys2Proof.Machine

/-! #### What a row's events leave: the label sequence but its marks, the thermal state but the hold count -/

/-- From `s` to `t` entries of the queue may be marked, the hold count may move, and Frames dropped and Reports
dropped stay set. -/
structure RowFrame (s t : State) : Prop where
  seq     : t.seq = { s.seq with queue := t.seq.queue }
  thermal : t.thermal = { s.thermal with hold := t.thermal.hold }
  drops   : DropsStay s t

/-- A Free context stays, and a mark Voided stays, or is Late row, or goes with its label. -/
def Context.PassesTo (c d : Context) : Prop :=
  (c.state = .free → d = c) ∧ (d.voided = c.voided ∨ d.voided = some .lateRow ∨ d = Context.free)

/-- From `s` to `t` no mark Voided comes but Late row. -/
structure OnlyLate (s t : State) : Prop where
  ctx     : ∀ j, (s.ctx j).PassesTo (t.ctx j)
  entries : ∀ e ∈ t.seq.queue, e ∈ s.seq.queue ∨ e.voided = some .lateRow

section RowFrames
variable {s t u : State}

theorem RowFrame.of_same (hseq : t.seq = s.seq) (hthermal : t.thermal = { s.thermal with hold := t.thermal.hold })
    (hreport : t.report = s.report) : RowFrame s t :=
  ⟨by rw [hseq], hthermal, .of_report hreport⟩

theorem RowFrame.trans (h : RowFrame s u) (h' : RowFrame u t) : RowFrame s t where
  seq := by rw [h'.seq, h.seq]
  thermal := by rw [h'.thermal, h.thermal]
  drops := h.drops.trans h'.drops

theorem Context.PassesTo.refl (c : Context) : c.PassesTo c := ⟨fun _ => rfl, .inl rfl⟩

theorem Context.PassesTo.trans {c d e : Context} (h : c.PassesTo d) (h' : d.PassesTo e) : c.PassesTo e := by
  obtain ⟨hfree, hvoided⟩ := h
  obtain ⟨hfree', hvoided'⟩ := h'
  refine ⟨fun hc => ?_, ?_⟩
  · have hd := hfree hc
    rw [hfree' (by rw [hd, hc]), hd]
  · rcases hvoided' with hv | hv | hv
    · rcases hvoided with hw | hw | hw
      · exact .inl (hv.trans hw)
      · exact .inr (.inl (hv.trans hw))
      · exact .inr (.inr (by rw [hfree' (by rw [hw]; rfl), hw]))
    · exact .inr (.inl hv)
    · exact .inr (.inr hv)

theorem OnlyLate.of_same (hctx : ∀ j, t.ctx j = s.ctx j) (hseq : t.seq = s.seq) : OnlyLate s t where
  ctx j := by
    rw [hctx]
    exact .refl _
  entries e he := .inl (by rwa [hseq] at he)

theorem OnlyLate.trans (h : OnlyLate s u) (h' : OnlyLate u t) : OnlyLate s t where
  ctx j := (h.ctx j).trans (h'.ctx j)
  entries e he := (h'.entries e he).elim (h.entries e) .inr

/-- A context rewritten with its mark as it was, when it is not Free. -/
theorem OnlyLate.setCtx {i : CtxId} {c : Context} (hfree : (s.ctx i).state ≠ .free)
    (hvoided : c.voided = (s.ctx i).voided) : OnlyLate s (s.setCtx i c) where
  ctx j := by
    rw [State.setCtx_ctx]
    split
    · rename_i hj
      subst hj
      exact ⟨fun hf => absurd hf hfree, .inl hvoided⟩
    · exact .refl _
  entries e he := .inl (by simpa using he)

/-! #### The parts of a row's events -/

theorem ownVoid_rowFrame (s : State) (seq : Nat) (reason : Reason) : RowFrame s (ownVoid s seq reason) where
  seq := by
    rcases hv : s.labelVoided seq with _ | _
    · rw [ownVoid_seq hv]
    · rw [ownVoid_of_voided hv]
  thermal := by simp
  drops := ownVoid_dropsStay s seq reason

theorem ownVoid_onlyLate (s : State) (seq : Nat) : OnlyLate s (ownVoid s seq .lateRow) := by
  rcases hv : s.labelVoided seq with _ | _
  · refine ⟨fun j => ?_, fun e he => ?_⟩
    · rw [ownVoid_ctx hv]
      split
      · rename_i hj
        obtain ⟨hfree, -⟩ := Context.holds_iff.1 hj
        exact ⟨fun hf => absurd hf hfree, .inr (.inl rfl)⟩
      · exact .refl _
    · rw [ownVoid_seq hv] at he
      obtain ⟨e', he', rfl⟩ := List.mem_map.1 he
      split
      · exact .inr rfl
      · exact .inl he'
  · rw [ownVoid_of_voided hv]
    exact .of_same (fun _ => rfl) rfl

theorem completeIfEnding_rowFrame (s : State) (i : CtxId) : RowFrame s (completeIfEnding s i) where
  seq := by simp
  thermal := by simp
  drops := by
    unfold completeIfEnding
    split
    · exact completeLabel_dropsStay s i
    · exact .of_report rfl

theorem completeIfEnding_onlyLate {i : CtxId} (hfree : (s.ctx i).state ≠ .free) : OnlyLate s (completeIfEnding s i) := by
  unfold completeIfEnding
  split
  · refine ⟨fun j => ?_, fun e he => .inl (by simpa using he)⟩
    rw [completeLabel_ctx]
    split
    · rename_i hj
      exact ⟨fun hf => absurd (hj ▸ hf) hfree, .inr (.inr rfl)⟩
    · exact .refl _
  · exact .of_same (fun _ => rfl) rfl

theorem endRow_rowFrame (s : State) (seq : Nat) (trimmed miss short : Bool) :
    RowFrame s (endRow s seq trimmed miss short) := by
  cases h : s.runningLabelCtx seq with
  | none => rw [endRow_of_none h]; exact .of_same rfl rfl rfl
  | some i =>
    have hset : RowFrame s (s.setCtx i ((s.ctx i).rowEnded trimmed miss)) := .of_same (by simp) (by simp) (by simp)
    unfold endRow
    simp only [h]
    split
    · exact (hset.trans (ownVoid_rowFrame _ seq .firedShort)).trans (completeIfEnding_rowFrame _ i)
    · exact hset.trans (completeIfEnding_rowFrame _ i)

theorem endRow_onlyLate (s : State) (seq : Nat) (trimmed miss : Bool) :
    OnlyLate s (endRow s seq trimmed miss false) := by
  cases h : s.runningLabelCtx seq with
  | none => rw [endRow_of_none h]; exact .of_same (fun _ => rfl) rfl
  | some i =>
    obtain ⟨hlabel, -⟩ := State.runningLabelCtx_eq_some h
    have hfree : (s.ctx i).state ≠ .free := fun hf => by simp [Context.isRunningLabel_of_free hf] at hlabel
    rw [endRow_of_running h]
    have hset : OnlyLate s (s.setCtx i ((s.ctx i).rowEnded trimmed miss)) := .setCtx hfree rfl
    exact hset.trans (completeIfEnding_onlyLate (by rw [State.setCtx_ctx_self]; exact hfree))

/-- A row's end adds one record at most, that of its label, and none to a full report queue (R37). -/
theorem endRow_records (s : State) (seq : Nat) (trimmed miss : Bool) :
    (∃ more, more.length ≤ 1 ∧ (endRow s seq trimmed miss false).report.queue = s.report.queue ++ more)
    ∧ (8 ≤ s.report.queue.length → (endRow s seq trimmed miss false).report.queue = s.report.queue) := by
  have hsame : ∀ t : State, t.report.queue = s.report.queue →
      (∃ more, more.length ≤ 1 ∧ t.report.queue = s.report.queue ++ more)
      ∧ (8 ≤ s.report.queue.length → t.report.queue = s.report.queue) := fun t h => ⟨⟨[], by simp, by simp [h]⟩, fun _ => h⟩
  cases h : s.runningLabelCtx seq with
  | none => exact hsame _ (by rw [endRow_of_none h])
  | some i =>
    rw [endRow_of_running h]
    unfold completeIfEnding
    split
    · obtain ⟨hroom, hfull⟩ := completeLabel_placed (s.setCtx i ((s.ctx i).rowEnded trimmed miss)) i
      rw [State.setCtx_report] at hroom hfull
      refine ⟨?_, fun hlen => (hfull hlen).1⟩
      rcases Nat.lt_or_ge s.report.queue.length 8 with hlt | hge
      · exact ⟨_, by simp, hroom hlt⟩
      · exact ⟨[], by simp, by simp [(hfull hge).1]⟩
    · exact hsame _ (by simp)

end RowFrames

/-! #### The row that the pulse takes (R30, R120, R121) -/

section Handed
variable {s : State} {i : CtxId}

/-- What the firing unit does with a row: it enters the history and ends, or its first load begins. -/
theorem takeRow_cases (hrun : (s.ctx i).state = .running) :
    (∃ (ring : Ring) (y : Slot), ring.history = (s.ring.history ++ [y]).drop (s.ring.history.length - 1)
      ∧ takeRow s i = endRow (rowMarked s i ring) (s.ctx i).seq false false false)
    ∨ ∃ (x : Slot) (p : Plan), p.step.stage = .load ∧ takeRow s i = beginFiring (s.setCtx i (s.ctx i).takeRow) x p := by
  by_cases hrow : ((s.ctx i).h = none ∧ 5 ≤ (s.ctx i).taken) ∨ ∀ x, s.ring.findRow (s.ctx i).seq (s.ctx i).taken = some x →
      (s.ctx i).voided ≠ none ∨ (s.ctx i).cancelled = true ∨ s.thermal.hot = true ∨ x.demand = 0
  · obtain ⟨ring, hhistory, htake⟩ := takeRow_unplanned hrun hrow
    exact .inl ⟨ring, _, hhistory, htake⟩
  · obtain ⟨hopen, hslot⟩ := not_or.1 hrow
    push Not at hslot
    obtain ⟨x, hfind, -⟩ := hslot
    simp only [takeRow, if_neg hopen, State.setCtx_ring, hfind, fireRow]
    split
    · refine .inl ⟨(s.ring.dropRow (s.ctx i).seq (s.ctx i).taken).pushHistory (x.toHistory 0), x.toHistory 0, rfl, ?_⟩
      rw [rowMarked_of_not_voids _ _ _ fun ⟨_, hnone, _⟩ => by simp [hfind] at hnone]
      simp [recordEmpty, rowTaken]
    · exact .inr ⟨x, _, rfl, rfl⟩

/-- What a pulse does with its row. -/
theorem handRow_cases (s : State) : handRow s = recordGap s
    ∨ ∃ i, (s.ctx i).state = .running ∧ (s.ctx i).taken < (s.ctx i).rowLimit ∧ handRow s = takeRow s i := by
  unfold handRow
  split
  · rename_i i hi
    split
    · rename_i hlast
      exact .inr ⟨i, by simpa [Context.isRunning] using State.findCtx_eq_some hi, hlast, rfl⟩
    · exact .inl rfl
  · exact .inl rfl

theorem handRow_of_row (hi : s.runningCtx = some i) (hlast : (s.ctx i).taken < (s.ctx i).rowLimit) :
    handRow s = takeRow s i := by simp [handRow, hi, hlast]

theorem beginFiring_thermal (s : State) (x : Slot) (p : Plan) : (beginFiring s x p).thermal
    = { s.thermal with hold := if 1 ≤ p.trim then 32 else s.thermal.hold } := by
  unfold beginFiring drivePlan
  dsimp only
  split <;> simp [reloadHold]

theorem beginFiring_plan (s : State) (x : Slot) (p : Plan) : (beginFiring s x p).plan = some p := by
  unfold beginFiring drivePlan
  dsimp only
  split <;> simp [reloadHold]

theorem beginFiring_head (s : State) (x : Slot) (p : Plan) : (beginFiring s x p).head = p.lines := by
  unfold beginFiring drivePlan
  dsimp only
  split <;> simp [reloadHold]

theorem beginFiring_history (s : State) (x : Slot) (p : Plan) : (beginFiring s x p).ring.history = s.ring.history := by
  unfold beginFiring drivePlan
  dsimp only
  split <;> simp [reloadHold, Ring.dropRow]

theorem rowTaken_onlyLate (hrun : (s.ctx i).state = .running) (ring : Ring) : OnlyLate s (rowTaken s i ring) :=
  (OnlyLate.setCtx (c := (s.ctx i).takeRow) (by simp [hrun]) rfl).trans (.of_same (by simp [rowTaken]) (by simp [rowTaken]))

theorem rowMarked_onlyLate (hrun : (s.ctx i).state = .running) (ring : Ring) : OnlyLate s (rowMarked s i ring) := by
  unfold rowMarked
  split
  · exact (rowTaken_onlyLate hrun ring).trans (ownVoid_onlyLate _ _)
  · exact rowTaken_onlyLate hrun ring

theorem rowMarked_rowFrame (s : State) (i : CtxId) (ring : Ring) : RowFrame s (rowMarked s i ring) := by
  have htaken : RowFrame s (rowTaken s i ring) := .of_same (by simp) (by simp) (by simp)
  unfold rowMarked
  split
  · exact htaken.trans (ownVoid_rowFrame _ _ _)
  · exact htaken

/-- The row that a pulse takes brings no mark but Late row. -/
theorem handRow_onlyLate (s : State) : OnlyLate s (handRow s) := by
  rcases handRow_cases s with h | ⟨i, hrun, -, h⟩
  · rw [h]
    exact .of_same (by simp) (by simp)
  · rw [h]
    rcases takeRow_cases hrun with ⟨ring, y, -, h⟩ | ⟨x, p, -, h⟩
    · rw [h]
      exact (rowMarked_onlyLate hrun ring).trans (endRow_onlyLate _ _ _ _)
    · rw [h]
      exact (OnlyLate.setCtx (c := (s.ctx i).takeRow) (by simp [hrun]) rfl).trans (.of_same (by simp) (by simp))

theorem handRow_rowFrame (s : State) : RowFrame s (handRow s) := by
  rcases handRow_cases s with h | ⟨i, hrun, -, h⟩
  · rw [h]
    exact .of_same (by simp) (by simp) (by simp)
  · rw [h]
    rcases takeRow_cases hrun with ⟨ring, y, -, h⟩ | ⟨x, p, -, h⟩
    · rw [h]
      exact (rowMarked_rowFrame s i ring).trans (endRow_rowFrame _ _ _ _ _)
    · rw [h]
      exact .of_same (by simp) (by rw [beginFiring_thermal]; simp) (by simp)

theorem handRow_hsb (h : s.head.hsb = false) : (handRow s).head.hsb = false := by
  rcases handRow_cases s with hhand | ⟨i, hrun, -, hhand⟩
  · simp [hhand, h]
  · rcases takeRow_cases hrun with ⟨ring, y, -, htake⟩ | ⟨x, p, hstage, htake⟩
    · simp [hhand, htake, h]
    · simp [hhand, htake, beginFiring_head, Plan.lines, hstage]

/-- The hold count is reloaded when the row's plan is trimmed (R124). -/
theorem handRow_hold (h : s.plan = none) : (handRow s).thermal.hold
    = if ∃ q ∈ (handRow s).plan, 1 ≤ q.trim then 32 else s.thermal.hold := by
  rcases handRow_cases s with hhand | ⟨i, hrun, -, hhand⟩
  · simp [hhand, h]
  · rcases takeRow_cases hrun with ⟨ring, y, -, htake⟩ | ⟨x, p, -, htake⟩
    · simp [hhand, htake, h]
    · simp [hhand, htake, beginFiring_thermal, beginFiring_plan]

/-- The newest record of the history stays through the row of one pulse: two are kept (R59). -/
theorem handRow_newest {y : Slot} (h : s.ring.history.getLast? = some y) : y ∈ (handRow s).ring.history := by
  have hmem : ∀ z, y ∈ (s.ring.history ++ [z]).drop (s.ring.history.length - 1) := fun z => by
    obtain ⟨older, hold⟩ := List.getLast?_eq_some_iff.1 h
    simp [hold]
  rcases handRow_cases s with hhand | ⟨i, hrun, -, hhand⟩
  · rw [hhand]
    exact hmem gapRecord
  · rcases takeRow_cases hrun with ⟨ring, z, hhistory, htake⟩ | ⟨x, p, -, htake⟩
    · have hring : (handRow s).ring = ring := by simp [hhand, htake]
      rw [hring, hhistory]
      exact hmem z
    · rw [hhand, htake, beginFiring_history, State.setCtx_ring]
      exact List.mem_of_getLast? h

/-- The row places one VOID at most, Late row, and none in a full VOID queue (R121, R139). -/
theorem handRow_voids (s : State) :
    (∃ late, (handRow s).link.voidQueue = s.link.voidQueue ++ late ∧ late.length ≤ 1 ∧ ∀ f ∈ late, f.reason = .lateRow)
    ∧ (4 ≤ s.link.voidQueue.length → (handRow s).link.voidQueue = s.link.voidQueue) := by
  have hsame : ∀ t : State, t.link.voidQueue = s.link.voidQueue →
      (∃ late, t.link.voidQueue = s.link.voidQueue ++ late ∧ late.length ≤ 1 ∧ ∀ f ∈ late, f.reason = .lateRow)
      ∧ (4 ≤ s.link.voidQueue.length → t.link.voidQueue = s.link.voidQueue) :=
    fun t h => ⟨⟨[], by simp [h], by simp, by simp⟩, fun _ => h⟩
  rcases handRow_cases s with hhand | ⟨i, hrun, -, hhand⟩
  · exact hsame _ (by simp [hhand])
  · rcases takeRow_cases hrun with ⟨ring, y, -, htake⟩ | ⟨x, p, -, htake⟩
    · rw [hhand, htake, (endRow_onlyTx _ _ _ _).voidQueue]
      by_cases hv : s.rowVoids i
      · obtain ⟨hroom, hfull⟩ := rowMarked_placed (ring := ring) hrun hv
        refine ⟨?_, fun hlen => (hfull hlen).1⟩
        rcases Nat.lt_or_ge s.link.voidQueue.length 4 with hlt | hge
        · exact ⟨_, (hroom hlt).1, by simp, by simp⟩
        · exact ⟨[], by simp [(hfull hge).1], by simp, by simp⟩
      · exact hsame _ (by rw [rowMarked_of_not_voids _ _ _ hv]; simp)
    · exact hsame _ (by simp [hhand, htake])

theorem handRow_records (s : State) :
    (∃ more, more.length ≤ 1 ∧ (handRow s).report.queue = s.report.queue ++ more)
    ∧ (8 ≤ s.report.queue.length → (handRow s).report.queue = s.report.queue) := by
  rcases handRow_cases s with hhand | ⟨i, hrun, -, hhand⟩
  · rw [hhand]
    exact ⟨⟨[], by simp, by simp⟩, fun _ => by simp⟩
  · rcases takeRow_cases hrun with ⟨ring, y, -, htake⟩ | ⟨x, p, -, htake⟩
    · have h := endRow_records (rowMarked s i ring) (s.ctx i).seq false false
      rw [hhand, htake]
      simpa using h
    · rw [hhand, htake]
      exact ⟨⟨[], by simp, by simp⟩, fun _ => by simp⟩

/-- The running label with more rows to take goes on with the counts that the cut gave it; a label already voided
keeps its mark (R11, R30). -/
theorem handRow_ctx_of_more (hi : s.runningCtx = some i) (hmore : (s.ctx i).taken + 1 < (s.ctx i).rowLimit)
    (hlabel : s.runningLabelCtx (s.ctx i).seq = some i) : ∃ completed voided,
    (handRow s).ctx i = { s.ctx i with taken := (s.ctx i).taken + 1, completed := completed, voided := voided }
    ∧ (voided = (s.ctx i).voided ∨ voided = some .lateRow ∧ s.labelVoided (s.ctx i).seq = false) := by
  have hrun : (s.ctx i).state = .running := by simpa [Context.isRunning] using State.findCtx_eq_some hi
  have hlast : (s.ctx i).taken < (s.ctx i).rowLimit := by omega
  rw [handRow_of_row hi hlast]
  rcases takeRow_cases hrun with ⟨ring, y, -, htake⟩ | ⟨x, p, -, htake⟩
  · have hend := endRow_of_rowTaken hrun hlast (by rw [rowMarked_runningLabelCtx hrun, hlabel])
      (rowMarked_ctx (ring := ring) hrun)
    rw [htake, hend, if_neg (Nat.ne_of_lt hmore), State.setCtx_ctx_self, Context.rowPassed_of_more hmore]
    refine ⟨_, _, rfl, ?_⟩
    unfold State.rowMark
    split
    · rename_i hv
      exact .inr ⟨rfl, hv.2.2⟩
    · exact .inl rfl
  · have hstate : (s.ctx i).h ≠ some ((s.ctx i).taken + 1) := fun h => by simp [Context.rowLimit, h] at hmore
    rw [htake, beginFiring_ctx, State.setCtx_ctx_self]
    exact ⟨(s.ctx i).completed, (s.ctx i).voided, by simp [Context.takeRow, hstate], .inl rfl⟩

end Handed

/-! #### The cut (R127) -/

/-- The hold count reloaded, when there is a finding for it (R133). -/
def holdReloaded (reload : Bool) (s : State) : State := if reload then reloadHold s else s

section HoldReloaded
variable (reload : Bool) (s : State)

@[simp] theorem holdReloaded_frame : (holdReloaded reload s).station = s.station ∧ (holdReloaded reload s).seq = s.seq
    ∧ (holdReloaded reload s).loader = s.loader ∧ (holdReloaded reload s).ring = s.ring
    ∧ (holdReloaded reload s).plan = s.plan ∧ (holdReloaded reload s).head = s.head
    ∧ (holdReloaded reload s).link = s.link ∧ (holdReloaded reload s).report = s.report := by
  unfold holdReloaded
  split <;> simp [reloadHold]

@[simp] theorem holdReloaded_ctx (j : CtxId) : (holdReloaded reload s).ctx j = s.ctx j := by
  unfold holdReloaded
  split <;> simp [reloadHold]

theorem holdReloaded_thermal : (holdReloaded reload s).thermal
    = { s.thermal with hold := if reload then 32 else s.thermal.hold } := by
  unfold holdReloaded
  split <;> simp [reloadHold]

end HoldReloaded

section Cut
variable {s : State} {p : Plan} {i : CtxId}

theorem cutFlight_of_plan (hp : s.plan = some p) : cutFlight s = holdReloaded (s.cutTrimmed p || s.cutShort p)
    (endRow (flightOver s p) p.seq (s.cutTrimmed p) p.miss (s.cutShort p)) := by
  simp only [cutFlight, hp, endFlight_eq]
  rfl

theorem cutFlight_hold (hp : s.plan = some p) : (cutFlight s).thermal.hold
    = if s.cutTrimmed p || s.cutShort p then 32 else s.thermal.hold := by
  simp [cutFlight_of_plan hp, holdReloaded_thermal, flightOver]

/-- The context of the cut row's label, before the label may complete. -/
def State.cutEnded (s : State) (p : Plan) (i : CtxId) : Context := (s.ctx i).rowEnded (s.cutTrimmed p) p.miss

/-- A cut without the finding short: no VOID. -/
theorem cutFlight_unshort (hp : s.plan = some p) (hi : s.runningLabelCtx p.seq = some i) (h : s.cutShort p = false) :
    cutFlight s = holdReloaded (s.cutTrimmed p) (completeIfEnding (rowOver s p i (s.cutEnded p i)) i) := by
  rw [cutFlight_of_plan hp, h, Bool.or_false, ← endFlight_eq, endFlight_unshort hi]
  rfl

/-- A cut with the finding short: the label is voided before it may complete (R127). -/
theorem cutFlight_short (hp : s.plan = some p) (hi : s.runningLabelCtx p.seq = some i) (h : s.cutShort p = true) :
    cutFlight s = holdReloaded true
      (completeIfEnding (ownVoid (rowOver s p i (s.cutEnded p i)) p.seq .firedShort) i) := by
  have hi' : (flightOver s p).runningLabelCtx p.seq = some i := by rw [flightOver_runningLabelCtx, hi]
  rw [cutFlight_of_plan hp, h, Bool.or_true, endRow]
  simp [hi', rowOver, State.cutEnded]

theorem cutFlight_rowFrame (s : State) : RowFrame s (cutFlight s) := by
  cases hp : s.plan with
  | none => rw [cutFlight_of_none hp]; exact .of_same rfl rfl rfl
  | some p =>
    have hover : RowFrame s (flightOver s p) := .of_same (by simp) (by simp [flightOver]) (by simp)
    have hhold : ∀ b u, RowFrame u (holdReloaded b u) := fun b u =>
      .of_same (by simp) (by rw [holdReloaded_thermal]) (by simp)
    rw [cutFlight_of_plan hp]
    exact (hover.trans (endRow_rowFrame _ _ _ _ _)).trans (hhold _ _)

theorem cutFlight_onlyLate (hp : s.plan = some p) (h : s.cutShort p = false) : OnlyLate s (cutFlight s) := by
  have hover : OnlyLate s (flightOver s p) := .of_same (by simp) (by simp)
  have hend : OnlyLate s (endRow (flightOver s p) p.seq (s.cutTrimmed p) p.miss false) :=
    hover.trans (endRow_onlyLate _ _ _ _)
  rw [cutFlight_of_plan hp, h]
  exact hend.trans (.of_same (by simp) (by simp))

/-- What a cut leaves of the row, told of the label's context `c` when it has taken the row's end: the row is over,
and the label goes on or completes. -/
structure RowCut (s : State) (p : Plan) (i : CtxId) (x : Slot) (c : Context) (u : State) : Prop where
  plan   : u.plan = none
  hsb    : u.head.hsb = false
  newest : u.ring.history.getLast? = some { x with state := .history, fired := p.fired }
  others : (u.ctx i.other).state = (s.ctx i.other).state ∧ (u.ctx i.other).seq = (s.ctx i.other).seq
  goes   : c.endsNow = false → u.ctx i = c
  ends   : c.endsNow = true → u.ctx i = Context.free ∧ RecordPlaced s c.completedRecord u

/-- The label's end at its last row, of a state in which the row is over. -/
theorem RowCut.of_completeIfEnding {v : State} {x : Slot} (reload : Bool) (hplan : v.plan = none)
    (hhead : v.head = HeadLines.idle)
    (hnewest : v.ring.history.getLast? = some { x with state := .history, fired := p.fired })
    (hother : (v.ctx i.other).state = (s.ctx i.other).state ∧ (v.ctx i.other).seq = (s.ctx i.other).seq)
    (hqueue : v.report.queue = s.report.queue) :
    RowCut s p i x (v.ctx i) (holdReloaded reload (completeIfEnding v i)) where
  plan := by simp [hplan]
  hsb := by simp [hhead, HeadLines.idle]
  newest := by simpa using hnewest
  others := by simpa [completeIfEnding_ctx_other (CtxId.other_ne i)] using hother
  goes h := by simp [completeIfEnding_of_not_endsNow h]
  ends h := by
    rw [completeIfEnding_of_endsNow h]
    exact ⟨by simp, (completeLabel_placed v i).mono hqueue (by simp) (.of_report (by simp))⟩

theorem rowOver_newest {x : Slot} (hx : s.ring.firing = some x) (c : Context) :
    (rowOver s p i c).ring.history.getLast? = some { x with state := .history, fired := p.fired } := by
  have hdrop : s.ring.history.length - 1 ≤ s.ring.history.length := by omega
  rw [rowOver_ring hx]
  simp [List.drop_append_of_le_length hdrop]

/-- The mark Voided of the label when the row is cut: Fired short for a lost main pulse, when it is not voided yet. -/
def State.cutVoided (s : State) (p : Plan) (i : CtxId) : Option Reason :=
  if s.cutShort p = true ∧ s.labelVoided p.seq = false then some .firedShort else (s.ctx i).voided

theorem rowOver_labelVoided {c : Context} (hstate : c.state = (s.ctx i).state) (hseq : c.seq = (s.ctx i).seq)
    (hvoided : c.voided = (s.ctx i).voided) (q : Nat) : (rowOver s p i c).labelVoided q = s.labelVoided q := by
  have hctx : ∀ j, ((rowOver s p i c).ctx j).holds q = (s.ctx j).holds q
      ∧ ((rowOver s p i c).ctx j).voided = (s.ctx j).voided := fun j => by
    rw [rowOver_ctx]
    split
    · rename_i hj
      subst hj
      exact ⟨by simp [Context.holds, Context.isFree, hstate, hseq], hvoided⟩
    · exact ⟨rfl, rfl⟩
  rw [Bool.eq_iff_iff, State.labelVoided_iff, State.labelVoided_iff]
  simp [hctx]

@[simp] theorem cutEnded_kept (s : State) (p : Plan) (i : CtxId) : (s.cutEnded p i).state = (s.ctx i).state
    ∧ (s.cutEnded p i).seq = (s.ctx i).seq ∧ (s.cutEnded p i).voided = (s.ctx i).voided := by
  simp [State.cutEnded, Context.rowEnded]

theorem rowOver_cutEnded_labelVoided (s : State) (p : Plan) (i : CtxId) (q : Nat) :
    (rowOver s p i (s.cutEnded p i)).labelVoided q = s.labelVoided q := by
  obtain ⟨hstate, hseq, hvoided⟩ := cutEnded_kept s p i
  exact rowOver_labelVoided hstate hseq hvoided q

/-- The label after the finding short, in a state in which the row is over. -/
theorem ownVoid_rowOver_ctx (hi : s.runningLabelCtx p.seq = some i) (h : s.cutShort p = true) :
    (ownVoid (rowOver s p i (s.cutEnded p i)) p.seq .firedShort).ctx i
      = { s.cutEnded p i with voided := s.cutVoided p i } := by
  obtain ⟨hlabel, hseq⟩ := State.runningLabelCtx_eq_some hi
  have hholds : (s.cutEnded p i).holds p.seq = true := Context.holds_of_runningLabel (c := s.cutEnded p i) hlabel hseq
  unfold State.cutVoided
  rcases hv : s.labelVoided p.seq with _ | _
  · rw [ownVoid_ctx (by rw [rowOver_cutEnded_labelVoided, hv]), rowOver_ctx, if_pos rfl, if_pos hholds]
    simp [h]
  · rw [ownVoid_of_voided (by rw [rowOver_cutEnded_labelVoided, hv]), rowOver_ctx, if_pos rfl]
    simp [State.cutEnded, Context.rowEnded]

/-- The cut row, its label marked when a main pulse was lost. -/
theorem cutFlight_rowCut {x : Slot} (hp : s.plan = some p) (hx : s.ring.firing = some x)
    (hi : s.runningLabelCtx p.seq = some i) :
    RowCut s p i x { s.cutEnded p i with voided := s.cutVoided p i } (cutFlight s) := by
  have hnewest := rowOver_newest (p := p) (i := i) hx (s.cutEnded p i)
  rcases h : s.cutShort p with _ | _
  · have hcut := RowCut.of_completeIfEnding (s := s) (p := p) (i := i) (v := rowOver s p i (s.cutEnded p i)) (x := x)
      (s.cutTrimmed p) (by simp) (by simp) hnewest (by simp [rowOver_ctx]) (by simp)
    rw [rowOver_ctx, if_pos rfl] at hcut
    have hsame : ({ s.cutEnded p i with voided := s.cutVoided p i } : Context) = s.cutEnded p i := by
      simp [State.cutVoided, h, State.cutEnded, Context.rowEnded]
    rwa [hsame, cutFlight_unshort hp hi h]
  · have hother := ownVoid_shape (rowOver s p i (s.cutEnded p i)) p.seq .firedShort i.other
    have hcut := RowCut.of_completeIfEnding (s := s) (p := p) (i := i)
      (v := ownVoid (rowOver s p i (s.cutEnded p i)) p.seq .firedShort) (x := x) true (by simp) (by simp)
      (by simpa using hnewest) (by simpa [rowOver_ctx] using hother) (by simp)
    rwa [ownVoid_rowOver_ctx hi h, ← cutFlight_short hp hi h] at hcut

/-- A cut without the finding short places no VOID. -/
theorem cutFlight_voidQueue (hp : s.plan = some p) (h : s.cutShort p = false) :
    (cutFlight s).link.voidQueue = s.link.voidQueue := by
  rw [cutFlight_of_plan hp, h, (holdReloaded_frame _ _).2.2.2.2.2.2.1, (endRow_onlyTx _ _ _ _).voidQueue]
  simp

/-- A lost main pulse voids the label with its VOID (R127). -/
theorem cutFlight_voidPlaced (hp : s.plan = some p) (hi : s.runningLabelCtx p.seq = some i) (h : s.cutShort p = true)
    (hv : s.labelVoided p.seq = false) : VoidPlaced s { seq := p.seq, reason := .firedShort } (cutFlight s) := by
  let v := ownVoid (rowOver s p i (s.cutEnded p i)) p.seq .firedShort
  have hplaced : VoidPlaced (rowOver s p i (s.cutEnded p i)) { seq := p.seq, reason := .firedShort } v :=
    ownVoid_placed (by rw [rowOver_cutEnded_labelVoided, hv]) _
  have hlink : v.link.OnlyTx (completeIfEnding v i).link := completeIfEnding_onlyTx v i
  rw [cutFlight_short hp hi h]
  exact hplaced.mono (by simp) (by simp) (by simpa using hlink.voidQueue) (by simpa using hlink.counts)
    ((completeIfEnding_rowFrame v i).drops.trans (.of_report (by simp [v])))

end Cut

/-! #### The arming of the context that a completed label leaves (R21, R34) -/

/-- A Free context is armed by what follows the row, or the other one is, or neither. -/
theorem afterRow_freedThenArmed {s v : State} {i : CtxId} (hs : v.station = .active) (hfree : v.ctx i = Context.free)
    (hloader : v.loader = s.loader) : s.FreedThenArmed i (afterRow v) := by
  have hctx : ∀ j, (afterRow v).ctx j = (arm (purgeStale v)).ctx j := fun j => by simp [afterRow]
  refine ⟨fun hq => by rw [afterRow_ctx_of_empty (by simpa using hq), hfree], fun e rest hq => ?_⟩
  have hq' : v.seq.queue = e :: rest := by simpa using hq
  have hstays : (afterRow v).ctx i.other = v.ctx i.other → ((s.setCtx i Context.free).setCtx i.other
      ((afterRow v).ctx i.other)).ArmsHead (afterRow v).seq.queue (afterRow v) := fun hother => by
    have hsame : ∀ j, ((s.setCtx i Context.free).setCtx i.other ((afterRow v).ctx i.other)).ctx j = v.ctx j := fun j => by
      rw [State.setCtx_ctx, State.setCtx_ctx, hother]
      rcases CtxId.eq_or_eq_other i j with rfl | rfl
      · simp [hfree]
      · simp
    rw [show (afterRow v).seq.queue = v.seq.queue by simp]
    exact (afterRow_armsHead hs).congr (hsame .a) (hsame .b) (by simp [hloader]) rfl rfl rfl
  rcases arm_cases (purgeStale v) with harm | ⟨e', rest', k, hqueue, hheld, -, -, harm⟩
  · exact ⟨fun _ => by rw [hctx, harm, purgeStale_ctx, hfree],
      fun _ => hstays (by rw [hctx, harm, purgeStale_ctx])⟩
  · obtain ⟨rfl, rfl⟩ : e' = e ∧ rest' = rest := by simpa [hq'] using hqueue.symm
    rcases CtxId.eq_or_eq_other i k with rfl | rfl
    · have hother : (afterRow v).ctx k.other = v.ctx k.other := by simp [hctx, harm]
      refine ⟨fun ⟨hloading, hseq⟩ => ?_, fun _ => hstays hother⟩
      rw [hother] at hloading hseq
      have hhead : (purgeStale v).headHeld e' = true :=
        State.headHeld_iff.2 ⟨k.other, by simp [Context.isNext, hloading], by simpa using hseq⟩
      simp [hheld] at hhead
    · refine ⟨fun _ => ?_, fun hno => absurd ?_ hno⟩
      · rw [hctx, harm, State.setLoader_ctx, State.setCtx_ctx_other _ _ _ _ (CtxId.other_ne i).symm, purgeStale_ctx, hfree]
      · simp [hctx, harm, JobEntry.toContext]

/-! #### The row pulse that cuts a row -/

/-- The state after a row pulse in ACTIVE. -/
def rowPulsed (dt : Nat) (s : State) : State := afterRow (handRow (cutFlight (pulseBegun dt s)))

theorem rowPulsed_frame (dt : Nat) (s : State) : rowPulsed dt s = { s with
    seq := { s.seq with queue := (rowPulsed dt s).seq.queue }
    ctxA := (rowPulsed dt s).ctxA, ctxB := (rowPulsed dt s).ctxB, loader := (rowPulsed dt s).loader
    raster := (rowPulsed dt s).raster, ring := (rowPulsed dt s).ring, timer := (rowPulsed dt s).timer
    plan := (rowPulsed dt s).plan, head := (rowPulsed dt s).head
    thermal := { s.thermal with hold := (rowPulsed dt s).thermal.hold }
    lines := { s.lines with slwAsserted := (rowPulsed dt s).lines.slwAsserted }
    link := { s.link.withLabelTraffic (rowPulsed dt s).link with quiet := (rowPulsed dt s).link.quiet }
    peers := (rowPulsed dt s).peers, report := (rowPulsed dt s).report } := by
  let u := cutFlight (pulseBegun dt s)
  have hseq : (rowPulsed dt s).seq = (handRow u).seq := by simp [rowPulsed, u]
  have hthermal : (rowPulsed dt s).thermal = (handRow u).thermal := by simp [rowPulsed, u]
  have hframe : RowFrame (pulseBegun dt s) (rowPulsed dt s) :=
    ((cutFlight_rowFrame _).trans (handRow_rowFrame u)).trans ⟨by rw [hseq], by rw [hthermal], afterRow_dropsStay _⟩
  have hlink : (pulseBegun dt s).link.OnlyLabels (rowPulsed dt s).link :=
    ((cutFlight_onlyVoids _).labels.trans (handRow_onlyVoids u).labels).trans (afterRow_onlyDemand _).labels
  apply State.ext
  case seq => simpa using hframe.seq
  case thermal => simpa using hframe.thermal
  case link =>
    rw [hlink, pulseBegun_link dt s]
    rfl
  case lines => exact lines_eq_of_rdyReleased (by simp [rowPulsed])
  all_goals simp [rowPulsed]

section Pulse
variable (dt : Nat) {s : State} {p : Plan} {i : CtxId} {x : Slot}

@[simp] theorem pulseBegun_runningLabelCtx (s : State) (q : Nat) :
    (pulseBegun dt s).runningLabelCtx q = s.runningLabelCtx q :=
  State.runningLabelCtx_congr (fun j => by simp) q

@[simp] theorem pulseBegun_labelVoided (s : State) (q : Nat) : (pulseBegun dt s).labelVoided q = s.labelVoided q := by
  simp [State.labelVoided]

@[simp] theorem pulseBegun_cut (s : State) (p : Plan) : (pulseBegun dt s).cutShort p = s.cutShort p
    ∧ (pulseBegun dt s).cutTrimmed p = s.cutTrimmed p := by
  simp [State.cutShort, State.cutTrimmed, State.flightMarked]

/-- The context of the cut row's label, with its mark, before the label may complete. -/
def State.cutContext (s : State) (p : Plan) (i : CtxId) : Context :=
  { s.cutEnded p i with voided := s.cutVoided p i }

@[simp] theorem cutContext_kept (s : State) (p : Plan) (i : CtxId) : (s.cutContext p i).state = (s.ctx i).state
    ∧ (s.cutContext p i).seq = (s.ctx i).seq ∧ (s.cutContext p i).h = (s.ctx i).h
    ∧ (s.cutContext p i).taken = (s.ctx i).taken ∧ (s.cutContext p i).voided = s.cutVoided p i := by
  simp [State.cutContext, State.cutEnded, Context.rowEnded]

section Flight
variable (hs : s.station = .active) (hp : s.plan = some p) (hx : s.ring.firing = some x)
  (hi : s.runningLabelCtx p.seq = some i)
include hp hx hi

/-- The cut, told of the state before the pulse. -/
theorem pulseBegun_rowCut : RowCut s p i x (s.cutContext p i) (cutFlight (pulseBegun dt s)) := by
  have hcut := cutFlight_rowCut (s := pulseBegun dt s) (p := p) (i := i) (x := x) (by simpa using hp)
    (by simpa using hx) (by simpa using hi)
  have hc : ({ (pulseBegun dt s).cutEnded p i with voided := (pulseBegun dt s).cutVoided p i } : Context)
      = s.cutContext p i := by simp [State.cutContext, State.cutEnded, State.cutVoided]
  rw [hc] at hcut
  obtain ⟨hplan, hhsb, hnewest, hothers, hgoes, hends⟩ := hcut
  refine ⟨hplan, hhsb, hnewest, by simpa using hothers, hgoes, fun h => ?_⟩
  obtain ⟨hfree, hplaced⟩ := hends h
  exact ⟨hfree, hplaced.mono (by simp) rfl (.of_report rfl)⟩

theorem rowPulsed_hsb : (rowPulsed dt s).head.hsb = false := by
  have hcut := pulseBegun_rowCut dt hp hx hi
  simpa [rowPulsed] using handRow_hsb hcut.hsb

theorem rowPulsed_history : { x with state := .history, fired := p.fired } ∈ (rowPulsed dt s).ring.history := by
  have hcut := pulseBegun_rowCut dt hp hx hi
  simpa [rowPulsed] using handRow_newest hcut.newest

theorem rowPulsed_hold : (rowPulsed dt s).thermal.hold = if ∃ q ∈ (rowPulsed dt s).plan, 1 ≤ q.trim then 32
    else if s.cutTrimmed p || s.cutShort p then 32 else s.thermal.hold - 1 := by
  have hcut := pulseBegun_rowCut dt hp hx hi
  have hhold := handRow_hold hcut.plan
  rw [cutFlight_hold (s := pulseBegun dt s) (p := p) (by simpa using hp)] at hhold
  simpa [rowPulsed] using hhold

/-- The running label with more rows goes on with the cut row's counts; one that the cut leaves voided keeps its mark. -/
theorem rowPulsed_ctx_of_more (hrunning : s.runningCtx = some i)
    (hmore : (s.ctx i).taken + 1 < (s.ctx i).h.getD 4800) : ∃ completed voided,
    (rowPulsed dt s).ctx i
      = { s.cutContext p i with taken := (s.ctx i).taken + 1, completed := completed, voided := voided }
    ∧ (voided = s.cutVoided p i ∨ voided = some .lateRow ∧ s.cutVoided p i = none) := by
  obtain ⟨-, -, -, ⟨hstate', hseq'⟩, hgoes, -⟩ := pulseBegun_rowCut dt hp hx hi
  obtain ⟨hstate, hseq, hh, htaken, hvoided⟩ := cutContext_kept s p i
  let u := cutFlight (pulseBegun dt s)
  have hrun : (s.ctx i).state = .running := by simpa [Context.isRunning] using State.findCtx_eq_some hrunning
  have hrows : (s.ctx i).h ≠ none ∨ (s.ctx i).taken < 4800 := by
    cases hh : (s.ctx i).h with
    | none => exact .inr (by simp [hh] at hmore; omega)
    | some n => exact .inl (by simp)
  have hui : u.ctx i = s.cutContext p i :=
    hgoes (Context.endsNow_of_running (hstate.trans hrun) (by rwa [hh, htaken]))
  have hshape : ∀ j, (u.ctx j).state = (s.ctx j).state ∧ (u.ctx j).seq = (s.ctx j).seq := fun j => by
    rcases CtxId.eq_or_eq_other i j with rfl | rfl
    · rw [hui]
      exact ⟨hstate, hseq⟩
    · exact ⟨hstate', hseq'⟩
  have hurunning : u.runningCtx = some i := by
    rw [← hrunning]
    exact State.findCtx_congr fun j => by simp [Context.isRunning, (hshape j).1]
  have hulabel : u.runningLabelCtx (u.ctx i).seq = some i := by
    obtain ⟨-, hlabelseq⟩ := State.runningLabelCtx_eq_some hi
    rw [State.runningLabelCtx_congr hshape, hui, hseq, hlabelseq, hi]
  obtain ⟨completed, voided, hctx, hmark⟩ := handRow_ctx_of_more hurunning
    (by rw [hui, Context.rowLimit, hh, htaken]; exact hmore) hulabel
  rw [hui] at hctx hmark
  refine ⟨completed, voided, ?_, ?_⟩
  · rw [rowPulsed, afterRow_ctx_of_not_free, hctx, htaken]
    rw [hctx]
    simp [hrun]
  · rw [hvoided] at hmark
    refine hmark.imp id fun ⟨hlate, hv⟩ => ⟨hlate, ?_⟩
    have hholds : (u.ctx i).holds (u.ctx i).seq = true := Context.holds_iff.2 ⟨by simp [hui, hrun], rfl⟩
    rw [← hui] at hv
    have hnone := (State.labelVoided_eq_false.1 hv).1 i hholds
    rwa [hui, hvoided] at hnone

/-- The record of a label in Ending, and one more at most. -/
theorem rowPulsed_records (hending : (s.ctx i).state = .ending) (hroom : s.report.queue.length < 8) :
    ∃ more, more.length ≤ 1
      ∧ (rowPulsed dt s).report.queue = s.report.queue ++ (s.cutContext p i).completedRecord :: more := by
  obtain ⟨-, -, -, -, -, hends⟩ := pulseBegun_rowCut dt hp hx hi
  obtain ⟨-, hplaced⟩ := hends (Context.endsNow_of_ending (by simpa using hending))
  obtain ⟨⟨more, hlen, hmore⟩, -⟩ := handRow_records (cutFlight (pulseBegun dt s))
  exact ⟨more, hlen, by simp [rowPulsed, hmore, hplaced.1 hroom]⟩

include hs in
/-- A label in Ending leaves its context, and a full report queue drops its record (R34, R37). -/
theorem rowPulsed_ending (hending : (s.ctx i).state = .ending) :
    s.FreedThenArmed i (rowPulsed dt s) ∧ (8 ≤ s.report.queue.length →
      (rowPulsed dt s).report.queue = s.report.queue
      ∧ Cond.reportsDropped.isIn (rowPulsed dt s).report.values = true) := by
  obtain ⟨-, -, -, -, -, hends⟩ := pulseBegun_rowCut dt hp hx hi
  obtain ⟨hfree, -, hfull⟩ := hends (Context.endsNow_of_ending (by simpa using hending))
  let u := cutFlight (pulseBegun dt s)
  have hkept : (handRow u).ctx i = u.ctx i := ((handRow_onlyLate u).ctx i).1 (by rw [hfree]; rfl)
  refine ⟨afterRow_freedThenArmed (by simp [hs]) (hkept.trans hfree) (by simp), fun hlen => ?_⟩
  obtain ⟨hqueue, hdropped⟩ := hfull hlen
  obtain ⟨-, hsame⟩ := handRow_records u
  refine ⟨by simp [rowPulsed, u, hsame (by rw [hqueue]; exact hlen), hqueue], ?_⟩
  exact ((handRow_rowFrame u).drops.trans (afterRow_dropsStay _)) _ (.inr rfl) hdropped

end Flight

/-- With no main pulse lost the row that the pulse takes alone may place a VOID. -/
theorem rowPulsed_voids_of_unshort (hp : s.plan = some p) (h : s.cutShort p = false) :
    ∃ late, (rowPulsed dt s).link.voidQueue = s.link.voidQueue ++ late ∧ late.length ≤ 1
      ∧ ∀ f ∈ late, f.reason = .lateRow := by
  have hcut := cutFlight_voidQueue (s := pulseBegun dt s) (p := p) (by simpa using hp) (by simpa using h)
  obtain ⟨late, hlate, hlen, hreason⟩ := (handRow_voids (cutFlight (pulseBegun dt s))).1
  refine ⟨late, ?_, hlen, hreason⟩
  rw [rowPulsed, (afterRow_onlyDemand _).voidQueue, hlate, hcut, pulseBegun_link dt s]

/-- A lost main pulse places its VOID before that of the row (R127, R139). -/
theorem rowPulsed_voids_of_short (hp : s.plan = some p) (hi : s.runningLabelCtx p.seq = some i)
    (h : s.cutShort p = true) (hv : s.labelVoided p.seq = false) :
    (s.link.voidQueue.length < 4 → ∃ late, (rowPulsed dt s).link.voidQueue
        = s.link.voidQueue ++ { seq := p.seq, reason := .firedShort } :: late
      ∧ late.length ≤ 1 ∧ ∀ f ∈ late, f.reason = .lateRow)
    ∧ (4 ≤ s.link.voidQueue.length → (rowPulsed dt s).link.voidQueue = s.link.voidQueue
      ∧ Cond.framesDropped.isIn (rowPulsed dt s).report.values = true) := by
  let u := cutFlight (pulseBegun dt s)
  have hplaced : VoidPlaced (pulseBegun dt s) { seq := p.seq, reason := .firedShort } u :=
    cutFlight_voidPlaced (by simpa using hp) (by simpa using hi) (by simpa using h) (by simpa using hv)
  have hqueue : (pulseBegun dt s).link.voidQueue = s.link.voidQueue := by rw [pulseBegun_link dt s]
  obtain ⟨hroom, hfull⟩ := hplaced
  rw [hqueue] at hroom hfull
  obtain ⟨⟨late, hlate, hlen, hreason⟩, hsame⟩ := handRow_voids u
  have ht : (rowPulsed dt s).link.voidQueue = (handRow u).link.voidQueue := (afterRow_onlyDemand _).voidQueue
  refine ⟨fun hlt => ⟨late, ?_, hlen, hreason⟩, fun hge => ?_⟩
  · rw [ht, hlate, (hroom hlt).1, List.append_assoc]
    rfl
  · obtain ⟨hkept, -, hdropped⟩ := hfull hge
    refine ⟨by rw [ht, hsame (by rw [hkept]; exact hge), hkept], ?_⟩
    exact ((handRow_rowFrame u).drops.trans (afterRow_dropsStay _)) _ (.inl rfl) hdropped

/-- With no main pulse lost no mark Voided comes but Late row, and an armed head brings its own. -/
theorem rowPulsed_marks_of_unshort (hp : s.plan = some p) (h : s.cutShort p = false) :
    (∀ e ∈ (rowPulsed dt s).seq.queue, e.voided = some .firedShort → e ∈ s.seq.queue)
    ∧ ∀ j, ((rowPulsed dt s).ctx j).voided = some .firedShort → (s.ctx j).voided = some .firedShort
        ∨ ∃ e ∈ s.seq.queue, e.seq = ((rowPulsed dt s).ctx j).seq ∧ e.voided = some .firedShort := by
  let v := handRow (cutFlight (pulseBegun dt s))
  have hlate : OnlyLate (pulseBegun dt s) v :=
    (cutFlight_onlyLate (p := p) (by simpa using hp) (by simpa using h)).trans (handRow_onlyLate _)
  have hentry : ∀ e ∈ v.seq.queue, e.voided = some .firedShort → e ∈ s.seq.queue := fun e he hv => by
    rcases hlate.entries e he with hmem | hl
    · simpa using hmem
    · simp [hv] at hl
  have hctx : ∀ j, (rowPulsed dt s).ctx j = (arm (purgeStale v)).ctx j := fun j => by simp [rowPulsed, afterRow, v]
  refine ⟨fun e he => hentry e (by simpa [rowPulsed] using he), fun j hj => ?_⟩
  rw [hctx] at hj ⊢
  rcases arm_ctx_of_free (purgeStale v) j with hkept | ⟨e, rest, hq, harmed⟩
  · rw [hkept, purgeStale_ctx] at hj
    obtain ⟨-, hv | hv | hv⟩ := hlate.ctx j
    · exact .inl (by simpa [hj] using hv.symm)
    · simp [hj] at hv
    · simp [hv, Context.free] at hj
  · rw [harmed] at hj ⊢
    exact .inr ⟨e, hentry e (by simp [show v.seq.queue = e :: rest by simpa using hq]) hj, rfl, hj⟩

end Pulse

/-! #### The findings of a cut (R127, R128) -/

section Findings
variable {s : State} {p : Plan} {i : CtxId} (hi : s.runningLabelCtx p.seq = some i)
include hi

theorem flightMarked_iff : s.flightMarked p = true
    ↔ p.stopping = true ∨ (s.ctx i).voided ≠ none ∨ (s.ctx i).cancelled = true := by
  have hsome : (s.ctx i).voided.isSome = true ↔ (s.ctx i).voided ≠ none := by cases (s.ctx i).voided <;> simp
  simp [State.flightMarked, hi, Context.marked, hsome]

end Findings

theorem Plan.losesMain_iff {p : Plan} :
    p.losesMain = true ↔ p.step.boost = none ∨ p.step.phase + 1 < p.phases.length := by
  simp [Plan.losesMain]

theorem cutContext_of_planTrimmed {s : State} {p : Plan} (h : s.cutTrimmed p = decide (1 ≤ p.trim)) (i : CtxId) :
    s.cutContext p i = { s.ctx i with
      completed := (s.ctx i).completed + 1, trimmed := (s.ctx i).trimmed + (if 1 ≤ p.trim then 1 else 0),
      light := (s.ctx i).light || decide (1 ≤ p.trim), miss := (s.ctx i).miss + (if p.miss then 1 else 0),
      voided := s.cutVoided p i } := by
  rw [State.cutContext, State.cutEnded, h, rowEnded_eq]

theorem cutContext_of_trimmed {s : State} {p : Plan} (h : s.cutTrimmed p = true) (i : CtxId) :
    s.cutContext p i = { s.ctx i with
      completed := (s.ctx i).completed + 1, trimmed := (s.ctx i).trimmed + 1, light := true,
      miss := (s.ctx i).miss + (if p.miss then 1 else 0), voided := s.cutVoided p i } := by
  rw [State.cutContext, State.cutEnded, h]
  cases hm : p.miss <;> simp [Context.rowEnded]

/-- Settles O47: the cut's findings decide the case, and the row that the pulse takes after it adds what it may. -/
theorem rowPulseCuts : Obligations.RowPulseCuts := by
  refine ⟨fun dt s i p x hs hp hx hstop hi hvoided hcancelled => ?_, fun dt s i p x hs hp hx hi hmarked => ?_⟩
  · intro c lost goesOn
    have hmark : s.flightMarked p = false := by
      rw [← Bool.not_eq_true, flightMarked_iff hi]
      simp [hstop, hvoided, hcancelled]
    have hseq : c.seq = p.seq := (State.runningLabelCtx_eq_some hi).2
    have hshort : s.cutShort p = true ↔ lost := by simp [State.cutShort, hmark, Plan.losesMain_iff, lost]
    have hreload : (s.cutTrimmed p || s.cutShort p) = true := by
      rcases hl : p.losesMain with _ | _ <;> simp [State.cutTrimmed, State.cutShort, hmark, hl]
    refine ⟨rowPulsed dt s, exec_rowPulse_active hs dt, rowPulsed_hsb dt hp hx hi,
      by simp [rowPulsed_hold dt hp hx hi, hreload], rowPulsed_history dt hp hx hi, fun hlost hfresh => ?_, fun hkept => ?_,
      rowPulsed_ending dt hs hp hx hi, rowPulsed_frame dt s⟩
    · have hcut : s.cutShort p = true := hshort.2 hlost
      have hv : s.cutVoided p i = some .firedShort := by simp [State.cutVoided, hcut, hfresh]
      obtain ⟨hroom, hfull⟩ := rowPulsed_voids_of_short dt hp hi hcut hfresh
      refine ⟨hroom, hfull, fun ⟨hrunning, hmore⟩ => ?_, fun hending hlt => ?_⟩
      · obtain ⟨completed, voided, hctx, hmark'⟩ := rowPulsed_ctx_of_more dt hp hx hi hrunning hmore
        rw [hctx]
        exact ⟨by simpa using hseq, by simpa [hv] using hmark'⟩
      · have hplan : s.cutTrimmed p = decide (1 ≤ p.trim) := by simp [State.cutTrimmed, hmark, Plan.losesMain_iff.2 hlost]
        have hrecord := rowPulsed_records dt hp hx hi hending hlt
        rwa [cutContext_of_planTrimmed hplan, hv] at hrecord
    · have hcut : s.cutShort p = false := by rw [← Bool.not_eq_true, hshort]; exact hkept
      have htrimmed : s.cutTrimmed p = true := by simpa [hcut] using hreload
      have hv : s.cutVoided p i = c.voided := by simp [State.cutVoided, hcut, c]
      have hcontext := cutContext_of_trimmed htrimmed i
      obtain ⟨hentries, hcontexts⟩ := rowPulsed_marks_of_unshort dt hp hcut
      refine ⟨fun ⟨hrunning, hmore⟩ => ?_, rowPulsed_voids_of_unshort dt hp hcut, hentries, hcontexts,
        fun hending hlt => ?_⟩
      · obtain ⟨completed, voided, hctx, hmark'⟩ := rowPulsed_ctx_of_more dt hp hx hi hrunning hmore
        rw [hctx, hcontext]
        exact ⟨hseq, rfl, rfl, hmark'.imp (fun h => by rw [h, hv]; exact hvoided) And.left⟩
      · have hrecord := rowPulsed_records dt hp hx hi hending hlt
        rwa [hcontext, hv] at hrecord
  · intro c
    have hmark : s.flightMarked p = true := (flightMarked_iff hi).2 hmarked
    have hseq : c.seq = p.seq := (State.runningLabelCtx_eq_some hi).2
    have hcut : s.cutShort p = false := by simp [State.cutShort, hmark]
    have hplan : s.cutTrimmed p = decide (1 ≤ p.trim) := by simp [State.cutTrimmed, hmark]
    have hv : s.cutVoided p i = c.voided := by simp [State.cutVoided, hcut, c]
    have hcontext := cutContext_of_planTrimmed hplan i
    obtain ⟨late, hlate⟩ := rowPulsed_voids_of_unshort dt hp hcut
    refine ⟨rowPulsed dt s, late, exec_rowPulse_active hs dt, rowPulsed_hsb dt hp hx hi, rowPulsed_history dt hp hx hi,
      ?_, hlate, fun hrunning hmore => ?_, fun hending hlt => ?_, rowPulsed_ending dt hs hp hx hi, rowPulsed_frame dt s⟩
    · rw [rowPulsed_hold dt hp hx hi, hplan, hcut]
      by_cases htrim : 1 ≤ p.trim <;> simp [htrim]
    · obtain ⟨completed, voided, hctx, hmark'⟩ := rowPulsed_ctx_of_more dt hp hx hi hrunning hmore
      rw [hv] at hmark'
      rw [hctx, hcontext]
      refine ⟨hseq, rfl, rfl, rfl, rfl, fun r hr => ?_, fun hnone => ?_⟩
      · simpa [hr] using hmark'
      · rcases hmark' with h | ⟨h, -⟩ <;> simp [h, hnone]
    · have hrecord := rowPulsed_records dt hp hx hi hending hlt
      rwa [hcontext, hv] at hrecord

end Sys2Proof.Machine

/-! ### Steps 1 and 2 of a load, and what its elements need (O28) -/

namespace Sys2Proof.Machine

/-! #### Findings of a load (R40, R52) -/

@[simp] theorem Found.refAs_isSome {f : Found} {kind : ObjKind} :
    (f.refAs kind).isSome = true ↔ ∃ e, f.entry = some e ∧ e.kind = kind := by
  unfold Found.refAs
  cases f.entry with
  | none => simp
  | some e => by_cases h : e.kind = kind <;> simp [h]

theorem Found.refAs_of_entry {f : Found} {e : CatEntry} (h : f.entry = some e) :
    f.refAs e.kind = some ⟨e.number, e.generation⟩ := by
  simp [Found.refAs, h]

theorem Found.refAs_eq_none {f : Found} {kind : ObjKind} (h : ∀ e ∈ f.entry, e.kind ≠ kind) :
    f.refAs kind = none := by
  rw [← Option.not_isSome_iff_eq_none, Found.refAs_isSome]
  exact fun ⟨e, he, hk⟩ => h e he hk

@[simp] theorem Found.lead?_eq_none {f : Found} : f.lead? = none ↔ ∀ bs, f.content ≠ some (.lead bs) := by
  unfold Found.lead?
  split <;> simp_all

@[simp] theorem foundFor_zero (served : Option Nat) (found : List Found) : foundFor served found 0 = some none := rfl

theorem foundFor_eq_none {served : Option Nat} {found : List Found} {n : Nat} (hn : n ≠ 0)
    (h : served = some n ∨ ∀ f ∈ found, f.number ≠ n) : foundFor served found n = none := by
  unfold foundFor
  rw [if_neg hn]
  split
  · rfl
  · have hnone : (found.find? fun f => f.number = n) = none := by
      simpa [List.find?_eq_none] using h.resolve_left ‹_›
    rw [hnone]

theorem foundFor_of_found {served : Option Nat} {found : List Found} {n : Nat} {f : Found} (hn : n ≠ 0)
    (hs : served ≠ some n) (hf : (found.find? fun f => f.number = n) = some f) :
    foundFor served found n = some (if f.entry.isSome then some f else none) := by
  unfold foundFor
  rw [if_neg hn, if_neg hs, hf]

/-! #### The form of a load (R43) -/

section Form
variable {form : Nat} {found : List Found} {f : Found} {status : LoadStatus} {body : FormBody}

theorem formOf_zero (found : List Found) : formOf 0 found = .error (.failed .missingObject) := rfl

theorem formOf_of_not_found (hform : form ≠ 0) (h : ∀ f ∈ found, f.number ≠ form) :
    formOf form found = .error (.lookup form) := by
  have hnone : (found.find? fun f => f.number = form) = none := by simpa [List.find?_eq_none] using h
  unfold formOf
  rw [if_neg hform, hnone]

/-- What the finding of a form gives: it fails when the number names no form, is read, or has been read. -/
theorem formOf_of_found (hform : form ≠ 0) (h : (found.find? fun f => f.number = form) = some f) :
    ((∀ e ∈ f.entry, e.kind ≠ .form) → formOf form found = .error (.failed .missingObject))
    ∧ ∀ e, f.entry = some e → e.kind = .form →
      (f.content = none → formOf form found = .error (.read form))
      ∧ (f.content = some (.form none) → formOf form found = .error (.failed .badForm))
      ∧ ∀ body, f.content = some (.form (some body)) → formOf form found = .ok body := by
  refine ⟨fun hkind => ?_, fun e he hkind => ?_⟩
  · simp [formOf, hform, h, Found.refAs_eq_none hkind]
  · have href : (f.refAs .form).isSome = true := Found.refAs_isSome.2 ⟨e, he, hkind⟩
    refine ⟨fun hc => ?_, fun hc => ?_, fun body hc => ?_⟩ <;> simp only [formOf, hform, h, href, hc, if_true, if_false]

theorem runLoad_of_error (h : formOf form found = .error status) (served : Option Nat) (inp : LoadInput) (l : Load) :
    runLoad served form inp found l = { l with status := status, found := found, lookupWaits := false } := by
  unfold runLoad
  rw [h]

theorem runLoad_of_ok (h : formOf form found = .ok body) (served : Option Nat) (inp : LoadInput) (l : Load) :
    runLoad served form inp found l =
      let r := examineFrom served inp found body.height l.examined (body.elements.drop l.examined) l.acc
      { ctx := l.ctx, status := r.1, found := found, examined := r.2.2, table := r.2.1.table,
        fieldClipped := r.2.1.fieldClipped, substituted := r.2.1.substituted, lookupWaits := false } := by
  unfold runLoad
  rw [h]

end Form

/-! #### Element records (R38 to R40, R75) -/

section Records
variable {m : Memory} {e : CatEntry} {n o j : Nat} {el : Element} {size : Nat}

theorem readBody_size (m : Memory) (e : CatEntry) (o : Nat) : (readBody m e o).map Prod.snd = recordSize m e o := by
  unfold recordSize
  split <;> simp_all [readBody]

theorem readElement_size (m : Memory) (e : CatEntry) (o : Nat) :
    (readElement m e o).map Prod.snd = recordSize m e o := by
  rw [← readBody_size, readElement, Option.map_map]
  rfl

theorem recordSize_of_readElement (h : readElement m e o = some (el, size)) : recordSize m e o = some size := by
  rw [← readElement_size, h]
  rfl

theorem recordOffset_succ (ho : recordOffset m e j = some o) (hsize : recordSize m e o = some size) :
    recordOffset m e (j + 1) = some (o + size) := by
  simp [recordOffset, ho, hsize]

/-- A run of records cannot be read exactly when one of them has an unknown kind (R38). -/
theorem readElements_eq_none (ho : recordOffset m e j = some o) : readElements m e n o = none ↔
    ∃ k o', k < n ∧ recordOffset m e (j + k) = some o' ∧ recordSize m e o' = none := by
  induction n generalizing j o with
  | zero => simp [readElements]
  | succ n ih =>
    rw [readElements]
    cases hr : readElement m e o with
    | none => exact iff_of_true rfl ⟨0, o, by omega, ho, by rw [← readElement_size, hr]; rfl⟩
    | some r =>
      obtain ⟨el, size⟩ := r
      have hsize := recordSize_of_readElement hr
      rw [Option.map_eq_none_iff, ih (recordOffset_succ ho hsize)]
      constructor
      · rintro ⟨k, o', hk, ho', hnone⟩
        exact ⟨k + 1, o', by omega, by rwa [Nat.add_right_comm, Nat.add_assoc] at ho', hnone⟩
      · rintro ⟨k, o', hk, ho', hnone⟩
        cases k with
        | zero =>
          have : o = o' := Option.some.inj (ho.symm.trans ho')
          simp [← this, hsize] at hnone
        | succ k => exact ⟨k, o', by omega, by rwa [Nat.add_assoc, Nat.add_comm 1 k], hnone⟩

/-- Each element that a run of records gives is the one read at its record's offset (R38). -/
theorem readElements_eq_some {els : List Element} (ho : recordOffset m e j = some o)
    (h : readElements m e n o = some els) : els.length = n ∧ ∀ k o' el, recordOffset m e (j + k) = some o' →
      els[k]? = some el → ∃ size, readElement m e o' = some (el, size) := by
  induction n generalizing j o els with
  | zero => simp_all [readElements]
  | succ n ih =>
    rw [readElements] at h
    cases hr : readElement m e o with
    | none => simp [hr] at h
    | some r =>
      obtain ⟨el, size⟩ := r
      simp only [hr, Option.map_eq_some_iff] at h
      obtain ⟨rest, hrest, rfl⟩ := h
      obtain ⟨hlen, hread⟩ := ih (recordOffset_succ ho (recordSize_of_readElement hr)) hrest
      refine ⟨by simp [hlen], fun k o' el' ho' hel => ?_⟩
      cases k with
      | zero =>
        have hoo : o = o' := Option.some.inj (ho.symm.trans ho')
        have hee : el = el' := by simpa using hel
        exact ⟨size, by rw [← hoo, ← hee, hr]⟩
      | succ k => exact hread k o' el' (by rwa [Nat.add_assoc, Nat.add_comm 1 k]) (by simpa using hel)

/-- The common fields of a record (R39), and the kind-specific ones by its kind byte (R40, R75). -/
theorem readElement_fields (h : readElement m e o = some (el, size)) :
    let b := fun i => (bodyByte m e (o + i)).toNat
    let half := fun i => bodyHalf m e (o + i)
    (el.x = min 2559 (half 2) ∧ el.y = min 4799 (half 4) ∧ (el.mode = .black ↔ b 1 = 0))
    ∧ (b 0 ≠ 2 → el.rotation = .r0) ∧ (b 0 = 2 → el.rotation = rotationOf (b 6))
    ∧ readBody m e o = some (el.body, size) := by
  intro b half
  simp only [readElement, Option.map_eq_some_iff, Prod.mk.injEq] at h
  obtain ⟨⟨body, size⟩, hbody, rfl, rfl⟩ := h
  refine ⟨by simp [clamp, b, half], fun hkind => ?_, fun hkind => ?_, hbody⟩
  all_goals
    unfold readBody at hbody
    simp only [b] at hkind
    simp only [hkind, if_false, if_true, Nat.reduceEqDiff] at hbody
  · split_ifs at hbody <;> cases hbody <;> rfl
  · cases hbody
    rfl

/-- A form that is read counts 1 to 128 records, all of known kinds; its height is clamped (R38, R43). -/
theorem readForm_eq_some {body : FormBody} (h : readForm m e = some body) :
    body.height = max 1 (min 4800 (bodyHalf m e 0))
    ∧ readElements m e (bodyByte m e 2).toNat 3 = some body.elements := by
  unfold readForm at h
  dsimp only at h
  split at h
  · simp only [Option.map_eq_some_iff] at h
    obtain ⟨els, hels, rfl⟩ := h
    exact ⟨rfl, hels⟩
  · cases h

theorem readForm_eq_none : readForm m e = none ↔ (bodyByte m e 2).toNat = 0 ∨ 128 < (bodyByte m e 2).toNat
    ∨ ∃ k o, k < (bodyByte m e 2).toNat ∧ recordOffset m e k = some o ∧ recordSize m e o = none := by
  have hels : readElements m e (bodyByte m e 2).toNat 3 = none ↔ _ := readElements_eq_none (j := 0) rfl
  simp only [Nat.zero_add] at hels
  rw [← hels]
  unfold readForm
  dsimp only
  split
  · rename_i hcount
    have h0 : (bodyByte m e 2).toNat ≠ 0 := by omega
    have h128 : ¬128 < (bodyByte m e 2).toNat := by omega
    simp [h0, h128]
  · exact iff_of_true rfl (by omega)

end Records

/-! #### An element's object (R43, R45, R47) -/

section Objects
variable {served : Option Nat} {inp : LoadInput} {found : List Found} {h index n : Nat} {el : Element}
  {els : List Element} {acc : LoadAcc} {obj : Option Found}

/-- The load goes past an element with what was found of its object: the element enters the table, or fails the
load. -/
def pastElement (served : Option Nat) (inp : LoadInput) (found : List Found) (h index : Nat) (el : Element)
    (els : List Element) (acc : LoadAcc) (obj : Option Found) : LoadStatus × LoadAcc × Nat :=
  match examine inp h index el obj acc with
  | .ok acc' => examineFrom served inp found h (index + 1) els acc'
  | .error reason => (.failed reason, acc, index)

theorem examineFrom_of_no_object (hno : el.objectNumber inp.number = none) :
    examineFrom served inp found h index (el :: els) acc = pastElement served inp found h index el els acc none := by
  simp only [examineFrom, hno, needsRead, Option.elim, Bool.false_eq_true, if_false]
  rfl

theorem examineFrom_of_not_looked_up (hn : el.objectNumber inp.number = some n)
    (hf : foundFor served found n = none) :
    examineFrom served inp found h index (el :: els) acc = (.lookup n, acc, index) := by
  simp [examineFrom, hn, hf]

theorem examineFrom_of_read_needed (hn : el.objectNumber inp.number = some n)
    (hf : foundFor served found n = some obj) (hr : needsRead el obj = true) :
    examineFrom served inp found h index (el :: els) acc = (.read n, acc, index) := by
  simp [examineFrom, hn, hf, hr]

theorem examineFrom_of_object (hn : el.objectNumber inp.number = some n)
    (hf : foundFor served found n = some obj) (hr : needsRead el obj = false) :
    examineFrom served inp found h index (el :: els) acc = pastElement served inp found h index el els acc obj := by
  simp only [examineFrom, hn, hf, hr, Option.elim, Bool.false_eq_true, if_false]
  rfl

/-- At an element the load stops for a lookup or a read, with nothing changed, or it goes past the element. -/
theorem examineFrom_cons_cases : (∃ n status, (status = .lookup n ∨ status = .read n)
      ∧ examineFrom served inp found h index (el :: els) acc = (status, acc, index))
    ∨ ∃ obj, examineFrom served inp found h index (el :: els) acc
        = pastElement served inp found h index el els acc obj := by
  cases hn : el.objectNumber inp.number with
  | none => exact .inr ⟨none, examineFrom_of_no_object hn⟩
  | some n =>
    cases hf : foundFor served found n with
    | none => exact .inl ⟨n, _, .inl rfl, examineFrom_of_not_looked_up hn hf⟩
    | some obj =>
      cases hr : needsRead el obj with
      | true => exact .inl ⟨n, _, .inr rfl, examineFrom_of_read_needed hn hf hr⟩
      | false => exact .inr ⟨obj, examineFrom_of_object hn hf hr⟩

theorem needsRead_some {f : Found} : needsRead el (some f) = true ↔
    (∃ e, f.entry = some e ∧ e.kind = el.objectKind) ∧ ∀ bs, f.content ≠ some (.lead bs) := by
  simp [needsRead]

/-- Which elements need an object: a Text its glyph set, and a Graphic left of the slice's right end its graphic
(log 32). -/
theorem objectNumber_eq_some {number : Nat} : el.objectNumber number = some n ↔
    (∃ source mx my maxChars, el.body = .text n source mx my maxChars)
      ∨ (el.body = .graphic n ∧ el.x ≤ 640 * number + 639) := by
  unfold Element.objectNumber sliceStart Config.sliceWidth
  cases el.body <;> simp
  omega

end Objects

/-- Settles O28: each of the three parts by cases on what the load has found, the records by induction on their
count. -/
theorem loadFailures : Obligations.LoadFailures := by
  refine ⟨fun served form inp found l => ?_, fun m e => ?_, fun served inp found h index el els acc => ?_⟩
  · intro k stays
    refine ⟨?_, fun hform hno => runLoad_of_error (formOf_of_not_found hform hno) .., fun f hform hf => ?_⟩
    · rintro rfl
      exact runLoad_of_error (formOf_zero found) ..
    · obtain ⟨hother, hof⟩ := formOf_of_found hform hf
      refine ⟨fun hkind => runLoad_of_error (hother hkind) .., fun e he hkind => ?_⟩
      obtain ⟨hunread, hbad, hread⟩ := hof e he hkind
      exact ⟨fun hc => runLoad_of_error (hunread hc) .., fun hc => runLoad_of_error (hbad hc) ..,
        fun body hc => ⟨hread body hc, runLoad_of_ok (hread body hc) ..⟩⟩
  · refine ⟨readForm_eq_none, fun body hbody => ?_⟩
    obtain ⟨hheight, hels⟩ := readForm_eq_some hbody
    obtain ⟨hlen, hread⟩ := readElements_eq_some (j := 0) rfl hels
    refine ⟨hheight, hlen, fun k o el ho hel => ?_⟩
    obtain ⟨size, hel⟩ := hread k o el (by rwa [Nat.zero_add]) hel
    intro b half
    obtain ⟨⟨hx, hy, hmode⟩, hupright, hrotation, hkind⟩ := readElement_fields hel
    refine ⟨hx, hy, hmode, hupright, hrotation, fun h0 => ?_, fun h0 => ?_, fun h0 => ?_, fun h0 => ?_⟩
    all_goals
      simp only [b] at h0
      simp only [readBody, h0, Nat.reduceEqDiff, if_true, if_false, Option.some.injEq, Prod.mk.injEq] at hkind
      simp [← hkind.1, clamp, b, half]
  · intro r examined needs
    have hneeds : ∀ n kind, needs n kind ↔ el.objectNumber inp.number = some n ∧ kind = el.objectKind := by
      intro n kind
      rw [objectNumber_eq_some]
      unfold Element.objectKind
      cases hb : el.body <;> simp [needs, hb]
      tauto
    refine ⟨fun hno => ?_, fun n kind hneed => ?_⟩
    · refine examineFrom_of_no_object (Option.eq_none_iff_forall_ne_some.2 fun n hn => ?_)
      exact hno n _ ((hneeds n _).2 ⟨hn, rfl⟩)
    · obtain ⟨hn, rfl⟩ := (hneeds n kind).1 hneed
      refine ⟨?_, fun h0 hf => examineFrom_of_not_looked_up hn (foundFor_eq_none h0 hf), fun f h0 hs hf => ?_⟩
      · rintro rfl
        exact examineFrom_of_object hn (foundFor_zero ..) rfl
      · have hfound := foundFor_of_found h0 hs hf
        refine ⟨fun he => ?_, fun e he => ⟨fun hok => ?_, fun hkind hlead => ?_⟩⟩
        all_goals
          simp only [he, Option.isSome_none, Option.isSome_some, Bool.false_eq_true, if_false, if_true] at hfound
        · exact examineFrom_of_object hn hfound rfl
        · refine examineFrom_of_object hn hfound ?_
          rw [← Bool.not_eq_true, needsRead_some]
          rintro ⟨⟨e', he', hkind⟩, hlead⟩
          obtain rfl : e = e' := Option.some.inj (he.symm.trans he')
          exact hok.elim (· hkind) fun ⟨bs, hbs⟩ => hlead bs hbs
        · exact examineFrom_of_read_needed hn hfound (needsRead_some.2 ⟨⟨e, he, hkind⟩, hlead⟩)

end Sys2Proof.Machine

/-! ### One element of step 3 of a load, and the elements in their order (O29) -/

namespace Sys2Proof.Machine

section Elements
variable {inp : LoadInput} {h index : Nat} {el : Element} {obj : Option Found} {acc : LoadAcc}

/-! #### Clipping and entering (R48, R49) -/

/-- What becomes of an element whose box is `w` by `hgt`: passed over when the box clipped to the label by Equation
(3-3) is empty or misses the slice, and otherwise entered at the table's tail, or failing the load. -/
def enterElement (inp : LoadInput) (h index : Nat) (el : Element) (acc : LoadAcc) (w hgt : Nat)
    (part : Except Reason Part) (clipped subst : Bool) : Except Reason LoadAcc :=
  let found : LoadAcc := { acc with fieldClipped := acc.fieldClipped || clipped,
                                    substituted := acc.substituted || subst }
  let right := min (el.x + w - 1) (640 * inp.n - 1)
  if w = 0 ∨ hgt = 0 ∨ 640 * inp.n ≤ el.x ∨ h ≤ el.y ∨ 640 * inp.number + 639 < el.x ∨ right < 640 * inp.number then
    .ok found
  else match part with
    | .ok p => .ok { found with table := acc.table ++ [{
        index := index, mode := el.mode, x := el.x, y := el.y, c0 := el.x, c1 := right, r0 := el.y,
        r1 := min (el.y + hgt - 1) (h - 1), part := p }] }
    | .error reason => .error reason

theorem meetsSlice_iff {number c0 c1 : Nat} :
    meetsSlice number c0 c1 = true ↔ c0 ≤ 640 * number + 639 ∧ 640 * number ≤ c1 := by
  rw [meetsSlice, Bool.and_eq_true, decide_eq_true_eq, decide_eq_true_eq]
  exact Iff.rfl

/-- An examined element is entered with what it measures. -/
theorem examine_eq_enterElement : examine inp h index el obj acc = enterElement inp h index el acc
    (measure inp el obj).width (measure inp el obj).height (measure inp el obj).part (clipsField inp el)
    (substitutes inp el obj) := by
  unfold examine enterElement clipBox
  generalize measure inp el obj = ms
  dsimp only
  by_cases hbox : ms.width = 0 ∨ ms.height = 0 ∨ 640 * inp.n ≤ el.x ∨ h ≤ el.y
  · rw [if_pos hbox, if_pos (by tauto)]
  · have hslice := @meetsSlice_iff inp.number el.x (min (el.x + ms.width - 1) (640 * inp.n - 1))
    by_cases hout : 640 * inp.number + 639 < el.x ∨ min (el.x + ms.width - 1) (640 * inp.n - 1) < 640 * inp.number
    · rw [if_neg hbox, if_pos (by tauto)]
      exact if_neg (by rw [hslice]; omega)
    · rw [if_neg hbox, if_neg (by tauto)]
      exact (if_pos (hslice.2 (by omega))).trans (by cases ms.part <;> rfl)

/-- An element that is examined without a failure leaves the table, or adds its own entry at the tail. -/
theorem examine_table {acc' : LoadAcc} (he : examine inp h index el obj acc = .ok acc') :
    ∃ new, acc'.table = acc.table ++ new ∧ new.length ≤ 1
      ∧ ∀ e ∈ new, e.index = index ∧ e.mode = el.mode ∧ e.x = el.x ∧ e.y = el.y := by
  rw [examine_eq_enterElement] at he
  unfold enterElement at he
  dsimp only at he
  split at he
  · cases he
    exact ⟨[], by simp⟩
  · split at he
    · cases he
      exact ⟨_, rfl, by simp, by simp⟩
    · cases he

/-! #### Texts and graphics (R42, R44 to R47) -/

theorem bindChar_substituted (bs : List Byte) (b : Byte) :
    (bindChar bs b).substituted = !glyphDefined bs b.toNat := by
  unfold bindChar
  split <;> simp_all

theorem Found.bytes_of_lead {f : Found} {bs : List Byte} (h : f.content = some (.lead bs)) : f.bytes = bs := by
  simp [Found.bytes, Found.lead?, h]

section Text
variable {number mx my maxChars : Nat} {source : TextSource} (hb : el.body = .text number source mx my maxChars)
include hb

theorem clipsField_text : clipsField inp el = decide (maxChars < (boundText inp.fields source).length) := by
  simp [clipsField, hb]

theorem substitutes_text {f : Found} {e : CatEntry} {bs : List Byte} (he : f.entry = some e)
    (hk : e.kind = .glyphSet) (hc : f.content = some (.lead bs)) : substitutes inp el (some f)
      = (((boundText inp.fields source).take maxChars).map (bindChar bs)).any TextChar.substituted := by
  have href := Found.refAs_of_entry he
  rw [hk] at href
  simp only [substitutes, hb, Option.bind_some, href, Option.map_some, Found.bytes_of_lead hc, List.any_map]
  exact congrArg (List.any _) (funext fun b => (bindChar_substituted bs b).symm)

theorem measure_text {f : Found} {e : CatEntry} {bs : List Byte} (he : f.entry = some e)
    (hk : e.kind = .glyphSet) (hc : f.content = some (.lead bs)) : measure inp el (some f)
      = measureText el.rotation mx my ⟨e.number, e.generation⟩ bs ((boundText inp.fields source).take maxChars) := by
  have href := Found.refAs_of_entry he
  rw [hk] at href
  simp [measure, hb, href, Found.bytes_of_lead hc]

theorem substitutes_text_absent (hno : ∀ f ∈ obj, ∀ e ∈ f.entry, e.kind ≠ .glyphSet) :
    substitutes inp el obj = false := by
  cases obj with
  | none => simp [substitutes, hb]
  | some f => simp [substitutes, hb, Found.refAs_eq_none (hno f rfl)]

theorem measure_text_absent (hno : ∀ f ∈ obj, ∀ e ∈ f.entry, e.kind ≠ .glyphSet) :
    measure inp el obj = measureAbsent el.x el.y := by
  cases obj with
  | none => simp [measure, hb]
  | some f => simp [measure, hb, Found.refAs_eq_none (hno f rfl)]

end Text

section Graphic
variable {number : Nat} (hb : el.body = .graphic number)
include hb

theorem measure_graphic {f : Found} {e : CatEntry} {bs : List Byte} (he : f.entry = some e)
    (hk : e.kind = .graphic) (hc : f.content = some (.lead bs)) :
    measure inp el (some f) = measureGraphic ⟨e.number, e.generation⟩ bs := by
  have href := Found.refAs_of_entry he
  rw [hk] at href
  simp [measure, hb, href, Found.bytes_of_lead hc]

theorem measure_graphic_absent (hno : ∀ f ∈ obj, ∀ e ∈ f.entry, e.kind ≠ .graphic) :
    measure inp el obj = measureAbsent el.x el.y := by
  cases obj with
  | none => simp [measure, hb]
  | some f => simp [measure, hb, Found.refAs_eq_none (hno f rfl)]

theorem examine_graphic_flags : clipsField inp el = false ∧ substitutes inp el obj = false := by
  simp [clipsField, substitutes, hb]

end Graphic

/-- A text's box stands upright at 0 and 180 degrees, and lies on its side at 90 and 270 (R46). -/
theorem measureText_eq (rotation : Rotation) (mx my : Nat) (ref : ObjRef) (lead text : List Byte) :
    let chars := text.map (bindChar lead)
    let w := mx * (chars.map TextChar.advance).sum
    let hgt := my * glyphHeight lead
    let upright := rotation = .r0 ∨ rotation = .r180
    measureText rotation mx my ref lead text = {
      width := if upright then w else hgt, height := if upright then hgt else w,
      part := .ok (.text rotation mx my ref (glyphHeight lead) w hgt chars) } := by
  cases rotation <;> simp [measureText]

theorem natOf_pair (a b : Byte) : natOf [a, b] = 256 * a.toNat + b.toNat := by
  simp [natOf, Nat.mul_comm]

/-! #### Bars (R76 to R83) -/

theorem barRuns_of_good {value : List Byte} (hv : ∀ b ∈ value, 49 ≤ b.toNat ∧ b.toNat ≤ 52) :
    barRuns value = some (value.map fun b => b.toNat - 48) := by
  simpa [barRuns] using hv

theorem barRuns_of_bad {value : List Byte} (hv : ∃ b ∈ value, b.toNat < 49 ∨ 52 < b.toNat) :
    barRuns value = none := by
  obtain ⟨b, hb, hbad⟩ := hv
  simp only [barRuns, ite_eq_right_iff, List.all_eq_true]
  intro hall
  have := hall b hb
  simp only [Bool.and_eq_true, decide_eq_true_eq] at this
  omega

/-- Bar `k` of a list whose first bar has the number `first` meets the slice within the label (R83). -/
def BarMeets (number x labelWidth first : Nat) (spans : List (Nat × Nat)) (k : Nat) : Prop :=
  ∃ b, first ≤ k ∧ spans[k - first]? = some b ∧ x + b.1 < labelWidth
    ∧ x + b.1 ≤ 640 * number + 639 ∧ 640 * number ≤ min (x + b.1 + b.2 - 1) (labelWidth - 1)

section Bars
variable {number x labelWidth first k : Nat} {b : Nat × Nat} {spans : List (Nat × Nat)}

theorem not_barMeets_nil : ¬BarMeets number x labelWidth first [] k := by simp [BarMeets]

theorem barMeets_cons : BarMeets number x labelWidth first (b :: spans) k ↔
    (k = first ∧ x + b.1 < labelWidth
      ∧ meetsSlice number (x + b.1) (min (x + b.1 + b.2 - 1) (labelWidth - 1)) = true)
    ∨ BarMeets number x labelWidth (first + 1) spans k := by
  rw [meetsSlice_iff]
  constructor
  · rintro ⟨b', hk, hb', hmeets⟩
    rcases Nat.eq_or_lt_of_le hk with rfl | hlt
    · obtain rfl : b = b' := by simpa using hb'
      exact .inl ⟨rfl, hmeets⟩
    · refine .inr ⟨b', hlt, ?_, hmeets⟩
      rwa [show k - first = k - (first + 1) + 1 by omega, List.getElem?_cons_succ] at hb'
  · rintro (⟨rfl, hmeets⟩ | ⟨b', hk, hb', hmeets⟩)
    · exact ⟨b, le_rfl, by simp, hmeets⟩
    · refine ⟨b', by omega, ?_, hmeets⟩
      rwa [show k - first = k - (first + 1) + 1 by omega, List.getElem?_cons_succ]

/-- The slice bars of a symbol are its lowest and its highest bar that meets the slice (R83). -/
theorem sliceBarsFrom_spec (number x labelWidth first : Nat) (spans : List (Nat × Nat)) :
    (sliceBarsFrom number x labelWidth first spans = none ∧ ∀ k, ¬BarMeets number x labelWidth first spans k)
    ∨ ∃ low high, sliceBarsFrom number x labelWidth first spans = some (low, high)
      ∧ BarMeets number x labelWidth first spans low ∧ BarMeets number x labelWidth first spans high
      ∧ ∀ k, BarMeets number x labelWidth first spans k → low ≤ k ∧ k ≤ high := by
  induction spans generalizing first with
  | nil => exact .inl ⟨rfl, fun k => not_barMeets_nil⟩
  | cons b spans ih =>
    simp only [sliceBarsFrom, barMeets_cons]
    have hlater : ∀ k, BarMeets number x labelWidth (first + 1) spans k → first < k := fun k ⟨_, hk, _⟩ => hk
    by_cases hb : x + b.1 < labelWidth
        ∧ meetsSlice number (x + b.1) (min (x + b.1 + b.2 - 1) (labelWidth - 1)) = true
    · rw [if_pos hb]
      rcases ih (first + 1) with ⟨hnone, hno⟩ | ⟨low, high, hsome, hlow, hhigh, hall⟩
      · refine .inr ⟨first, first, by rw [hnone], .inl ⟨rfl, hb⟩, .inl ⟨rfl, hb⟩, ?_⟩
        rintro k (⟨rfl, -⟩ | hk)
        · exact ⟨le_rfl, le_rfl⟩
        · exact absurd hk (hno k)
      · refine .inr ⟨first, high, by rw [hsome], .inl ⟨rfl, hb⟩, .inr hhigh, ?_⟩
        have := hlater high hhigh
        rintro k (⟨rfl, -⟩ | hk)
        · omega
        · exact ⟨(hlater k hk).le, (hall k hk).2⟩
    · simpa only [hb, and_false, false_or, if_false] using ih (first + 1)

end Bars

/-! #### The elements in their order (R43, R50) -/

/-- At an element the load stops with nothing changed, or it goes on with the next one. -/
theorem examineFrom_cons (served : Option Nat) (inp : LoadInput) (found : List Found) (h index : Nat)
    (el : Element) (els : List Element) (acc : LoadAcc) :
    (∃ status, status ≠ .done ∧ examineFrom served inp found h index (el :: els) acc = (status, acc, index))
    ∨ ∃ obj acc', examine inp h index el obj acc = .ok acc'
      ∧ examineFrom served inp found h index (el :: els) acc
        = examineFrom served inp found h (index + 1) els acc' := by
  rcases examineFrom_cons_cases (served := served) (inp := inp) (found := found) (h := h) (index := index) (el := el)
    (els := els) (acc := acc) with ⟨n, status, hstatus, heq⟩ | ⟨obj, heq⟩
  · exact .inl ⟨status, by rcases hstatus with rfl | rfl <;> simp, heq⟩
  · unfold pastElement at heq
    cases he : examine inp h index el obj acc with
    | error reason => exact .inl ⟨.failed reason, by simp, by rw [heq, he]⟩
    | ok acc' => exact .inr ⟨obj, acc', he, by rw [heq, he]⟩

/-- The entries that the elements `els`, numbered from `index`, have added to a table when the load stands at the
element `stop`: in rising order, each with its element's mode and corner (R50). -/
def EntriesOf (index stop : Nat) (els : List Element) (new : List TableEntry) : Prop :=
  new.Pairwise (fun a b => a.index < b.index)
  ∧ ∀ e ∈ new, index ≤ e.index ∧ e.index < stop
      ∧ ∃ el, els[e.index - index]? = some el ∧ e.mode = el.mode ∧ e.x = el.x ∧ e.y = el.y

theorem EntriesOf.nil (index stop : Nat) (els : List Element) : EntriesOf index stop els [] := by simp [EntriesOf]

theorem EntriesOf.cons {stop : Nat} {els : List Element} {new rest : List TableEntry} (hstop : index < stop)
    (hlen : new.length ≤ 1) (hnew : ∀ e ∈ new, e.index = index ∧ e.mode = el.mode ∧ e.x = el.x ∧ e.y = el.y)
    (hrest : EntriesOf (index + 1) stop els rest) : EntriesOf index stop (el :: els) (new ++ rest) := by
  obtain ⟨hpair, hrest⟩ := hrest
  refine ⟨List.pairwise_append.2 ⟨?_, hpair, fun a ha b hb => ?_⟩, fun e he => ?_⟩
  · match new, hlen with
    | [], _ => exact .nil
    | [e], _ => exact List.pairwise_singleton _ e
  · obtain ⟨hindex, -⟩ := hnew a ha
    obtain ⟨hle, -⟩ := hrest b hb
    omega
  · rcases List.mem_append.1 he with he | he
    · obtain ⟨hindex, hel⟩ := hnew e he
      exact ⟨hindex.ge, by omega, el, by simp [hindex], hel⟩
    · obtain ⟨hle, hlt, el', hget, hel⟩ := hrest e he
      refine ⟨by omega, hlt, el', ?_, hel⟩
      rwa [show e.index - index = e.index - (index + 1) + 1 by omega, List.getElem?_cons_succ]

/-- The elements are examined in form order, up to where the load stands (R43). -/
theorem examineFrom_spec (served : Option Nat) (inp : LoadInput) (found : List Found) (h index : Nat)
    (els : List Element) (acc : LoadAcc) :
    let r := examineFrom served inp found h index els acc
    index ≤ r.2.2 ∧ r.2.2 ≤ index + els.length ∧ (r.1 = .done ↔ r.2.2 = index + els.length)
    ∧ ∃ new, r.2.1.table = acc.table ++ new ∧ EntriesOf index r.2.2 els new := by
  induction els generalizing index acc with
  | nil => exact ⟨le_rfl, le_rfl, by simp [examineFrom], [], by simp [examineFrom], .nil ..⟩
  | cons el els ih =>
    rcases examineFrom_cons served inp found h index el els acc with ⟨status, hstatus, heq⟩ | ⟨obj, acc', he, heq⟩
    · rw [heq]
      exact ⟨le_rfl, by simp, by simp [hstatus], [], by simp, .nil ..⟩
    · obtain ⟨hle, hlt, hdone, rest, hrest, hentries⟩ := ih (index + 1) acc'
      obtain ⟨new, hnew, hlen, hentry⟩ := examine_table he
      rw [heq]
      refine ⟨by omega, by simp; omega, by rw [hdone, List.length_cons]; omega, new ++ rest, ?_, ?_⟩
      · rw [hrest, hnew, List.append_assoc]
      · exact .cons (by omega) hlen hentry hentries

/-! #### The four kinds of element -/

theorem examine_box {w hgt t : Nat} (hb : el.body = .box w hgt t) :
    examine inp h index el obj acc = enterElement inp h index el acc w hgt (.ok (.box w hgt t)) false false := by
  simp [examine_eq_enterElement, measure, clipsField, substitutes, hb]

section Text
variable {number mx my maxChars : Nat} {source : TextSource} (hb : el.body = .text number source mx my maxChars)
include hb

theorem examine_text {f : Found} {e : CatEntry} {bs : List Byte} (he : f.entry = some e)
    (hk : e.kind = .glyphSet) (hc : f.content = some (.lead bs)) :
    let value := boundText inp.fields source
    let chars := (value.take maxChars).map (bindChar bs)
    let w := mx * (chars.map TextChar.advance).sum
    let hgt := my * glyphHeight bs
    let upright := el.rotation = .r0 ∨ el.rotation = .r180
    examine inp h index el (some f) acc = enterElement inp h index el acc (if upright then w else hgt)
      (if upright then hgt else w)
      (.ok (.text el.rotation mx my ⟨e.number, e.generation⟩ (glyphHeight bs) w hgt chars))
      (decide (maxChars < value.length)) (chars.any TextChar.substituted) := by
  rw [examine_eq_enterElement, measure_text hb he hk hc, measureText_eq, clipsField_text hb,
    substitutes_text hb he hk hc]

theorem examine_text_absent (hno : ∀ f ∈ obj, ∀ e ∈ f.entry, e.kind ≠ .glyphSet) :
    examine inp h index el obj acc = enterElement inp h index el acc (2560 - el.x) (4800 - el.y)
      (.error .missingObject) (decide (maxChars < (boundText inp.fields source).length)) false := by
  rw [examine_eq_enterElement, measure_text_absent hb hno, clipsField_text hb, substitutes_text_absent hb hno]
  rfl

end Text

section Graphic
variable {number : Nat} (hb : el.body = .graphic number)
include hb

theorem examine_graphic {f : Found} {e : CatEntry} {bs : List Byte} (he : f.entry = some e)
    (hk : e.kind = .graphic) (hc : f.content = some (.lead bs)) :
    let w := max 1 (min 2560 (256 * (bs.getD 0 0).toNat + (bs.getD 1 0).toNat))
    let hgt := max 1 (min 4800 (256 * (bs.getD 2 0).toNat + (bs.getD 3 0).toNat))
    examine inp h index el (some f) acc
      = enterElement inp h index el acc w hgt (.ok (.graphic ⟨e.number, e.generation⟩ w hgt)) false false := by
  obtain ⟨hclip, hsubst⟩ := examine_graphic_flags hb (inp := inp) (obj := some f)
  rw [examine_eq_enterElement, measure_graphic hb he hk hc, hclip, hsubst]
  simp only [measureGraphic, natOf_pair, clamp]

theorem examine_graphic_absent (hno : ∀ f ∈ obj, ∀ e ∈ f.entry, e.kind ≠ .graphic) :
    examine inp h index el obj acc
      = enterElement inp h index el acc (2560 - el.x) (4800 - el.y) (.error .missingObject) false false := by
  obtain ⟨hclip, hsubst⟩ := examine_graphic_flags hb (inp := inp) (obj := obj)
  rw [examine_eq_enterElement, measure_graphic_absent hb hno, hclip, hsubst]
  rfl

end Graphic

section Bars
variable {field m len r : Nat} {dir : Orientation} (hb : el.body = .bars field m len r dir)
include hb

theorem examine_bars : let ms := measureBars inp el.x el.y m len r dir (fieldValue inp.fields field)
    examine inp h index el obj acc = enterElement inp h index el acc ms.width ms.height ms.part false false := by
  simp [examine_eq_enterElement, measure, clipsField, substitutes, hb]

theorem examine_good_bars (hv : ∀ b ∈ fieldValue inp.fields field, 49 ≤ b.toNat ∧ b.toNat ≤ 52) :
    let value := fieldValue inp.fields field
    let runs := value.map fun b => b.toNat - 48
    let ext := m * runs.sum
    let across := if value = [] then 0 else len
    let re := min r (m - 1)
    let slice := if dir = .picket then sliceBarsFrom inp.number el.x (640 * inp.n) 1 (barSpans m re 0 runs) else none
    examine inp h index el obj acc = enterElement inp h index el acc (if dir = .picket then ext else across)
      (if dir = .picket then across else ext)
      (.ok (.bars dir m len r re runs ext ((runs.length + 1) / 2) slice)) false false := by
  rw [examine_bars hb]
  cases dir <;> simp [measureBars, barRuns_of_good hv, barExtent, effectiveReduction]

theorem examine_bad_bars (hv : ∃ b ∈ fieldValue inp.fields field, b.toNat < 49 ∨ 52 < b.toNat) :
    examine inp h index el obj acc = enterElement inp h index el acc (if dir = .picket then 2560 - el.x else len)
      (if dir = .picket then len else 4800 - el.y) (.error .badBars) false false := by
  rw [examine_bars hb]
  cases dir <;> simp [measureBars, barRuns_of_bad hv]

end Bars

end Elements

/-- Settles O29: each kind of element by what it measures, and the order of the table by induction on the
elements. -/
theorem elementsEntered : Obligations.ElementsEntered := by
  refine ⟨fun inp h index el obj acc => ?_, fun served inp found h index els acc =>
    examineFrom_spec served inp found h index els acc⟩
  intro wide result
  refine ⟨fun w hgt t hb => examine_box hb, fun number source mx my maxChars hb => ?_, fun number hb => ?_,
    fun field m len r dir hb => ?_⟩
  · intro value clipped
    refine ⟨?_, fun hno => examine_text_absent hb hno⟩
    rintro f e bs rfl he hk hc
    exact examine_text hb he hk hc
  · refine ⟨?_, fun hno => examine_graphic_absent hb hno⟩
    rintro f e bs rfl he hk hc
    exact examine_graphic hb he hk hc
  · intro value runs ext across spans meets
    refine ⟨fun hv => ?_, fun hv => examine_bad_bars hb hv⟩
    have hgood := examine_good_bars hb hv (h := h) (index := index) (obj := obj) (acc := acc)
    refine ⟨?_, ?_⟩
    · rintro rfl
      exact ⟨_, sliceBarsFrom_spec inp.number el.x wide 1 spans, hgood⟩
    · rintro rfl
      exact hgood

end Sys2Proof.Machine

/-! ### The reads of the store (O60) -/

namespace Sys2Proof.Machine

/-! #### The loader's reads and lookups (R52, R164, R165) -/

section Reads
variable {s : State} {l : Load}

theorem serveLoaderRead_of_not_read (h : ∀ l ∈ s.loader, ∀ n, l.status ≠ .read n) : serveLoaderRead s = s := by
  unfold serveLoaderRead
  split
  · rfl
  · rename_i l hl
    split
    · rename_i n hn
      exact absurd hn (h l hl n)
    all_goals rfl

/-- Of the store, the loader's read depends on the memory and on the number being served alone. -/
theorem serveLoaderRead_loader_congr {t : State} (hl : s.loader = t.loader) (hform : s.loadForm = t.loadForm)
    (hinp : s.loadInput = t.loadInput) (hm : s.store.memory = t.store.memory)
    (hn : s.store.servedNumber = t.store.servedNumber) : (serveLoaderRead s).loader = (serveLoaderRead t).loader := by
  by_cases h : ∃ l n, s.loader = some l ∧ l.status = .read n
  · obtain ⟨l, n, hs, hread⟩ := h
    rw [serveLoaderRead_of_read hs hread, serveLoaderRead_of_read (hl ▸ hs) hread]
    simp only [advanceLoad, State.setLoader_loader, hform, hinp, hm, hn]
  · have hno : ∀ l ∈ s.loader, ∀ n, l.status ≠ .read n := fun l hs n hread => h ⟨l, n, hs, hread⟩
    rw [serveLoaderRead_of_not_read hno, serveLoaderRead_of_not_read (hl ▸ hno), hl]

theorem serveLoaderRead_eq_setLoader (s : State) : serveLoaderRead s = s.setLoader (serveLoaderRead s).loader := by
  apply State.ext <;> simp

@[simp] theorem serveReads_store (s : State) :
    (serveReads s).store = { s.store with waitLoader := false, waitRaster := false } := rfl

theorem serveReads_loader (s : State) : (serveReads s).loader
    = if s.store.waitLoader = true then (serveLoaderRead s).loader else s.loader := by
  unfold serveReads
  split <;> rfl

theorem noteLookup_lookUp (found : List Found) (cat : List CatEntry) (n : Nat) : noteLookup found (lookUp cat n) =
    if found.any (fun f => decide (f.number = n) && decide (f.entry = catFind cat n)) then found
    else (found.filter fun f => !decide (f.number = n)) ++ [{ number := n, entry := catFind cat n, content := none }] :=
  rfl

/-- A lookup of a number of which nothing is found any more adds what the catalog holds of it. -/
theorem noteLookup_dropFound (found : List Found) (cat : List CatEntry) (n : Nat) :
    noteLookup (dropFound found n) (lookUp cat n)
      = dropFound found n ++ [{ number := n, entry := catFind cat n, content := none }] := by
  have hnone : ¬((dropFound found n).any fun f => decide (f.number = n) && decide (f.entry = catFind cat n)) := by
    simp only [dropFound, List.any_eq_true, List.mem_filter]
    rintro ⟨f, ⟨-, hf⟩, hn⟩
    simp_all
  rw [noteLookup_lookUp, if_neg hnone]
  simp [dropFound]

theorem runLoad_kept (served : Option Nat) (form : Nat) (inp : LoadInput) (found : List Found) (l : Load) :
    (runLoad served form inp found l).ctx = l.ctx ∧ (runLoad served form inp found l).found = found
    ∧ (runLoad served form inp found l).lookupWaits = false := by
  unfold runLoad
  split <;> simp

/-- No lookup of a load in progress waits. -/
def State.NoLookupWaits (s : State) : Prop := ∀ l ∈ s.loader, l.lookupWaits = false

theorem serveReads_noLookupWaits (h : s.NoLookupWaits) : (serveReads s).NoLookupWaits := by
  unfold State.NoLookupWaits
  rw [serveReads_loader]
  split
  · unfold serveLoaderRead
    split
    · exact h
    · split
      · simp [advanceLoad, runLoad_kept]
      all_goals exact h
  · exact h

theorem forgetFound_loader (s : State) (n : Nat) :
    (forgetFound s n).loader = s.loader.map fun l => { l with found := dropFound l.found n } := by
  unfold forgetFound
  cases h : s.loader <;> simp [h]

end Reads

/-! #### The end of a hold (R165) -/

section Holds
variable {st : Store}

/-- With no hold standing, a Suspended operation resumes, and the one due begins in an Idle memory. -/
theorem Store.resume_of_free (hl : st.holdLoader = false) (hr : st.holdRaster = false) :
    st.resume = match st.phase, st.due with
      | .suspended, _ => { st with phase := .running false }
      | .idle, op :: due => { st with current := some op, due := due, phase := .running false }
      | _, _ => st := by
  unfold Store.resume
  rw [if_pos ⟨hl, hr⟩]
  rcases hp : st.phase with _ | _ | _ | _ <;> rcases hd : st.due with _ | ⟨op, due⟩ <;>
    simp [Store.beginDue, hp, hd, hl, hr]

theorem Store.resume_of_held (h : st.holdLoader = true ∨ st.holdRaster = true) : st.resume = st := by
  unfold Store.resume
  rw [if_neg]
  rintro ⟨hl, hr⟩
  simp [hl, hr] at h

end Holds

/-! #### Minimum run and suspend (R163, R164) -/

section Requests
variable {s : State} {l : Load} {r : Render} {n : Nat}

theorem exec_minimumRunComplete (s : State) :
    exec .minimumRunComplete s = .next { s with store := { s.store with
      phase := if s.store.phase = .running false then
        if s.store.waitLoader = true ∨ s.store.waitRaster = true then .suspending else .running true
        else s.store.phase } } := by
  show execMinimumRunComplete s = _
  unfold execMinimumRunComplete
  split
  · rename_i h
    simp [h, Store.readWaits, State.setStore]
  all_goals
    rename_i h
    rw [if_neg (by simp [h])]

theorem exec_suspendComplete_of_not_suspending (h : s.store.phase ≠ .suspending) :
    exec .suspendComplete s = .next s := by
  show execSuspendComplete s = _
  unfold execSuspendComplete
  split <;> simp_all

theorem exec_suspendComplete (h : s.store.phase = .suspending) : exec .suspendComplete s = .next (suspended s) := by
  show execSuspendComplete s = _
  simp [execSuspendComplete, h]

/-- At a suspend's completion every waiting read is served; with no hold left the operation resumes. -/
theorem suspended_eq (s : State) : suspended s = { s with
    loader := if s.store.waitLoader = true then (serveLoaderRead s).loader else s.loader,
    store := { s.store with
      waitLoader := false, waitRaster := false,
      phase := if s.store.holdLoader = true ∨ s.store.holdRaster = true then .suspended else .running false } } := by
  apply State.ext
  case loader =>
    exact (serveReads_loader _).trans
      (if_congr Iff.rfl (serveLoaderRead_loader_congr (t := s) rfl rfl rfl rfl rfl) rfl)
  case store =>
    show Store.resume _ = _
    rw [serveReads_store]
    by_cases h : s.store.holdLoader = true ∨ s.store.holdRaster = true
    · rw [if_pos h]
      exact Store.resume_of_held h
    · rw [if_neg h]
      obtain ⟨hl, hr⟩ := not_or.1 h
      exact Store.resume_of_free (Bool.eq_false_of_not_eq_true hl) (Bool.eq_false_of_not_eq_true hr)
  all_goals simp

/-! #### Read requests (R52, R73, R164) -/

theorem MemPhase.servesReads_iff (p : MemPhase) : p.servesReads = true ↔ p = .idle ∨ p = .suspended := by
  cases p <;> simp [MemPhase.servesReads]

theorem MemPhase.afterRead_eq (p : MemPhase) : p.afterRead = if p = .running true then .suspending else p := by
  unfold MemPhase.afterRead
  split <;> simp_all

theorem MemPhase.afterRead_of_serves {p : MemPhase} (h : p = .idle ∨ p = .suspended) : p.afterRead = p := by
  rcases h with rfl | rfl <;> rfl

/-- The loader may ask: nothing of its load waits. -/
theorem exec_loaderRead (hl : s.loader = some l) (hw : s.store.waitLoader = false) (hq : l.lookupWaits = false) :
    exec (.storeReadRequest .loader .read) s = .next (requestRead s) := by
  show execStoreReadRequest .loader .read s = _
  simp [execStoreReadRequest, hl, hw, hq]

theorem exec_loaderLookup (hl : s.loader = some l) (hw : s.store.waitLoader = false) (hq : l.lookupWaits = false) :
    exec (.storeReadRequest .loader .lookup) s = .next (requestLookup s l) := by
  show execStoreReadRequest .loader .lookup s = _
  simp [execStoreReadRequest, hl, hw, hq]

theorem requestRead_of_served (h : s.store.phase = .idle ∨ s.store.phase = .suspended) : requestRead s = { s with
    loader := (serveLoaderRead s).loader, store := { s.store with holdLoader := true, waitLoader := false } } := by
  have hserves := (MemPhase.servesReads_iff _).2 h
  have hst : s.store.readLoader = { s.store with holdLoader := true, waitLoader := false } := by
    simp [Store.readLoader, hserves, MemPhase.afterRead_of_serves h]
  unfold requestRead
  dsimp only
  rw [if_pos hserves, hst]
  apply State.ext
  case loader => exact serveLoaderRead_loader_congr rfl rfl rfl rfl rfl
  all_goals simp

theorem requestRead_of_waiting (h : ¬(s.store.phase = .idle ∨ s.store.phase = .suspended)) : requestRead s = { s with
    store := { s.store with
      holdLoader := true, waitLoader := true,
      phase := if s.store.phase = .running true then .suspending else s.store.phase } } := by
  have hserves := mt (MemPhase.servesReads_iff _).1 h
  unfold requestRead
  dsimp only
  rw [if_neg hserves, Store.readLoader, MemPhase.afterRead_eq, Bool.eq_false_of_not_eq_true hserves]
  rfl

theorem requestLookup_of_free (hl : s.loader = some l) (hn : l.status = .lookup n)
    (hfree : s.store.servedNumber ≠ some n) :
    requestLookup s l = advanceLoad s l (noteLookup l.found (lookUp s.store.catalog n)) := by
  simp only [requestLookup, hn, hfree, if_false]
  exact serveLookup_of_lookup hl hn

theorem requestLookup_of_served (hn : l.status = .lookup n) (h : s.store.servedNumber = some n) :
    requestLookup s l = (s.setLoader (some { l with lookupWaits := true })).setStore s.store.releaseLoader := by
  simp [requestLookup, hn, h]

theorem exec_loaderRequest_of_waiting
    (h : s.loader = none ∨ s.store.waitLoader = true ∨ ∃ l, s.loader = some l ∧ l.lookupWaits = true)
    (what : ReadKind) : exec (.storeReadRequest .loader what) s = .next s := by
  show execStoreReadRequest .loader what s = _
  cases hl : s.loader with
  | none => cases what <;> simp [execStoreReadRequest, hl]
  | some l =>
    have hw : s.store.waitLoader = true ∨ l.lookupWaits = true := by simpa [hl] using h
    cases what <;> simp [execStoreReadRequest, hl, hw]

theorem exec_rasterRequest (hr : s.raster.rendering = some r) (hreads : r.reads = true)
    (hw : s.store.waitRaster = false) (what : ReadKind) :
    exec (.storeReadRequest .rasterizer what) s = .next { s with store := s.store.readRaster } := by
  show execStoreReadRequest .rasterizer what s = _
  simp [execStoreReadRequest, hr, hreads, hw, State.setStore]

theorem exec_rasterRequest_of_idle
    (h : s.store.waitRaster = true ∨ ∀ r, s.raster.rendering = some r → r.reads = false) (what : ReadKind) :
    exec (.storeReadRequest .rasterizer what) s = .next s := by
  show execStoreReadRequest .rasterizer what s = _
  cases hr : s.raster.rendering with
  | none => simp [execStoreReadRequest, hr]
  | some r =>
    have hw : s.store.waitRaster = true ∨ r.reads = false := by simpa [hr] using h
    simp [execStoreReadRequest, hr, hw]

end Requests

/-! #### The catalog (R153, R160, R161) -/

section Catalog
variable {cat : List CatEntry} {e : CatEntry} {n : Nat}

theorem catFind_eq_none : catFind cat n = none ↔ ∀ x ∈ cat, x.number ≠ n := by
  simp [catFind, List.find?_eq_none]

/-- The entry that a write sets is the one of its number. -/
theorem catFind_setEntry (cat : List CatEntry) (e : CatEntry) : catFind (setEntry cat e) e.number = some e := by
  unfold setEntry
  split
  · rename_i hany
    obtain ⟨y, hy, hye⟩ := List.any_eq_true.1 hany
    have hsame : ((fun x : CatEntry => decide (x.number = e.number)) ∘ fun x => if x.number = e.number then e else x)
        = fun x => decide (x.number = e.number) := by
      funext x
      by_cases hx : x.number = e.number <;> simp [hx]
    rw [catFind, List.find?_map, hsame]
    cases hf : cat.find? fun x => decide (x.number = e.number) with
    | none => exact absurd hye (by simpa using List.find?_eq_none.1 hf y hy)
    | some x =>
      have hx : x.number = e.number := by simpa using List.find?_some hf
      simp [hx]
  · rename_i hany
    have hnone : (cat.find? fun x => decide (x.number = e.number)) = none := by simpa [List.find?_eq_none] using hany
    rw [catFind, List.find?_append, hnone]
    simp

theorem catFind_remove (cat : List CatEntry) (n : Nat) :
    catFind (cat.filter fun x => !decide (x.number = n)) n = none := by
  simp [catFind_eq_none]

end Catalog

/-! #### What the end of a command reaches (R156, R162) -/

/-- From `u` to `v` a served command took its effect: of the store only the write, the catalog and the sector map,
the load in progress, and the record it hands on. -/
structure TakesEffect (u v : State) : Prop where
  store : v.store = { u.store with
    write := v.store.write, catalog := v.store.catalog, sectors := v.store.sectors }
  frame : v = { u with
    loader := v.loader, store := v.store, link := { u.link with tx := v.link.tx }, report := v.report }
  lookups : u.NoLookupWaits → v.NoLookupWaits
  conds : ∀ c : Cond, c ≠ .reportsDropped → c.isIn v.report.values = c.isIn u.report.values

section Effect
variable {s u v t : State}

theorem storeRecord_onlyTx {u : State} (h : u.link = s.link) (cmd : StoreCmd) (number : Nat) (result : StoreResult)
    (generation received : Nat) : s.link.OnlyTx (storeRecord u cmd number result generation received).link :=
  h ▸ pushRecord_onlyTx u _

theorem TakesEffect.refl (u : State) : TakesEffect u u := ⟨rfl, rfl, id, fun _ _ => rfl⟩

theorem TakesEffect.trans (h : TakesEffect u v) (h' : TakesEffect v t) : TakesEffect u t where
  store := h'.store.trans (by rw [h.store])
  frame := h'.frame.trans (by rw [h.frame])
  lookups := h'.lookups ∘ h.lookups
  conds c hc := (h'.conds c hc).trans (h.conds c hc)

theorem setStore_takesEffect {st : Store} (h : st = { u.store with
    write := st.write, catalog := st.catalog, sectors := st.sectors }) : TakesEffect u (u.setStore st) :=
  ⟨h, rfl, id, fun _ _ => rfl⟩

theorem forgetFound_noLookupWaits (h : u.NoLookupWaits) (n : Nat) : (forgetFound u n).NoLookupWaits := by
  unfold State.NoLookupWaits
  rw [forgetFound_loader]
  intro l hl
  obtain ⟨k, hk, rfl⟩ := Option.map_eq_some_iff.1 hl
  exact h k hk

theorem forgetFound_takesEffect (u : State) (n : Nat) : TakesEffect u (forgetFound u n) where
  store := by simp
  frame := by apply State.ext <;> simp
  lookups h := forgetFound_noLookupWaits h n
  conds := by simp

theorem pushRecord_isIn (s : State) (r : Record) {c : Cond} (hc : c ≠ .reportsDropped) :
    c.isIn (pushRecord s r).report.values = c.isIn s.report.values := by
  unfold pushRecord
  split
  · rfl
  · exact setCond_isIn_other s .reportsDropped c true hc

theorem storeRecord_takesEffect (u : State) (cmd : StoreCmd) (number : Nat) (result : StoreResult)
    (generation received : Nat) : TakesEffect u (storeRecord u cmd number result generation received) where
  store := by simp
  frame := by
    apply State.ext
    case link => exact storeRecord_onlyTx rfl ..
    all_goals simp
  lookups h := by simpa [State.NoLookupWaits] using h
  conds c hc := pushRecord_isIn u _ hc

theorem completeServing_takesEffect (u : State) (sv : Serving) : TakesEffect u (completeServing u sv) := by
  unfold completeServing
  split
  case h_5 | h_6 => exact .refl u
  case h_1 | h_2 => exact .trans (setStore_takesEffect rfl) (storeRecord_takesEffect ..)
  all_goals
    exact .trans (setStore_takesEffect rfl) (.trans (forgetFound_takesEffect ..) (storeRecord_takesEffect ..))

theorem failServing_takesEffect (u : State) (sv : Serving) (op : StoreOp) : TakesEffect u (failServing u sv op) := by
  unfold failServing
  split
  case h_4 => exact completeServing_takesEffect u _
  case h_5 => exact storeRecord_takesEffect ..
  case h_6 | h_7 => exact .refl u
  all_goals exact .trans (setStore_takesEffect rfl) (storeRecord_takesEffect ..)

theorem TakesEffect.storeQueue (h : TakesEffect u v) : v.link.storeQueue = u.link.storeQueue := by rw [h.frame]

/-- With no other command and no lookup waiting, a command that has taken its effect leaves the controller waiting. -/
theorem TakesEffect.endServing (h : TakesEffect u v) (hq : u.link.storeQueue = []) (hl : u.NoLookupWaits) :
    endServing v = v.setStore { v.store with serving := none, due := [] } :=
  endServing_of_quiet (h.storeQueue.trans hq) (h.lookups hl)

end Effect

/-! #### A command that ends (R156, R160, R161, R165) -/

section Ends
variable {s : State} {l : Load} {w : WriteCtx} {sv : Serving} {n : Nat} {b : Bool}

theorem Store.servedNumber_eq (st : Store) : st.servedNumber = match st.serving, st.write with
    | some (.delete n), _ => some n
    | some (.stop _), some w => some w.number
    | _, _ => none := by
  unfold Store.servedNumber
  rcases st.serving with _ | (_ | _ | _ | _) <;> cases st.write <;> rfl

theorem Store.servedNumber_eq_some {st : Store} : st.servedNumber = some n ↔
    (∃ b w, st.serving = some (.stop b) ∧ st.write = some w ∧ w.number = n) ∨ st.serving = some (.delete n) := by
  unfold Store.servedNumber
  rcases st.serving with _ | (_ | _ | _ | _) <;> simp

theorem completeServing_begin (s : State) (w : WriteCtx) (dirty : List Nat) : completeServing s (.begin w dirty)
    = storeRecord (s.setStore { s.store with write := some w }) .begin w.number .done w.generation 0 := by
  simp [completeServing]

theorem completeServing_data (hw : s.store.write = some w) (bytes : List Byte) : completeServing s (.data bytes)
    = storeRecord (s.setStore { s.store with write := some (w.takeBytes bytes) }) .data w.number .done w.generation
        (w.takeBytes bytes).received := by
  simp [completeServing, hw]

theorem completeServing_stop (hw : s.store.write = some w) (b : Bool) : completeServing s (.stop b)
    = storeRecord (forgetFound (s.setStore (s.store.commit w)) w.number) .stop w.number .done w.generation
        w.received := by
  simp [completeServing, hw]

theorem completeServing_delete (s : State) (n : Nat) : completeServing s (.delete n)
    = storeRecord (forgetFound (s.setStore (s.store.remove n)) n) .delete n .done (s.store.generationOf n) 0 := by
  simp [completeServing]

theorem continueServing_of_last (h : s.store.serving = some sv) (hd : s.store.due = []) :
    continueServing s = endServing (completeServing s sv) := by
  simp [continueServing, h, hd]

theorem continueServing_of_due {op : StoreOp} {due : List StoreOp} (h : s.store.serving = some sv)
    (hd : s.store.due = op :: due) : continueServing s = s.setStore s.store.beginDue := by
  simp [continueServing, h, hd]

/-- At a command's end, with no other in the queue, a lookup that waited is served from the catalog as it stands. -/
theorem endServing_of_lookup (hl : s.loader = some l) (hw : l.lookupWaits = true) (hn : l.status = .lookup n)
    (hq : s.link.storeQueue = []) : endServing s = advanceLoad (s.setStore { s.store with serving := none, due := [] })
      l (noteLookup l.found (lookUp s.store.catalog n)) := by
  simp [endServing, takeNextStore, serveWaitingLookup, hl, hw, hq,
    serveLookup_of_lookup (s := s.setStore { s.store with serving := none, due := [] }) hl hn]

/-- A STORE-END or STORE-DELETE that ends changes the catalog entry of the number it serves, and a load forgets what
it had found of it. -/
theorem completeServing_served (hn : s.store.servedNumber = some n) (hsv : s.store.serving = some sv) :
    (completeServing s sv).loader = s.loader.map (fun l => { l with found := dropFound l.found n })
    ∧ (sv = .delete n → catFind (completeServing s sv).store.catalog n = none)
    ∧ ∀ w b, sv = .stop b → s.store.write = some w → catFind (completeServing s sv).store.catalog n = some
        { number := n, kind := w.kind, first := w.first, count := w.count, length := w.length,
          generation := w.generation } := by
  rcases Store.servedNumber_eq_some.1 hn with ⟨b, w, hstop, hw, rfl⟩ | hdelete
  · obtain rfl : Serving.stop b = sv := Option.some.inj (hstop.symm.trans hsv)
    rw [completeServing_stop hw]
    refine ⟨by simp [forgetFound_loader], by simp, ?_⟩
    rintro w' b' - hw'
    obtain rfl : w = w' := Option.some.inj (hw.symm.trans hw')
    simp only [storeRecord_frame, forgetFound_frame, State.setStore_store]
    exact catFind_setEntry s.store.catalog w.entry
  · obtain rfl : Serving.delete n = sv := Option.some.inj (hdelete.symm.trans hsv)
    rw [completeServing_delete]
    exact ⟨by simp [forgetFound_loader], by simp [Store.remove, catFind_remove], by simp⟩

/-- The state in which an operation's completion leaves the served command: the memory Idle with the operation made,
the waiting reads served (R164). -/
def operationEnded (s : State) (op : StoreOp) : State := serveReads (s.setStore (s.store.operationDone op))

theorem note_servedNumber (st : Store) (op : StoreOp) : (st.operationDone op).servedNumber = st.servedNumber := by
  unfold Store.operationDone Store.servedNumber
  rcases st.serving with _ | (_ | _ | _ | _) <;> cases op <;> rfl

theorem Serving.note_delete (n : Nat) (op : StoreOp) : (Serving.delete n).note op = .delete n := by cases op <;> rfl

theorem Serving.note_stop (b : Bool) (op : StoreOp) : ∃ b', (Serving.stop b).note op = .stop b' := by
  cases op <;> exact ⟨_, rfl⟩

@[simp] theorem operationEnded_store (s : State) (op : StoreOp) : (operationEnded s op).store = { s.store with
    memory := op.apply s.store.memory, current := none, phase := .idle,
    serving := s.store.serving.map fun sv => sv.note op, waitLoader := false, waitRaster := false } := rfl

@[simp] theorem operationEnded_link (s : State) (op : StoreOp) : (operationEnded s op).link = s.link := by
  simp [operationEnded]

theorem operationEnded_servedNumber (s : State) (op : StoreOp) :
    (operationEnded s op).store.servedNumber = s.store.servedNumber := note_servedNumber s.store op

theorem exec_markProgramComplete {op : StoreOp} (hop : s.store.current = some op) (hmark : op.isMark = true)
    (he : s.store.executing = true) (ha : op.endAddress ≤ Config.storeBytes) :
    exec .markProgramComplete s = .next (continueServing (operationEnded s op)) :=
  completeOp_of_kind hop he hmark ha

end Ends

/-- The hold of one reader ends: with the other's standing nothing more, and otherwise the memory resumes (R165). -/
theorem Store.releaseLoader_eq {st : Store} (h : st.holdLoader = true) :
    st.releaseLoader = { st with holdLoader := false, waitLoader := false }.resume := if_pos h

theorem Store.releaseRaster_eq {st : Store} (h : st.holdRaster = true) :
    st.releaseRaster = { st with holdRaster := false, waitRaster := false }.resume := if_pos h

/-- A lookup that waited for the STORE-END or STORE-DELETE of its number is served at that command's end. -/
theorem exec_markProgramComplete_serves_lookup {s : State} {l : Load} {op : StoreOp} {n : Nat} (hl : s.loader = some l)
    (hw : l.lookupWaits = true) (hs : l.status = .lookup n) (hn : s.store.servedNumber = some n)
    (hop : s.store.current = some op) (hmark : op.isMark = true) (he : s.store.executing = true)
    (ha : op.endAddress ≤ Config.storeBytes) (hdue : s.store.due = []) (hwait : s.store.waitLoader = false)
    (hq : s.link.storeQueue = []) :
    ∃ t k, exec .markProgramComplete s = .next t ∧ t.loader = some k ∧ k.ctx = l.ctx ∧ k.lookupWaits = false
      ∧ t.store.serving = none
      ∧ k.found = (l.found.filter fun f => !decide (f.number = n))
          ++ [{ number := n, entry := catFind t.store.catalog n, content := none }]
      ∧ (s.store.serving = some (.delete n) → catFind t.store.catalog n = none)
      ∧ ∀ w b, s.store.serving = some (.stop b) → s.store.write = some w → catFind t.store.catalog n = some
          { number := n, kind := w.kind, first := w.first, count := w.count, length := w.length,
            generation := w.generation } := by
  let u := operationEnded s op
  have hserved : u.store.servedNumber = some n := (operationEnded_servedNumber s op).trans hn
  have hloader : u.loader = some l := by
    show (serveReads _).loader = _
    rw [serveReads_loader]
    exact (if_neg (by simp [Store.operationDone, hwait])).trans hl
  obtain ⟨sv, hsv⟩ : ∃ sv, s.store.serving = some sv := by
    rcases Store.servedNumber_eq_some.1 hn with ⟨b, w, h, -⟩ | h <;> exact ⟨_, h⟩
  have husv : u.store.serving = some (sv.note op) := by simp [u, hsv]
  let v := completeServing u (sv.note op)
  obtain ⟨hforgets, hdelete, hstop⟩ := completeServing_served hserved husv
  have hvl : v.loader = some { l with found := dropFound l.found n } := by rw [hforgets, hloader]; rfl
  have hvq : v.link.storeQueue = [] := by
    rw [(completeServing_takesEffect u (sv.note op)).storeQueue]
    simpa [u] using hq
  have hend := endServing_of_lookup hvl hw hs hvq
  rw [noteLookup_dropFound] at hend
  refine ⟨endServing v, _, ?_, by rw [hend]; rfl, (runLoad_kept ..).1, (runLoad_kept ..).2.2, by rw [hend]; rfl,
    ?_, ?_, ?_⟩
  · rw [exec_markProgramComplete hop hmark he ha, continueServing_of_last husv hdue]
  all_goals rw [hend]
  · exact (runLoad_kept ..).2.1
  · intro h
    obtain rfl : sv = .delete n := Option.some.inj (hsv.symm.trans h)
    exact hdelete (Serving.note_delete n op)
  · intro w b h hw
    obtain rfl : sv = .stop b := Option.some.inj (hsv.symm.trans h)
    obtain ⟨b', hb'⟩ := Serving.note_stop b op
    exact hstop w b' hb' hw

/-- Settles O60: each phase and each request by its own equation, and the end of a hold by the other's. -/
theorem storeReads : Obligations.StoreReads := by
  refine ⟨Store.servedNumber_eq, fun s => ?_, fun s l hl => ?_,
    fun s l op n hl hw hs hn hop hmark he ha hdue hwait hq =>
      exec_markProgramComplete_serves_lookup hl hw hs hn hop hmark he ha hdue hwait hq,
    fun st => ?_⟩
  · intro st waits atOnce asked
    refine ⟨exec_minimumRunComplete s, exec_suspendComplete_of_not_suspending, fun hp => ?_, fun l hl hw hq => ?_,
      exec_loaderRequest_of_waiting, fun r hr hreads hw what => ?_, exec_rasterRequest_of_idle⟩
    · rw [exec_suspendComplete hp, suspended_eq]
    · rw [exec_loaderRead hl hw hq, exec_loaderLookup hl hw hq]
      refine ⟨fun h => by rw [requestRead_of_served h], fun h => by rw [requestRead_of_waiting h], fun n hn =>
        ⟨fun hfree => ?_, fun hserved => ?_⟩⟩
      · rw [requestLookup_of_free hl hn hfree, noteLookup_lookUp]
      · exact ⟨_, rfl, by rw [requestLookup_of_served hn hserved]; rfl, by rw [requestLookup_of_served hn hserved]; rfl,
          by rw [requestLookup_of_served hn hserved]; simp⟩
    · rw [exec_rasterRequest hr hreads hw]
      by_cases h : atOnce
      · simp [Store.readRaster, (MemPhase.servesReads_iff _).2 h, MemPhase.afterRead_of_serves h, h, st]
      · have hserves := Bool.eq_false_of_not_eq_true (mt (MemPhase.servesReads_iff _).1 h)
        simp [Store.readRaster, hserves, MemPhase.afterRead_eq, h, st, asked]
  · refine ⟨fun n hn => ?_, fun hno => ?_, fun found => rfl⟩
    · rw [serveLoaderRead_of_read hl hn]
      rfl
    · refine serveLoaderRead_of_not_read fun k hk => ?_
      obtain rfl : l = k := Option.some.inj (hl.symm.trans hk)
      exact hno
  · intro resumed
    refine ⟨fun h => ?_, fun h => ?_, fun h => ?_, fun h => ?_⟩
    · let u : Store := { st with holdLoader := false, waitLoader := false }
      rw [Store.releaseLoader_eq h]
      by_cases hr : st.holdRaster = true
      · exact (Store.resume_of_held (st := u) (.inr hr)).trans (if_pos hr).symm
      · exact (Store.resume_of_free (st := u) rfl (Bool.eq_false_of_not_eq_true hr)).trans (if_neg hr).symm
    · simp [Store.releaseLoader, h]
    · let u : Store := { st with holdRaster := false, waitRaster := false }
      rw [Store.releaseRaster_eq h]
      by_cases hl : st.holdLoader = true
      · exact (Store.resume_of_held (st := u) (.inl hl)).trans (if_pos hl).symm
      · exact (Store.resume_of_free (st := u) (Bool.eq_false_of_not_eq_true hl) rfl).trans (if_neg hl).symm
    · simp [Store.releaseRaster, h]

end Sys2Proof.Machine

/-! ### The operations of the store: what they leave in the memory, and the end of a command (O59) -/

namespace Sys2Proof.Machine

/-! #### The bytes of an operation, and the others (R151, R163) -/

section Bytes
variable {m : Memory} {a y k : Nat} {bs : List Byte}

theorem Memory.read_program_getD (h : m.WF) (ha : a + bs.length ≤ Config.storeBytes) (y : Nat) :
    (m.program a bs).read y
      = if a ≤ y ∧ y < a + bs.length then m.read y &&& bs.getD (y - a) 255 else m.read y := by
  split
  · rename_i hy
    have hi : y - a < bs.length := by omega
    have hread := Memory.read_program h ha (y - a) hi
    rw [Nat.add_sub_cancel' hy.1] at hread
    simpa [List.getD_eq_getElem?_getD, hi] using hread
  · exact Memory.read_program_other h ha (by omega)

theorem Memory.read_partProgram_other (h : m.WF) (ha : a + bs.length ≤ Config.storeBytes)
    (hy : y < a ∨ a + bs.length ≤ y) : (Memory.partProgram k m a bs).read y = m.read y := by
  induction bs generalizing m a with
  | nil => rfl
  | cons b bs ih =>
    simp only [List.length_cons] at ha hy
    rw [Memory.partProgram, ih (h.write (by omega) _) (by omega) (by omega), Memory.read_write_other h.1 (by omega)]

/-- A sequence of single writes leaves every address it does not name. -/
theorem Memory.read_foldl_write_other (address : Nat → Nat) (byte : Nat → Byte) (js : List Nat) (h : m.WF)
    (hjs : ∀ j ∈ js, address j < Config.storeBytes ∧ y ≠ address j) :
    (js.foldl (fun m j => m.write (address j) (byte j)) m).read y = m.read y := by
  induction js generalizing m with
  | nil => rfl
  | cons j js ih =>
    obtain ⟨hj, hy⟩ := hjs j (by simp)
    rw [List.foldl_cons, ih (h.write hj _) fun i hi => hjs i (List.mem_cons_of_mem _ hi),
      Memory.read_write_other h.1 hy]

theorem inSector_iff {i : Nat} : inSector i y = true ↔ 16384 * i ≤ y ∧ y < 16384 * (i + 1) := by
  rw [inSector, Bool.and_eq_true, decide_eq_true_eq, decide_eq_true_eq]
  exact Iff.rfl

theorem Memory.read_partErase_other {i : Nat} (h : m.WF) (hi : sectorAddress (i + 1) ≤ Config.storeBytes)
    (hy : inSector i y = false) : (Memory.partErase k m i).read y = m.read y := by
  refine Memory.read_foldl_write_other (sectorAddress i + ·) _ _ h fun j hj => ?_
  have hj : j < 16384 := List.mem_range.1 hj
  have hend : 16384 * (i + 1) ≤ 1048576 := hi
  have hout := mt inSector_iff.2 (Bool.eq_false_iff.1 hy)
  show 16384 * i + j < 1048576 ∧ y ≠ 16384 * i + j
  omega

/-- What a byte reads after a completed operation, by the operation (R151). -/
theorem StoreOp.read_apply (h : m.WF) (op : StoreOp) (y : Nat) : op.endAddress ≤ Config.storeBytes →
    (op.apply m).read y = match op with
      | .erase i => if 16384 * i ≤ y ∧ y < 16384 * (i + 1) then 255 else m.read y
      | .line first bs | .mark first bs =>
        if first ≤ y ∧ y < first + bs.length then m.read y &&& bs.getD (y - first) 255 else m.read y := by
  intro ho
  cases op with
  | erase i =>
    refine (Memory.read_eraseSector h.1 i y).trans ?_
    simp only [inSector_iff]
  | line first bs => exact Memory.read_program_getD h ho y
  | mark first bs => exact Memory.read_program_getD h ho y

/-- A failed operation leaves the bytes outside it (R162, log 7). -/
theorem StoreOp.read_interrupt_other (h : m.WF) {op : StoreOp} (hy : match op with
      | .erase i => inSector i y = false
      | .line first bs | .mark first bs => y < first ∨ first + bs.length ≤ y)
    (ho : op.endAddress ≤ Config.storeBytes) : (op.interrupt m k).read y = m.read y := by
  unfold StoreOp.interrupt
  rw [if_pos ho]
  cases op with
  | erase i => exact Memory.read_partErase_other h ho hy
  | line first bs => exact Memory.read_partProgram_other h ho hy
  | mark first bs => exact Memory.read_partProgram_other h ho hy

end Bytes

/-! #### The sector map and the catalog (R153, R160, R162) -/

@[simp] theorem markSectors_length (p : Nat → Bool) (st : SectorState) (i : Nat) (m : List SectorState) :
    (markSectors p st i m).length = m.length := by
  induction m generalizing i with
  | nil => rfl
  | cons x m ih => simp [markSectors, ih]

theorem markSectors_getD (p : Nat → Bool) (st d : SectorState) {i j : Nat} {m : List SectorState} (hj : j < m.length) :
    (markSectors p st i m).getD j d = if p (i + j) then st else m.getD j d := by
  induction m generalizing i j with
  | nil => simp at hj
  | cons x m ih =>
    cases j with
    | zero => simp [markSectors]
    | succ j =>
      have := ih (i := i + 1) (j := j) (by simpa using hj)
      simpa [markSectors, Nat.add_right_comm, Nat.add_assoc] using this

/-- The run of a failed STORE-BEGIN: the listed sectors Dirty, the others of the run Free, the rest as before. -/
theorem Store.releaseRun_sectors (st : Store) (w : WriteCtx) (dirty : List Nat) :
    (st.releaseRun w dirty).sectors.length = st.sectors.length
    ∧ ∀ i, i < st.sectors.length → (st.releaseRun w dirty).sectors.getD i .used =
      if dirty.contains i then .dirty else if w.first ≤ i ∧ i < w.first + w.count then .free
      else st.sectors.getD i .used := by
  refine ⟨by simp [Store.releaseRun, setSectorList, setSectors], fun i hi => ?_⟩
  simp only [Store.releaseRun, setSectorList]
  rw [markSectors_getD _ _ _ (by simpa [setSectors] using hi), setSectors, markSectors_getD _ _ _ hi]
  simp [Bool.and_eq_true]

theorem mem_setEntry_self (cat : List CatEntry) (e : CatEntry) : e ∈ setEntry cat e :=
  List.mem_of_find?_eq_some (catFind_setEntry cat e)

theorem mem_setEntry_of_ne {cat : List CatEntry} {e x : CatEntry} (hx : x.number ≠ e.number) :
    x ∈ setEntry cat e ↔ x ∈ cat := by
  unfold setEntry
  have hxe : x ≠ e := fun h => hx (h ▸ rfl)
  split
  · rw [List.mem_map]
    constructor
    · rintro ⟨y, hy, rfl⟩
      split at hx
      · exact absurd rfl hx
      · rwa [if_neg ‹_›]
    · exact fun hmem => ⟨x, hmem, if_neg hx⟩
  · simp [hxe]

/-! #### What each command's end makes of the store, with room for its record (R158 to R162) -/

section Commands
variable {u : State} {w : WriteCtx} {n : Nat} (hroom : u.report.queue.length < 8)
include hroom

theorem storeRecord_queue {v : State} (h : v.report = u.report) (cmd : StoreCmd) (number : Nat) (result : StoreResult)
    (generation received : Nat) : (storeRecord v cmd number result generation received).report.queue
      = u.report.queue ++ [.store ⟨cmd, number, result, generation, received⟩] := by
  rw [← h] at hroom ⊢
  rw [storeRecord_of_room hroom]

theorem storeRecord_setStore_queue (st : Store) (cmd : StoreCmd) (number : Nat) (result : StoreResult)
    (generation received : Nat) : (storeRecord (u.setStore st) cmd number result generation received).report.queue
      = u.report.queue ++ [.store ⟨cmd, number, result, generation, received⟩] :=
  storeRecord_queue (v := u.setStore st) hroom rfl ..

theorem completeServing_begin_effect (dirty : List Nat) : let v := completeServing u (.begin w dirty)
    v.loader = u.loader ∧ v.store.write = some w ∧ v.store.catalog = u.store.catalog
    ∧ v.store.sectors = u.store.sectors
    ∧ v.report.queue = u.report.queue ++ [.store ⟨.begin, w.number, .done, w.generation, 0⟩] := by
  simp [completeServing_begin, storeRecord_setStore_queue hroom]

theorem completeServing_data_effect (hw : u.store.write = some w) (bytes : List Byte) :
    let v := completeServing u (.data bytes)
    v.loader = u.loader
    ∧ v.store.write = some { w with received := w.received + bytes.length, check := checkFrom w.check bytes }
    ∧ v.store.catalog = u.store.catalog ∧ v.store.sectors = u.store.sectors
    ∧ v.report.queue = u.report.queue
        ++ [.store ⟨.data, w.number, .done, w.generation, w.received + bytes.length⟩] := by
  simp [completeServing_data hw, storeRecord_setStore_queue hroom, WriteCtx.takeBytes]

theorem completeServing_stop_effect (hw : u.store.write = some w) (b : Bool) : let v := completeServing u (.stop b)
    v.store.write = none ∧ v.loader = u.loader.map (fun l => { l with found := dropFound l.found w.number })
    ∧ w.entry ∈ v.store.catalog
    ∧ (∀ e, e.number ≠ w.number → (e ∈ v.store.catalog ↔ e ∈ u.store.catalog))
    ∧ v.store.sectors = dirtyObject u.store.sectors u.store.catalog w.number
    ∧ v.report.queue = u.report.queue ++ [.store ⟨.stop, w.number, .done, w.generation, w.received⟩] := by
  refine ⟨?_, ?_, ?_, fun e he => ?_, ?_, ?_⟩
  case refine_3 => simpa [completeServing_stop hw, Store.commit] using mem_setEntry_self _ _
  case refine_4 => simpa [completeServing_stop hw, Store.commit] using mem_setEntry_of_ne (e := w.entry) he
  all_goals simp [completeServing_stop hw, storeRecord_queue hroom, forgetFound_loader, Store.commit]

theorem completeServing_delete_effect {e : CatEntry} (he : catFind u.store.catalog n = some e) :
    let v := completeServing u (.delete n)
    v.store.catalog = u.store.catalog.filter (fun x => !decide (x.number = n))
    ∧ v.loader = u.loader.map (fun l => { l with found := dropFound l.found n })
    ∧ v.store.sectors = setSectors u.store.sectors e.first e.count .dirty
    ∧ v.report.queue = u.report.queue ++ [.store ⟨.delete, n, .done, e.generation, 0⟩] := by
  simp [completeServing_delete, storeRecord_queue hroom, forgetFound_loader, Store.remove, dirtyObject,
    Store.generationOf, he]

theorem failServing_begin_effect (dirty : List Nat) (op : StoreOp) : let v := failServing u (.begin w dirty) op
    v.store.write = u.store.write ∧ v.store.catalog = u.store.catalog
    ∧ v.store.sectors = (u.store.releaseRun w (if op.isErase then dirty else [w.first])).sectors
    ∧ v.report.queue = u.report.queue ++ [.store ⟨.begin, w.number, .failed, 0, 0⟩] := by
  simp [failServing, storeRecord_setStore_queue hroom, Store.releaseRun]

/-- A failure abandons the write of a STORE-DATA, and of a STORE-END whose Valid mark is not yet programmed. -/
theorem failServing_write_effect (hw : u.store.write = some w) (op : StoreOp) {sv : Serving} {cmd : StoreCmd}
    (hsv : ((∃ bytes, sv = .data bytes) ∧ cmd = .data) ∨ (sv = .stop false ∧ cmd = .stop)) :
    let v := failServing u sv op
    v.store.write = none ∧ v.store.sectors = setSectors u.store.sectors w.first w.count .dirty
    ∧ v.store.catalog = u.store.catalog
    ∧ v.report.queue = u.report.queue ++ [.store ⟨cmd, w.number, .failed, w.generation, w.received⟩] := by
  have hfail : failServing u sv op = storeRecord (abandonWrite u w) cmd w.number .failed w.generation w.received := by
    rcases hsv with ⟨⟨bytes, rfl⟩, rfl⟩ | ⟨rfl, rfl⟩ <;> simp [failServing, hw]
  simp [hfail, storeRecord_setStore_queue hroom, abandonWrite, Store.abandon]

theorem failServing_delete_effect {e : CatEntry} (he : catFind u.store.catalog n = some e) (op : StoreOp) :
    let v := failServing u (.delete n) op
    v.store.catalog = u.store.catalog ∧ v.store.sectors = u.store.sectors
    ∧ v.report.queue = u.report.queue ++ [.store ⟨.delete, n, .failed, e.generation, 0⟩] := by
  simp [failServing, storeRecord_queue hroom, Store.generationOf, he]

end Commands

theorem failServing_stop_true (u : State) (op : StoreOp) :
    failServing u (.stop true) op = completeServing u (.stop true) := by
  simp [failServing]

/-- Only a command that commits or deletes makes a load forget what it had found. -/
theorem completeServing_loader {u : State} {sv : Serving}
    (hsv : (∃ w dirty, sv = .begin w dirty) ∨ ∃ bytes, sv = .data bytes) :
    (completeServing u sv).loader = u.loader := by
  unfold completeServing
  split <;> simp_all

theorem failServing_loader {u : State} {sv : Serving} (hsv : sv ≠ .stop true) (op : StoreOp) :
    (failServing u sv op).loader = u.loader := by
  unfold failServing
  split <;> simp_all

/-! #### The completion and the failure of an operation (R162, R164) -/

/-- The event that completes the operation. -/
def StoreOp.completion : StoreOp → Instr
  | .erase _ => .sectorEraseComplete
  | .line _ _ => .lineProgramComplete
  | .mark _ _ => .markProgramComplete

/-- The loader after the served reads, over the memory `m`: a read that waited brings what it asked for (R164). -/
def State.readsServed (s : State) (m : Memory) : Option Load :=
  if s.store.waitLoader then (serveLoaderRead { s with store := { s.store with memory := m } }).loader else s.loader

/-- The loader after the served reads, with what it had found of a number forgotten (R52, log 22). -/
def State.forgets (s : State) (m : Memory) (n : Nat) : Option Load :=
  (s.readsServed m).map fun l => { l with found := dropFound l.found n }

/-- The state in which a failed operation leaves the served command (R162): its bytes free, nothing due, the waiting
reads served, and Store fault set. -/
def operationAborted (s : State) (op : StoreOp) : State :=
  setCond (serveReads ((s.setStore (s.store.operationFailed op s.freeCount)).setFreeCount (s.freeCount + 1)))
    .storeFault true

section Operations
variable {s : State} {op : StoreOp} {sv : Serving}

theorem exec_completion (hop : s.store.current = some op) (he : s.store.executing = true)
    (ha : op.endAddress ≤ Config.storeBytes) :
    exec op.completion s = .next (continueServing (operationEnded s op)) := by
  cases op <;> exact completeOp_of_kind hop he rfl ha

theorem exec_operationFailed (hop : s.store.current = some op) (he : s.store.executing = true)
    (hsv : s.store.serving = some sv) :
    exec .operationFailed s = .next (endServing (failServing (operationAborted s op) sv op)) := by
  show execOperationFailed s = _
  have hserving : (operationAborted s op).store.serving = some sv := by
    simp [operationAborted, Store.operationFailed, hsv]
  unfold operationAborted at hserving ⊢
  simp [execOperationFailed, hop, he, hsv, Store.operationFailed]

theorem operationEnded_loader (s : State) (op : StoreOp) :
    (operationEnded s op).loader = s.readsServed (op.apply s.store.memory) :=
  (serveReads_loader _).trans
    (if_congr Iff.rfl (serveLoaderRead_loader_congr rfl rfl rfl rfl (note_servedNumber s.store op)) rfl)

theorem operationAborted_loader (s : State) (op : StoreOp) :
    (operationAborted s op).loader = s.readsServed (op.interrupt s.store.memory s.freeCount) := by
  simp only [operationAborted, setCond_frame, serveReads_loader]
  exact if_congr Iff.rfl (serveLoaderRead_loader_congr rfl rfl rfl rfl rfl) rfl

theorem operationAborted_store (s : State) (op : StoreOp) : (operationAborted s op).store = { s.store with
    memory := op.interrupt s.store.memory s.freeCount, current := none, phase := .idle, due := [],
    waitLoader := false, waitRaster := false } := by
  simp [operationAborted, Store.operationFailed]

theorem operationEnded_frame (s : State) (op : StoreOp) : operationEnded s op = { s with
    loader := (operationEnded s op).loader, store := (operationEnded s op).store } := by
  apply State.ext <;> simp [operationEnded]

theorem operationAborted_frame (s : State) (op : StoreOp) : operationAborted s op = { s with
    loader := (operationAborted s op).loader, store := (operationAborted s op).store,
    link := { s.link with tx := (operationAborted s op).link.tx }, report := (operationAborted s op).report,
    freeCount := (operationAborted s op).freeCount } := by
  apply State.ext
  case link => exact (setCond_link _ _ _).trans (by simp [operationAborted])
  all_goals simp [operationAborted]

@[simp] theorem operationEnded_report (s : State) (op : StoreOp) : (operationEnded s op).report = s.report := by
  simp [operationEnded]

theorem operationAborted_report (s : State) (op : StoreOp) :
    (operationAborted s op).report.queue = s.report.queue
    ∧ Cond.storeFault.isIn (operationAborted s op).report.values = true := by
  simp [operationAborted]

theorem operationEnded_noLookupWaits (h : s.NoLookupWaits) (op : StoreOp) : (operationEnded s op).NoLookupWaits :=
  serveReads_noLookupWaits h

theorem operationAborted_noLookupWaits (h : s.NoLookupWaits) (op : StoreOp) :
    (operationAborted s op).NoLookupWaits := by
  unfold State.NoLookupWaits
  simp only [operationAborted, setCond_frame]
  exact serveReads_noLookupWaits h

/-- The command goes on: its next operation begins, or stays due while a read hold stands (R163, R164). -/
theorem continueServing_operationEnded {next : StoreOp} {due : List StoreOp} (hsv : s.store.serving = some sv)
    (hd : s.store.due = next :: due) :
    let held := s.store.holdLoader = true ∨ s.store.holdRaster = true
    continueServing (operationEnded s op) = { s with
      loader := s.readsServed (op.apply s.store.memory),
      store := { s.store with
        memory := op.apply s.store.memory, serving := some (sv.note op), waitLoader := false, waitRaster := false,
        current := if held then none else some next, due := if held then next :: due else due,
        phase := if held then .idle else .running false } } := by
  intro held
  rw [continueServing_of_due (sv := sv.note op) (by simp [hsv]) (by simpa using hd), operationEnded_frame,
    operationEnded_loader]
  have hbegin : (operationEnded s op).store.beginDue = { s.store with
      memory := op.apply s.store.memory, serving := some (sv.note op), waitLoader := false, waitRaster := false,
      current := if held then none else some next, due := if held then next :: due else due,
      phase := if held then .idle else .running false } := by
    by_cases h : held
    · have hheld : s.store.holdLoader = false → s.store.holdRaster = true := fun hl => h.resolve_left (by simp [hl])
      simp only [held] at h
      simpa [Store.beginDue, hsv, hd, held, h] using hheld
    · simp only [held, not_or, Bool.not_eq_true] at h
      simp [Store.beginDue, hsv, hd, held, h]
  simp only [hbegin]
  rfl

end Operations

/-- A command that has taken its effect, with the controller waiting again (R156). -/
def commandOver (v : State) : State := v.setStore { v.store with serving := none, due := [] }

section Over
variable {s u v : State}

/-- The controller waits, with the memory Idle and each reader's hold as it was. -/
theorem TakesEffect.controller (h : TakesEffect u v) (hcurrent : u.store.current = none)
    (hphase : u.store.phase = .idle) (hloader : u.store.waitLoader = false) (hraster : u.store.waitRaster = false) :
    let t := commandOver v
    t.store.serving = none ∧ t.store.current = none ∧ t.store.due = [] ∧ t.store.phase = .idle
    ∧ t.store.holdLoader = u.store.holdLoader ∧ t.store.holdRaster = u.store.holdRaster
    ∧ t.store.waitLoader = false ∧ t.store.waitRaster = false := by
  simp only [commandOver, State.setStore_store]
  rw [h.store]
  simp [hcurrent, hphase, hloader, hraster]

theorem TakesEffect.memory (h : TakesEffect u v) : (commandOver v).store.memory = u.store.memory := by
  show v.store.memory = _
  rw [h.store]

end Over

/-- The state after the last operation of the command `sv` has completed, with nothing waiting behind it (R156). -/
def State.completed (s : State) (op : StoreOp) (sv : Serving) : State :=
  commandOver (completeServing (operationEnded s op) (sv.note op))

/-- The state after an operation of the command `sv` has failed, with nothing waiting behind it (R162). -/
def State.failed (s : State) (op : StoreOp) (sv : Serving) : State :=
  commandOver (failServing (operationAborted s op) sv op)

/-- A STORE-BEGIN stays one, whatever it notes of its Dirty sectors. -/
theorem Serving.note_begin (w : WriteCtx) (dirty : List Nat) (op : StoreOp) :
    ∃ dirty', (Serving.begin w dirty).note op = .begin w dirty' := by
  cases op <;> exact ⟨_, rfl⟩

theorem Serving.note_data (bytes : List Byte) (op : StoreOp) : (Serving.data bytes).note op = .data bytes := by
  cases op <;> rfl

section Completed
variable {s : State} {op : StoreOp} {sv : Serving}

theorem exec_completion_of_last (hop : s.store.current = some op) (he : s.store.executing = true)
    (ha : op.endAddress ≤ Config.storeBytes) (hsv : s.store.serving = some sv) (hd : s.store.due = [])
    (hq : s.link.storeQueue = []) (hl : s.NoLookupWaits) : exec op.completion s = .next (s.completed op sv) := by
  rw [exec_completion hop he ha, continueServing_of_last (sv := sv.note op) (by simp [hsv]) (by simpa using hd)]
  exact congrArg _
    ((completeServing_takesEffect _ _).endServing (by simpa using hq) (operationEnded_noLookupWaits hl op))

theorem completed_memory (s : State) (op : StoreOp) (sv : Serving) :
    (s.completed op sv).store.memory = op.apply s.store.memory :=
  (completeServing_takesEffect (operationEnded s op) (sv.note op)).memory

theorem completed_frame (s : State) (op : StoreOp) (sv : Serving) : let t := s.completed op sv
    t = { s with
      loader := t.loader, store := t.store, link := { s.link with tx := t.link.tx }, report := t.report } := by
  intro t
  apply State.ext
  case link =>
    have heffect := congrArg State.link (completeServing_takesEffect (operationEnded s op) (sv.note op)).frame
    have hlink := operationEnded_link s op
    exact heffect.trans (by rw [hlink]; rfl)
  all_goals simp [t, State.completed, commandOver, operationEnded]

theorem completed_controller (s : State) (op : StoreOp) (sv : Serving) : let t := s.completed op sv
    t.store.serving = none ∧ t.store.current = none ∧ t.store.due = [] ∧ t.store.phase = .idle
    ∧ t.store.holdLoader = s.store.holdLoader ∧ t.store.holdRaster = s.store.holdRaster
    ∧ t.store.waitLoader = false ∧ t.store.waitRaster = false :=
  (completeServing_takesEffect (operationEnded s op) (sv.note op)).controller rfl rfl rfl rfl

theorem operationEnded_loader_eq (s : State) (op : StoreOp) (sv : Serving) :
    (operationEnded s op).loader = s.readsServed (s.completed op sv).store.memory := by
  rw [completed_memory, operationEnded_loader]

theorem completed_loader (hsv : (∃ w dirty, sv = .begin w dirty) ∨ ∃ bytes, sv = .data bytes) :
    (s.completed op sv).loader = s.readsServed (s.completed op sv).store.memory := by
  rw [← operationEnded_loader_eq]
  refine completeServing_loader ?_
  rcases hsv with ⟨w, dirty, rfl⟩ | ⟨bytes, rfl⟩
  · obtain ⟨dirty', hnote⟩ := Serving.note_begin w dirty op
    exact .inl ⟨w, dirty', hnote⟩
  · exact .inr ⟨bytes, Serving.note_data bytes op⟩

section Room
variable {w : WriteCtx} {n : Nat} (hroom : s.report.queue.length < 8)
include hroom

theorem completed_begin (dirty : List Nat) : let t := s.completed op (.begin w dirty)
    t.store.write = some w ∧ t.store.catalog = s.store.catalog ∧ t.store.sectors = s.store.sectors
    ∧ t.report.queue = s.report.queue ++ [.store ⟨.begin, w.number, .done, w.generation, 0⟩] := by
  obtain ⟨dirty', hnote⟩ := Serving.note_begin w dirty op
  rw [← operationEnded_report s op] at hroom ⊢
  rw [State.completed, hnote]
  exact (completeServing_begin_effect hroom dirty').2

theorem completed_data (hw : s.store.write = some w) (bytes : List Byte) : let t := s.completed op (.data bytes)
    t.store.write = some { w with received := w.received + bytes.length, check := checkFrom w.check bytes }
    ∧ t.store.catalog = s.store.catalog ∧ t.store.sectors = s.store.sectors
    ∧ t.report.queue = s.report.queue
        ++ [.store ⟨.data, w.number, .done, w.generation, w.received + bytes.length⟩] := by
  rw [← operationEnded_report s op] at hroom ⊢
  rw [State.completed, Serving.note_data]
  exact (completeServing_data_effect hroom hw bytes).2

theorem completed_stop (hw : s.store.write = some w) (b : Bool) : let t := s.completed op (.stop b)
    t.store.write = none ∧ t.loader = s.forgets t.store.memory w.number ∧ w.entry ∈ t.store.catalog
    ∧ (∀ e, e.number ≠ w.number → (e ∈ t.store.catalog ↔ e ∈ s.store.catalog))
    ∧ t.store.sectors = dirtyObject s.store.sectors s.store.catalog w.number
    ∧ t.report.queue = s.report.queue ++ [.store ⟨.stop, w.number, .done, w.generation, w.received⟩] := by
  obtain ⟨b', hnote⟩ := Serving.note_stop b op
  dsimp only
  rw [State.forgets, ← operationEnded_loader_eq]
  rw [← operationEnded_report s op] at hroom ⊢
  rw [State.completed, hnote]
  exact completeServing_stop_effect hroom hw b'

theorem completed_delete {e : CatEntry} (he : catFind s.store.catalog n = some e) :
    let t := s.completed op (.delete n)
    t.store.catalog = s.store.catalog.filter (fun x => !decide (x.number = n))
    ∧ t.loader = s.forgets t.store.memory n
    ∧ t.store.sectors = setSectors s.store.sectors e.first e.count .dirty
    ∧ t.report.queue = s.report.queue ++ [.store ⟨.delete, n, .done, e.generation, 0⟩] := by
  dsimp only
  rw [State.forgets, ← operationEnded_loader_eq]
  rw [← operationEnded_report s op] at hroom ⊢
  rw [State.completed, Serving.note_delete]
  exact completeServing_delete_effect hroom he

end Room

end Completed

section Failed
variable {s : State} {op : StoreOp} {sv : Serving}

theorem exec_operationFailed_over (hop : s.store.current = some op) (he : s.store.executing = true)
    (hsv : s.store.serving = some sv) (hq : s.link.storeQueue = []) (hl : s.NoLookupWaits) :
    exec .operationFailed s = .next (s.failed op sv) := by
  rw [exec_operationFailed hop he hsv]
  refine congrArg _ ((failServing_takesEffect _ _ _).endServing ?_ (operationAborted_noLookupWaits hl op))
  rw [operationAborted_frame]
  exact hq

theorem failed_memory (s : State) (op : StoreOp) (sv : Serving) :
    (s.failed op sv).store.memory = op.interrupt s.store.memory s.freeCount := by
  rw [State.failed, (failServing_takesEffect _ sv op).memory, operationAborted_store]

theorem failed_frame (s : State) (op : StoreOp) (sv : Serving) : let t := s.failed op sv
    t = { s with
      loader := t.loader, store := t.store, link := { s.link with tx := t.link.tx }, report := t.report,
      freeCount := t.freeCount } := by
  intro t
  apply State.ext
  case link =>
    have heffect := congrArg State.link (failServing_takesEffect (operationAborted s op) sv op).frame
    have hlink := congrArg State.link (operationAborted_frame s op)
    exact heffect.trans (by rw [hlink]; rfl)
  all_goals simp [t, State.failed, commandOver, operationAborted]

theorem failed_controller (s : State) (op : StoreOp) (sv : Serving) : let t := s.failed op sv
    t.store.serving = none ∧ t.store.current = none ∧ t.store.due = [] ∧ t.store.phase = .idle
    ∧ t.store.holdLoader = s.store.holdLoader ∧ t.store.holdRaster = s.store.holdRaster
    ∧ t.store.waitLoader = false ∧ t.store.waitRaster = false := by
  have hstore := operationAborted_store s op
  have hwaits := (failServing_takesEffect (operationAborted s op) sv op).controller (by rw [hstore]) (by rw [hstore])
    (by rw [hstore]) (by rw [hstore])
  rwa [hstore] at hwaits

theorem failed_storeFault (s : State) (op : StoreOp) (sv : Serving) :
    Cond.storeFault.isIn (s.failed op sv).report.values = true :=
  ((failServing_takesEffect _ sv op).conds .storeFault (by simp)).trans (operationAborted_report s op).2

theorem operationAborted_loader_eq (s : State) (op : StoreOp) (sv : Serving) :
    (operationAborted s op).loader = s.readsServed (s.failed op sv).store.memory := by
  rw [failed_memory, operationAborted_loader]

theorem failed_loader (hsv : sv ≠ .stop true) :
    (s.failed op sv).loader = s.readsServed (s.failed op sv).store.memory :=
  (failServing_loader hsv op).trans (operationAborted_loader_eq s op sv)

/-- Of the store, an abandoned operation leaves the write, the catalog and the sector map. -/
theorem operationAborted_kept (s : State) (op : StoreOp) : (operationAborted s op).store.write = s.store.write
    ∧ (operationAborted s op).store.catalog = s.store.catalog
    ∧ (operationAborted s op).store.sectors = s.store.sectors := by
  simp [operationAborted_store]

section Room
variable {w : WriteCtx} {n : Nat} (hroom : s.report.queue.length < 8)
include hroom

theorem failed_begin (dirty : List Nat) : let t := s.failed op (.begin w dirty)
    t.store.write = s.store.write ∧ t.store.catalog = s.store.catalog
    ∧ t.store.sectors = (s.store.releaseRun w (if op.isErase then dirty else [w.first])).sectors
    ∧ t.report.queue = s.report.queue ++ [.store ⟨.begin, w.number, .failed, 0, 0⟩] := by
  obtain ⟨hwrite, hcatalog, hsectors⟩ := operationAborted_kept s op
  obtain ⟨hqueue, -⟩ := operationAborted_report s op
  rw [Store.releaseRun, ← hwrite, ← hcatalog, ← hqueue, ← hsectors]
  exact failServing_begin_effect (hqueue ▸ hroom) dirty op

theorem failed_write (hw : s.store.write = some w) {cmd : StoreCmd}
    (hsv : ((∃ bytes, sv = .data bytes) ∧ cmd = .data) ∨ (sv = .stop false ∧ cmd = .stop)) :
    let t := s.failed op sv
    t.store.write = none ∧ t.store.sectors = setSectors s.store.sectors w.first w.count .dirty
    ∧ t.store.catalog = s.store.catalog
    ∧ t.report.queue = s.report.queue ++ [.store ⟨cmd, w.number, .failed, w.generation, w.received⟩] := by
  obtain ⟨hwrite, hcatalog, hsectors⟩ := operationAborted_kept s op
  obtain ⟨hqueue, -⟩ := operationAborted_report s op
  rw [← hcatalog, ← hqueue, ← hsectors]
  exact failServing_write_effect (hqueue ▸ hroom) (hwrite.trans hw) op hsv

/-- A STORE-END whose Valid mark is programmed is done, whatever becomes of the replaced object's mark (R162). -/
theorem failed_stop_true (hw : s.store.write = some w) : let t := s.failed op (.stop true)
    t.store.write = none ∧ t.loader = s.forgets t.store.memory w.number ∧ w.entry ∈ t.store.catalog
    ∧ (∀ e, e.number ≠ w.number → (e ∈ t.store.catalog ↔ e ∈ s.store.catalog))
    ∧ t.store.sectors = dirtyObject s.store.sectors s.store.catalog w.number
    ∧ t.report.queue = s.report.queue ++ [.store ⟨.stop, w.number, .done, w.generation, w.received⟩] := by
  obtain ⟨hwrite, hcatalog, hsectors⟩ := operationAborted_kept s op
  obtain ⟨hqueue, -⟩ := operationAborted_report s op
  dsimp only
  rw [State.forgets, ← operationAborted_loader_eq, ← hcatalog, ← hqueue, ← hsectors, State.failed,
    failServing_stop_true]
  exact completeServing_stop_effect (hqueue ▸ hroom) (hwrite.trans hw) true

theorem failed_delete {e : CatEntry} (he : catFind s.store.catalog n = some e) : let t := s.failed op (.delete n)
    t.store.catalog = s.store.catalog ∧ t.store.sectors = s.store.sectors
    ∧ t.report.queue = s.report.queue ++ [.store ⟨.delete, n, .failed, e.generation, 0⟩] := by
  obtain ⟨-, hcatalog, hsectors⟩ := operationAborted_kept s op
  obtain ⟨hqueue, -⟩ := operationAborted_report s op
  rw [← hcatalog, ← hqueue, ← hsectors]
  exact failServing_delete_effect (hqueue ▸ hroom) (hcatalog ▸ he) op

end Room

end Failed

/-! #### A command waiting behind the one that ends (R156, log 13, log 33) -/

/-- The state with another store queue. -/
def State.withStoreQueue (s : State) (q : List StoreFrame) : State := { s with link := { s.link with storeQueue := q } }

section Queue
variable (s : State) (q : List StoreFrame)

theorem setStore_withStoreQueue (st : Store) :
    (s.withStoreQueue q).setStore st = (s.setStore st).withStoreQueue q := rfl

theorem abandonWrite_withStoreQueue (w : WriteCtx) :
    abandonWrite (s.withStoreQueue q) w = (abandonWrite s w).withStoreQueue q := rfl

theorem serveLoaderRead_withStoreQueue :
    serveLoaderRead (s.withStoreQueue q) = (serveLoaderRead s).withStoreQueue q := by
  rw [serveLoaderRead_eq_setLoader, serveLoaderRead_eq_setLoader s,
    serveLoaderRead_loader_congr (s := s.withStoreQueue q) (t := s) rfl rfl rfl rfl rfl]
  rfl

theorem withStoreQueue_ite {p : Prop} [Decidable p] (s t : State) :
    (if p then s else t).withStoreQueue q = if p then s.withStoreQueue q else t.withStoreQueue q :=
  apply_ite (State.withStoreQueue · q) p s t

theorem serveReads_withStoreQueue : serveReads (s.withStoreQueue q) = (serveReads s).withStoreQueue q := by
  unfold serveReads
  rw [serveLoaderRead_withStoreQueue, ← setStore_withStoreQueue, withStoreQueue_ite]
  rfl

theorem serveLookup_withStoreQueue : serveLookup (s.withStoreQueue q) = (serveLookup s).withStoreQueue q := by
  have hloader : (s.withStoreQueue q).loader = s.loader := rfl
  unfold serveLookup
  rw [hloader]
  cases s.loader with
  | none => rfl
  | some l => cases hs : l.status <;> simp only [hs] <;> rfl

theorem serveWaitingLookup_withStoreQueue :
    serveWaitingLookup (s.withStoreQueue q) = (serveWaitingLookup s).withStoreQueue q := by
  have hloader : (s.withStoreQueue q).loader = s.loader := rfl
  unfold serveWaitingLookup
  rw [hloader, serveLookup_withStoreQueue]
  cases s.loader with
  | none => rfl
  | some l => simp only [withStoreQueue_ite]

theorem forgetFound_withStoreQueue (n : Nat) :
    forgetFound (s.withStoreQueue q) n = (forgetFound s n).withStoreQueue q := by
  apply State.ext <;> simp [State.withStoreQueue, forgetFound_loader]

theorem setCond_withStoreQueue (c : Cond) (v : Bool) :
    setCond (s.withStoreQueue q) c v = (setCond s c v).withStoreQueue q := by
  unfold setCond
  rw [withStoreQueue_ite]
  rfl

theorem storeRecord_withStoreQueue (cmd : StoreCmd) (number : Nat) (result : StoreResult) (generation received : Nat) :
    storeRecord (s.withStoreQueue q) cmd number result generation received
      = (storeRecord s cmd number result generation received).withStoreQueue q := by
  unfold storeRecord pushRecord
  rw [setCond_withStoreQueue]
  rw [withStoreQueue_ite]
  rfl

theorem completeServing_withStoreQueue (sv : Serving) :
    completeServing (s.withStoreQueue q) sv = (completeServing s sv).withStoreQueue q := by
  have hstore : (s.withStoreQueue q).store = s.store := rfl
  cases hw : s.store.write <;> cases sv <;>
    simp only [completeServing, hstore, hw, setStore_withStoreQueue, forgetFound_withStoreQueue,
      storeRecord_withStoreQueue]

theorem failServing_withStoreQueue (sv : Serving) (op : StoreOp) :
    failServing (s.withStoreQueue q) sv op = (failServing s sv op).withStoreQueue q := by
  have hstore : (s.withStoreQueue q).store = s.store := rfl
  cases hw : s.store.write <;> rcases sv with _ | _ | (_ | _) | _ <;>
    simp only [failServing, hstore, hw, setStore_withStoreQueue, abandonWrite_withStoreQueue,
      storeRecord_withStoreQueue, completeServing_withStoreQueue]

theorem operationEnded_withStoreQueue (op : StoreOp) :
    operationEnded (s.withStoreQueue q) op = (operationEnded s op).withStoreQueue q :=
  serveReads_withStoreQueue (s.setStore (s.store.operationDone op)) q

theorem operationAborted_withStoreQueue (op : StoreOp) :
    operationAborted (s.withStoreQueue q) op = (operationAborted s op).withStoreQueue q := by
  unfold operationAborted
  rw [← setCond_withStoreQueue, ← serveReads_withStoreQueue]
  rfl

/-- The event that takes a frame from the store queue's head. -/
def StoreFrame.taking : StoreFrame → Instr
  | .begin _ _ _ => .storeBegin
  | .data _ _ => .storeData
  | .stop _ => .storeEnd
  | .delete _ => .storeDelete

theorem exec_taking (f : StoreFrame) (s : State) : exec f.taking s = .next (takeStoreHead s f.cmd) := by
  cases f <;> rfl

/-- The end of a command with another waiting: first what it does with an empty queue, then the taking of the head
(R156, log 33). -/
theorem endServing_takes_head {v : State} {f : StoreFrame} {rest : List StoreFrame} (hs : v.station ≠ .starting)
    (hq : v.link.storeQueue = f :: rest) :
    (endServing (v.withStoreQueue [])).store.serving = none
    ∧ .next (endServing v) = exec f.taking ((endServing (v.withStoreQueue [])).withStoreQueue (f :: rest)) := by
  let y := serveWaitingLookup (commandOver v)
  have hyq : y.link.storeQueue = f :: rest := by simpa [y, commandOver] using hq
  have hys : y.store.serving = none := by simp [y, commandOver]
  have hyst : y.station ≠ .starting := by simpa [y, commandOver] using hs
  have hempty : endServing (v.withStoreQueue []) = y.withStoreQueue [] := by
    show takeNextStore (serveWaitingLookup ((commandOver v).withStoreQueue [])) = _
    rw [serveWaitingLookup_withStoreQueue]
    rfl
  have hback : (y.withStoreQueue []).withStoreQueue (f :: rest) = y := by
    rw [← hyq]
    rfl
  rw [hempty, hback, exec_taking, takeStoreHead_of_head hyq hyst hys]
  refine ⟨hys, congrArg _ ?_⟩
  show takeNextStore y = _
  simp [takeNextStore, hyq, popStore, State.setLink]

end Queue

/-- Settles O59: the completion and the failure of an operation by what each command's end takes effect on, and the
command that waits by the store queue alone being left to it. -/
theorem storeOperations : Obligations.StoreOperations := by
  refine ⟨fun s op sv c hm hop he hsv ha hq hl hroom hc => ?_, fun s op sv c f rest hs hop he hsv ha hq hc => ?_⟩
  · intro now held reads forgets
    obtain rfl : c = op.completion := hc
    refine ⟨?_, ?_⟩
    · rcases hd : s.store.due with _ | ⟨next, due⟩
      · obtain ⟨hserving, hcurrent, hdue, hphase, hholdl, hholdr, hwaitl, hwaitr⟩ := completed_controller s op sv
        refine ⟨s.completed op sv, exec_completion_of_last hop he ha hsv hd hq hl,
          fun a => completed_memory s op sv ▸ StoreOp.read_apply hm op a ha, by simp, fun _ => ⟨hserving, hcurrent,
          hdue, hphase, hholdl, hholdr, hwaitl, hwaitr, completed_frame s op sv, completed_loader, ?_, ?_, ?_, ?_⟩⟩
        · rintro w dirty rfl
          exact completed_begin hroom dirty
        · rintro bytes w rfl hw
          exact completed_data hroom hw bytes
        · rintro b w rfl hw
          exact completed_stop hroom hw b
        · rintro number e rfl hfind
          exact completed_delete hroom hfind
      · refine ⟨_, (exec_completion hop he ha).trans (congrArg _ (continueServing_operationEnded hsv hd)),
          fun a => StoreOp.read_apply hm op a ha, ?_, by simp⟩
        rintro nextOp due' h
        obtain ⟨rfl, rfl⟩ := List.cons.inj h
        rw [show now = sv.note op by cases sv <;> cases op <;> rfl]
        rfl
    · obtain ⟨hserving, hcurrent, hdue, hphase, hholdl, hholdr, hwaitl, hwaitr⟩ := failed_controller s op sv
      refine ⟨s.failed op sv, exec_operationFailed_over hop he hsv hq hl, failed_storeFault s op sv, fun a hout => ?_,
        hserving, hcurrent, hdue, hphase, hholdl, hholdr, hwaitl, hwaitr, failed_frame s op sv, failed_loader,
        fun w cmd hw hcmd => failed_write hroom hw hcmd, ?_, ?_, ?_⟩
      · rw [failed_memory]
        exact StoreOp.read_interrupt_other hm (by cases op <;> exact hout) ha
      · rintro w dirty rfl
        obtain ⟨hwrite, hcatalog, hsectors, hrecord⟩ := failed_begin (op := op) (w := w) hroom dirty
        obtain ⟨hlength, hrun⟩ := Store.releaseRun_sectors s.store w (if op.isErase then dirty else [w.first])
        rw [← hsectors] at hlength hrun
        refine ⟨hwrite, hcatalog, hlength, fun i hi => (hrun i hi).trans ?_, hrecord⟩
        cases op <;> rfl
      · rintro w hw rfl
        exact failed_stop_true hroom hw
      · rintro number e rfl hfind
        exact failed_delete hroom hfind
  · intro waiting take
    have hgoal : ∀ v : State, v.station = s.station → v.link.storeQueue = s.link.storeQueue →
        exec c s = .next (endServing v) → exec c (waiting s []) = .next (endServing (v.withStoreQueue [])) →
        ∃ t, exec c (waiting s []) = .next t ∧ t.store.serving = none
          ∧ exec c s = exec take (waiting t (f :: rest)) := by
      intro v hvs hvq hv hempty
      obtain ⟨hserving, htakes⟩ := endServing_takes_head (hvs ▸ hs) (hvq.trans hq)
      exact ⟨_, hempty, hserving, hv.trans htakes⟩
    rcases hc with rfl | ⟨hd, rfl⟩
    · refine hgoal (failServing (operationAborted s op) sv op) (by simp [operationAborted]) ?_
        (exec_operationFailed hop he hsv) ?_
      · rw [(failServing_takesEffect _ _ _).storeQueue, operationAborted_frame]
      · rw [← failServing_withStoreQueue, ← operationAborted_withStoreQueue]
        exact exec_operationFailed hop he hsv
    · have hends : ∀ u : State, u.store = s.store →
          exec op.completion u = .next (endServing (completeServing (operationEnded u op) (sv.note op))) := by
        intro u hu
        rw [exec_completion (hu ▸ hop) (hu ▸ he) ha,
          continueServing_of_last (sv := sv.note op) (by simp [hu, hsv]) (by simp [hu, hd])]
      refine hgoal (completeServing (operationEnded s op) (sv.note op)) (by simp [operationEnded]) ?_ (hends s rfl) ?_
      · rw [(completeServing_takesEffect _ _).storeQueue, operationEnded_link]
      · rw [← completeServing_withStoreQueue, ← operationEnded_withStoreQueue]
        exact hends _ rfl

end Sys2Proof.Machine

/-! ### The form of the row ring after every step (O11) -/

namespace Sys2Proof.Machine

/-! #### The ring's operations keep its form (R56, R58, R59) -/

/-- The form of a ring beside a plan in flight, or none, and a rasterizer that renders, or does not. -/
def Ring.Form (g : Ring) (flying rendering : Bool) : Prop :=
  g.history.length ≤ 2 ∧ g.lead.length ≤ 5 ∧ g.firing.isSome = flying
  ∧ (∀ x ∈ g.history, x.state = .history) ∧ (∀ x ∈ g.firing, x.state = .firing)
  ∧ ∀ x ∈ g.lead, x.state = .rendered ∨ (x.state = .rendering ∧ rendering = true)

theorem State.ringOk_iff_form (s : State) : s.RingOk ↔ s.ring.Form s.plan.isSome s.raster.rendering.isSome := Iff.rfl

section Form
variable {g : Ring} {flying rendering : Bool}

theorem Ring.Form.pushHistory {x : Slot} (h : g.Form flying rendering) (hx : x.state = .history) :
    (g.pushHistory x).Form flying rendering := by
  obtain ⟨-, hlead, hfly, hhistory, hfiring, hslots⟩ := h
  refine ⟨g.pushHistory_length x, hlead, hfly, fun y hy => ?_, hfiring, hslots⟩
  rcases List.mem_append.1 (List.mem_of_mem_drop hy) with hy | hy
  · exact hhistory y hy
  · rw [List.mem_singleton.1 hy, hx]

/-- The Firing slot, if there is one, leaves with its plan (R126). -/
theorem Ring.Form.unfire (h : g.Form flying rendering) : Ring.Form { g with firing := none } false rendering := by
  obtain ⟨hlen, hlead, -, hhistory, -, hslots⟩ := h
  exact ⟨hlen, hlead, rfl, hhistory, by simp, hslots⟩

/-- Slots may leave the lead, whatever chooses them. -/
theorem Ring.Form.filterLead (h : g.Form flying rendering) (p : Slot → Bool) :
    Ring.Form { g with lead := g.lead.filter p } flying rendering := by
  obtain ⟨hlen, hlead, hfly, hhistory, hfiring, hslots⟩ := h
  exact ⟨hlen, (g.lead.length_filter_le p).trans hlead, hfly, hhistory, hfiring,
    fun x hx => hslots x (List.mem_of_mem_filter hx)⟩

/-- A slot begins to fire, beside the plan that begins with it (R120). -/
theorem Ring.Form.fire (h : g.Form flying rendering) (x : Slot) :
    Ring.Form { g with firing := some { x with state := .firing } } true rendering := by
  obtain ⟨hlen, hlead, -, hhistory, -, hslots⟩ := h
  exact ⟨hlen, hlead, rfl, hhistory, by simp, hslots⟩

/-- A lead with room takes a slot in Rendering (R58, R60). -/
theorem Ring.Form.begin (h : g.Form flying rendering) (hroom : g.lead.length < 5) (seq row : Nat) :
    Ring.Form { g with lead := g.lead ++ [renderingSlot seq row] } flying true := by
  obtain ⟨hlen, -, hfly, hhistory, hfiring, hslots⟩ := h
  refine ⟨hlen, by simpa using hroom, hfly, hhistory, hfiring, fun x hx => ?_⟩
  rcases List.mem_append.1 hx with hx | hx
  · exact (hslots x hx).imp id fun h => ⟨h.1, rfl⟩
  · exact .inr ⟨by rw [List.mem_singleton.1 hx]; rfl, rfl⟩

/-- A kept render leaves no slot in Rendering (R63). -/
theorem Ring.Form.keepRender (h : g.Form flying rendering) (image : Dots) :
    (g.keepRender image).Form flying false := by
  obtain ⟨hlen, hlead, hfly, hhistory, hfiring, hslots⟩ := h
  refine ⟨hlen, by simpa [Ring.keepRender] using hlead, hfly, hhistory, hfiring, fun x hx => .inl ?_⟩
  obtain ⟨y, hy, rfl⟩ := List.mem_map.1 hx
  rcases hslots y hy with hrendered | ⟨hrendering, -⟩
  · simp [hrendered]
  · simp [hrendering]

/-- A dropped render leaves no slot in Rendering (R62). -/
theorem Ring.Form.dropRender (h : g.Form flying rendering) : g.dropRender.Form flying false := by
  obtain ⟨hlen, hlead, hfly, hhistory, hfiring, hslots⟩ := h.filterLead fun x => !decide (x.state = .rendering)
  refine ⟨hlen, hlead, hfly, hhistory, hfiring, fun x hx => .inl ?_⟩
  have hnot : x.state ≠ .rendering := by simpa using List.of_mem_filter hx
  exact (hslots x hx).resolve_right fun h => hnot h.1

end Form

/-! #### The operations that leave the ring (R56, R119) -/

/-- From `s` to `t` the ring stays, and so does what its form is held against: whether a plan is in flight, and whether
a row is being rendered. -/
def RingStays (s t : State) : Prop :=
  t.ring = s.ring ∧ t.plan.isSome = s.plan.isSome ∧ t.raster.rendering.isSome = s.raster.rendering.isSome

section Stays
variable {s u t : State}

theorem RingStays.refl (s : State) : RingStays s s := ⟨rfl, rfl, rfl⟩

theorem State.RingOk.ite {p : Prop} [Decidable p] (hu : u.RingOk) (ht : t.RingOk) :
    (if p then u else t).RingOk := by
  split
  · exact hu
  · exact ht

theorem RingStays.ringOk (e : RingStays s t) (h : s.RingOk) : t.RingOk := by
  obtain ⟨hring, hplan, hrender⟩ := e
  rw [State.ringOk_iff_form] at h ⊢
  rwa [hring, hplan, hrender]

@[simp] theorem takePosition_rendering (s : State) : (takePosition s).raster.rendering = s.raster.rendering := by
  unfold takePosition
  split
  · split <;> simp [setPosition]
  · rfl

@[simp] theorem movePosition_rendering (s : State) (i : CtxId) (row : Nat) :
    (movePosition s i row).raster.rendering = s.raster.rendering := by
  rw [movePosition_raster]
  split <;> rfl

@[simp] theorem completeIfEnding_rendering (s : State) (i : CtxId) :
    (completeIfEnding s i).raster.rendering = s.raster.rendering := by
  unfold completeIfEnding
  split <;> simp

@[simp] theorem endRow_rendering (s : State) (seq : Nat) (trimmed miss short : Bool) :
    (endRow s seq trimmed miss short).raster.rendering = s.raster.rendering := by
  unfold endRow
  split
  · rfl
  · cases short <;> simp

theorem endRow_ringStays (s : State) (seq : Nat) (trimmed miss short : Bool) :
    RingStays s (endRow s seq trimmed miss short) := by simp [RingStays]

/-- A TOF that cuts a render's reads leaves the row in rendering (R64). -/
theorem cutReads_ringStays (s : State) (i : CtxId) : RingStays s (cutReads s i) := by
  rcases cutReads_cases s i with h | ⟨r, hr, -, -, h⟩ <;> rw [h]
  · exact .refl s
  · simp [RingStays, hr]

/-- The label that a TOF starts is not yet rendered any further: its start leaves the ring (R27 to R29). -/
theorem startLabel_ringStays (s : State) : RingStays s (startLabel s) := by
  have hloading : ∀ (u : State) i,
      (startLoading u i).raster.rendering.isSome = u.raster.rendering.isSome := fun u i => by
    obtain ⟨-, -, hrender⟩ := cutReads_ringStays (stopLoad u i) i
    simpa [startLoading] using hrender
  rcases startLabel_cases s with ⟨seq, h⟩ | ⟨e, -, i, -, -, h⟩ | ⟨e, -, i, -, -, h⟩ | ⟨e, -, i, -, h⟩ | ⟨i, -, h⟩ <;>
    simp [RingStays, h, hloading]

end Stays

/-! #### The operations of the rasterizer and the firing unit (R59, R60, R63, R120, R126) -/

section RingOk
variable {s : State}

theorem State.mayBeginRender_iff {p : Position} : s.mayBeginRender p = true
    ↔ s.ring.lead.length < 5 ∧ ((s.ctx p.ctx).state = .running
      ∨ (((s.ctx p.ctx).state = .loading ∨ (s.ctx p.ctx).state = .armed) ∧ s.loadingCtx p.ctx = false)) := by
  simp only [State.mayBeginRender, Context.isRunning, Context.isNext, Bool.and_eq_true, Bool.or_eq_true,
    Bool.not_eq_true', decide_eq_true_eq]
  rfl

/-- The rasterizer begins a row only with room in the lead (R58, R60). -/
theorem tryRender_ringOk (h : s.RingOk) : (tryRender s).RingOk := by
  unfold tryRender
  split
  · split
    · rename_i p _ hbegin
      obtain ⟨hroom, -⟩ := State.mayBeginRender_iff.1 hbegin
      have hform := Ring.Form.begin h hroom (s.ctx p.ctx).seq p.row
      unfold beginRender
      dsimp only
      split <;> exact hform
    · exact h
  · exact h

@[simp] theorem passRows_rendering (s : State) : (passRows s).raster.rendering = s.raster.rendering := by
  unfold passRows
  split
  · split <;> simp
  · rfl

@[simp] theorem buildLists_rendering (s : State) : (buildLists s).raster.rendering = s.raster.rendering := by
  unfold buildLists
  split
  · split <;> simp
  · rfl

theorem advanceRaster_ringOk (h : s.RingOk) : (advanceRaster s).RingOk := by
  unfold advanceRaster
  split
  · exact tryRender_ringOk (RingStays.ringOk (by simp [RingStays]) h)
  · exact h

theorem settle_ringOk (h : s.RingOk) : (settle s).RingOk :=
  advanceRaster_ringOk (RingStays.ringOk (by simp [RingStays]) h)

/-- The row in flight leaves for History with its plan (R126, R127). -/
theorem flightOver_ringOk (h : s.RingOk) (p : Plan) : (flightOver s p).RingOk := by
  have hform : { s.ring with firing := none }.Form false s.raster.rendering.isSome := Ring.Form.unfire h
  unfold flightOver
  split
  · exact hform.pushHistory (by rfl)
  · rename_i hnone
    rw [← hnone] at hform
    exact hform

theorem endFlight_ringOk (h : s.RingOk) (p : Plan) (trimmed short : Bool) : (endFlight s p trimmed short).RingOk := by
  rw [endFlight_eq]
  exact (endRow_ringStays _ _ _ _ _).ringOk (flightOver_ringOk h p)

theorem stopRow_ringOk (h : s.RingOk) : (stopRow s).RingOk := by
  unfold stopRow
  split
  · exact h
  · rename_i p hp
    split
    · exact RingStays.ringOk (by simp [RingStays, hp]) h
    · exact endFlight_ringOk h _ _ _

theorem afterMark_ringOk (h : s.RingOk) (seq : Nat) : (afterMark s seq).RingOk := by
  have hload : (stopLoadOf s seq).RingOk := RingStays.ringOk (by simp [RingStays]) h
  unfold afterMark stopRowOf
  split
  · split
    · exact stopRow_ringOk hload
    · exact hload
  · exact hload

theorem drivePlan_ringOk {p : Plan} (h : s.RingOk) (hp : s.plan = some p) (q : Plan) : (drivePlan s q).RingOk :=
  RingStays.ringOk (by simp [RingStays, drivePlan, hp]) h

theorem afterPulse_ringOk {p : Plan} (h : s.RingOk) (hp : s.plan = some p) (q : Plan) : (afterPulse s q).RingOk := by
  unfold afterPulse
  split
  · exact drivePlan_ringOk h hp _
  · exact settle_ringOk (endFlight_ringOk h _ _ _)

theorem recordGap_ringOk (h : s.RingOk) : (recordGap s).RingOk := Ring.Form.pushHistory h rfl

theorem recordEmpty_ringOk (h : s.RingOk) (x : Slot) (seq row : Nat) : (recordEmpty s x seq row).RingOk :=
  Ring.Form.pushHistory (Ring.Form.filterLead h _) rfl

theorem beginFiring_ringOk (h : s.RingOk) (x : Slot) (p : Plan) : (beginFiring s x p).RingOk := by
  have hfire := Ring.Form.fire (Ring.Form.filterLead h fun y => !y.isRowOf p.seq p.row) x
  unfold beginFiring
  dsimp only
  split <;> exact hfire

theorem endRender_ringOk (h : s.RingOk) (r : Render) : (endRender s r).RingOk := by
  cases hk : s.keepsRender r with
  | true =>
    rw [endRender_of_kept hk, State.ringOk_iff_form]
    have hrender : (keepRender (renderOver s) r).raster.rendering = none := by
      rw [keepRender_raster]
      (repeat' split) <;> rfl
    have hplan : (keepRender (renderOver s) r).plan = s.plan := by simp [renderOver]
    have hform := Ring.Form.keepRender h ((renderOver s).renderImage r)
    rw [State.setStore_ring, keepRender_ring, State.setStore_plan, hplan, State.setStore_raster, hrender]
    exact hform
  | false =>
    rw [endRender_of_dropped hk]
    exact Ring.Form.dropRender h

/-! #### The events of the labels and of the row pulse -/

theorem appendOrRefuse_ringOk (h : s.RingOk) (e : JobEntry) : (appendOrRefuse s e).RingOk :=
  RingStays.ringOk (by simp [RingStays]) h

theorem takeJob_ringOk (h : s.RingOk) (seq form darkness : Nat) (entries : List Field) :
    (takeJob s seq form darkness entries).RingOk := by
  have hclassify : ∀ e, (classifyJob s e).RingOk := fun e => by
    unfold classifyJob
    dsimp only
    split
    · exact settle_ringOk h
    · split
      · exact settle_ringOk (appendOrRefuse_ringOk h e)
      · split
        · exact settle_ringOk (appendOrRefuse_ringOk (RingStays.ringOk (by simp [RingStays]) h) e)
        · exact h
  unfold takeJob
  split
  · exact h
  · exact h
  · exact RingStays.ringOk (by simp [RingStays]) h
  · split
    · exact h
    · exact hclassify _

theorem takeCancel_ringOk (h : s.RingOk) (seq : Nat) : (takeCancel s seq).RingOk := by
  unfold takeCancel
  split
  · exact settle_ringOk (afterMark_ringOk (RingStays.ringOk (by simp [RingStays]) h) seq)
  · exact h

theorem takeCancelAll_ringOk (h : s.RingOk) : (takeCancelAll s).RingOk := by
  unfold takeCancelAll
  dsimp only
  split
  · refine settle_ringOk (stopRow_ringOk (RingStays.ringOk ?_ h))
    split <;> simp [RingStays]
  · exact h

theorem takeVoid_ringOk (h : s.RingOk) (seq : Nat) : (takeVoid s seq).RingOk := by
  unfold takeVoid
  split
  · split
    · exact settle_ringOk (afterMark_ringOk (RingStays.ringOk (by simp [RingStays]) h) seq)
    · split <;> exact h
  · exact h

theorem endRunning_ringOk (h : s.RingOk) : (endRunning s).RingOk := by
  cases hrun : s.runningCtx with
  | none =>
    rw [endRunning_of_none hrun]
    exact h
  | some i =>
    have hplan : (endRunning s).plan = s.plan := by simp
    rw [State.ringOk_iff_form, endRunning_ring hrun, endRunning_rendering, hplan]
    exact Ring.Form.filterLead h _

theorem takeTof_ringOk (h : s.RingOk) : (takeTof s).RingOk := by
  unfold takeTof
  split
  · split
    · exact RingStays.ringOk (by simp [RingStays]) h
    · have hstart := (startLabel_ringStays _).ringOk (endRunning_ringOk h)
      have hpurge : (purgeStale (arm (startLabel (endRunning s)))).RingOk :=
        RingStays.ringOk (by simp [RingStays]) hstart
      exact RingStays.ringOk (by simp [RingStays]) (advanceRaster_ringOk hpurge)
  · exact h

theorem cutFlight_ringOk (h : s.RingOk) : (cutFlight s).RingOk := by
  unfold cutFlight
  dsimp only
  split
  · exact h
  · split <;> exact endFlight_ringOk h _ _ _

theorem takeRow_ringOk (h : s.RingOk) (i : CtxId) : (takeRow s i).RingOk := by
  have htaken : (s.setCtx i (s.ctx i).takeRow).RingOk := RingStays.ringOk (by simp [RingStays]) h
  unfold takeRow
  dsimp only
  split
  · exact (endRow_ringStays _ _ _ _ _).ringOk (recordGap_ringOk htaken)
  · split
    · exact (endRow_ringStays _ _ _ _ _).ringOk (RingStays.ringOk (by simp [RingStays]) (recordGap_ringOk htaken))
    · unfold fireRow
      dsimp only
      split
      · exact (endRow_ringStays _ _ _ _ _).ringOk (recordEmpty_ringOk htaken _ _ _)
      · exact beginFiring_ringOk htaken _ _

theorem handRow_ringOk (h : s.RingOk) : (handRow s).RingOk := by
  unfold handRow
  split
  · split
    · exact takeRow_ringOk h _
    · exact recordGap_ringOk h
  · exact recordGap_ringOk h

theorem pulseActive_ringOk (h : s.RingOk) : (pulseActive s).RingOk := by
  have hpurge : (purgeStale (handRow (cutFlight (decreaseHold s)))).RingOk :=
    RingStays.ringOk (by simp [RingStays]) (handRow_ringOk (cutFlight_ringOk (s := decreaseHold s) h))
  exact RingStays.ringOk (by simp [RingStays, pulseActive]) (settle_ringOk hpurge)

/-! #### Hot, and the frames that act on arrival (R13, R131) -/

theorem enterHot_ringOk (h : s.RingOk) : (enterHot s).RingOk :=
  settle_ringOk (stopRow_ringOk (RingStays.ringOk (by simp [RingStays]) h))

theorem takeReading_ringOk (h : s.RingOk) (reading : Int) : (takeReading s reading).RingOk := by
  have hlines : ∀ u : State, u.RingOk → (driveLines u).RingOk := fun u => RingStays.ringOk (by simp [RingStays])
  have hwarm : ∀ u : State, u.RingOk → (evalWarm u).RingOk := fun u => RingStays.ringOk (by simp [RingStays])
  have hhot : ∀ u : State, u.RingOk → (evalHot u).RingOk := fun u hu => by
    unfold evalHot
    split
    · split
      · exact RingStays.ringOk (by simp [RingStays]) hu
      · exact hu
    · split
      · exact enterHot_ringOk hu
      · exact hu
  unfold takeReading
  dsimp only
  split
  · exact h
  · exact h
  · exact hlines _ (hhot _ (hwarm _ h))
  · exact hlines _ (hwarm _ h)

theorem takeSetup_ringOk (h : s.RingOk) (v : Setup) : (takeSetup s v).RingOk := by
  have hlines : ∀ u : State, u.RingOk → (driveLines u).RingOk := fun u => RingStays.ringOk (by simp [RingStays])
  have hwarm : ∀ u : State, u.RingOk → (setWarm u true).RingOk := fun u => RingStays.ringOk (by simp [RingStays])
  have hslot : ∀ u : State, u.RingOk → (examineSlot u).RingOk := fun u => RingStays.ringOk (by simp [RingStays])
  unfold takeSetup
  dsimp only
  refine hlines _ (State.RingOk.ite (enterHot_ringOk ?_) ?_) <;>
    exact .ite (hwarm _ (hslot _ (.ite h h))) (hslot _ (.ite h h))

theorem acceptFrame_ringOk (h : s.RingOk) (f : RxFrame) : (acceptFrame s f).RingOk := by
  have hroute : ∀ (u : State) source p, u.RingOk → (route u source p).RingOk := fun u source p hu => by
    cases p with
    | void seq => exact takeVoid_ringOk hu seq
    | command f => exact RingStays.ringOk (by simp [RingStays, route]) hu
    | store f => exact RingStays.ringOk (by simp [RingStays, route]) hu
    | demand seq first ds => exact RingStays.ringOk (by simp [RingStays, route]) hu
    | ignored => exact hu
  have hrx : (setReceiver s .ready (frameEndQuiet f)).RingOk := h
  have hbad : (badFrame (setReceiver s .ready (frameEndQuiet f))).RingOk := RingStays.ringOk (by simp [RingStays]) hrx
  unfold acceptFrame acceptChecked
  dsimp only
  split
  · split
    · split
      · split
        · exact hbad
        · split
          · exact hrx
          · exact hroute _ _ _ hrx
      · exact hrx
    · exact hbad
  · exact h

end RingOk

/-! #### Every command and every step -/

section Step
variable {s t : State}

theorem completeOp_ringStays {k : StoreOp → Bool} (h : completeOp s k = .next t) : RingStays s t := by
  unfold completeOp at h
  split at h
  · split at h
    · split at h <;> cases h
      simp [RingStays]
    · cases h
      exact .refl s
  · cases h
    exact .refl s

theorem execOperationFailed_ringStays (h : execOperationFailed s = .next t) : RingStays s t := by
  unfold execOperationFailed at h
  dsimp only at h
  split at h
  · split at h
    · split at h <;> cases h <;> simp [RingStays]
    · cases h
      exact .refl s
  · cases h
    exact .refl s

/-- The commands that the report unit takes, and those of the store's readers. -/
theorem execTaken_ringStays {c : Instr} (hc : c = .query ∨ c = .clear ∨ c = .minimumRunComplete ∨ c = .suspendComplete
    ∨ ∃ reader what, c = .storeReadRequest reader what) (h : exec c s = .next t) : RingStays s t := by
  rcases hc with rfl | rfl | rfl | rfl | ⟨reader, what, rfl⟩ <;>
    simp only [exec, execQuery, execClear, execMinimumRunComplete, execSuspendComplete, execStoreReadRequest] at h <;>
    (repeat' split at h) <;> cases h <;> simp [RingStays]

/-- The steps of a plan: each keeps one in flight, or ends the row with it (R125, R126). -/
theorem execPlan_ringOk {c : Instr} (hs : s.RingOk) (hc : c = .dataLoadComplete ∨ c = .latchComplete
    ∨ c = .mainPulseComplete ∨ c = .boostPulseComplete) (h : exec c s = .next t) : t.RingOk := by
  cases hp : s.plan with
  | none =>
    rcases hc with rfl | rfl | rfl | rfl <;>
      simp only [exec, execDataLoadComplete, execLatchComplete, execMainPulseComplete, execBoostPulseComplete,
        hp] at h <;>
      cases h <;> exact hs
  | some p =>
    rcases hc with rfl | rfl | rfl | rfl <;>
      simp only [exec, execDataLoadComplete, execLatchComplete, execMainPulseComplete, execBoostPulseComplete,
        hp] at h <;>
      split at h <;> cases h
    · exact drivePlan_ringOk hs hp _
    · exact hs
    · exact drivePlan_ringOk hs hp _
    · exact hs
    · exact afterPulse_ringOk hs hp _
    · exact hs
    · exact afterPulse_ringOk hs hp _
    · exact hs

/-- The frames at the head of the command queue that the sequence unit and the setup logic take. -/
theorem execHead_ringOk {c : Instr} (hs : s.RingOk) (hc : c = .setup ∨ c = .job ∨ c = .cancel ∨ c = .cancelAll)
    (h : exec c s = .next t) : t.RingOk := by
  have hpop : (popCommand s).RingOk := hs
  rcases hc with rfl | rfl | rfl | rfl <;> simp only [exec, execSetup, execJob, execCancel, execCancelAll] at h <;>
    split at h
  · split at h <;> cases h
    · exact takeSetup_ringOk hpop _
    · exact hpop
  · cases h; exact hs
  · cases h; exact takeJob_ringOk hpop _ _ _ _
  · cases h; exact hs
  · cases h; exact hs.ite (takeCancel_ringOk hpop _)
  · cases h; exact hs
  · cases h; exact (takeCancelAll_ringOk hpop).ite hs
  · cases h; exact hs

theorem exec_ringOk {c : Instr} (hs : s.RingOk) (h : exec c s = .next t) : t.RingOk := by
  cases c
  case coldStart => cases h; simp [State.RingOk, State.afterColdStart, Ring.empty]
  case rowPulse dt =>
    have hedge : ((passTime dt s).setTimer (passTime dt s).timer.edge).RingOk :=
      RingStays.ringOk (by simp [RingStays]) hs
    simp only [exec, execRowPulse] at h
    split at h <;> cases h
    · exact pulseActive_ringOk hedge
    · exact hedge
  case topOfForm => cases h; exact takeTof_ringOk hs
  case frameAccepted => cases h; exact acceptFrame_ringOk hs _
  case demand => cases h; exact acceptFrame_ringOk hs _
  case void => cases h; exact acceptFrame_ringOk hs _
  case setup => exact execHead_ringOk hs (by simp) h
  case job => exact execHead_ringOk hs (by simp) h
  case cancel => exact execHead_ringOk hs (by simp) h
  case cancelAll => exact execHead_ringOk hs (by simp) h
  case loadComplete =>
    simp only [exec, execLoadComplete] at h
    split at h
    · cases h; exact hs
    · split at h <;> cases h
      · exact advanceRaster_ringOk (RingStays.ringOk (by simp [RingStays]) hs)
      · exact hs
  case renderComplete =>
    simp only [exec, execRenderComplete] at h
    split at h
    · cases h; exact hs
    · split at h <;> cases h
      · rename_i r _ _
        exact advanceRaster_ringOk (RingStays.ringOk (by simp [RingStays]) (endRender_ringOk hs r))
      · exact hs
  case dataLoadComplete => exact execPlan_ringOk hs (by simp) h
  case latchComplete => exact execPlan_ringOk hs (by simp) h
  case mainPulseComplete => exact execPlan_ringOk hs (by simp) h
  case boostPulseComplete => exact execPlan_ringOk hs (by simp) h
  case conversionComplete => cases h; exact takeReading_ringOk hs _
  all_goals refine RingStays.ringOk ?_ hs
  case query => exact execTaken_ringStays (by simp) h
  case clear => exact execTaken_ringStays (by simp) h
  case minimumRunComplete => exact execTaken_ringStays (by simp) h
  case suspendComplete => exact execTaken_ringStays (by simp) h
  case storeReadRequest => exact execTaken_ringStays (by simp) h
  case sectorEraseComplete => exact completeOp_ringStays h
  case lineProgramComplete => exact completeOp_ringStays h
  case markProgramComplete => exact completeOp_ringStays h
  case operationFailed => exact execOperationFailed_ringStays h
  case scanComplete =>
    cases h
    split <;> simp [RingStays]
  case slwHoldExpiry =>
    cases h
    split <;> simp [RingStays]
  -- what is left belongs to the receiver, the transmitter and the taking of the store's commands
  all_goals
    cases h
    simp [RingStays]

theorem step_ringOk (hs : s.RingOk) (h : step s = .next t) : t.RingOk := by
  unfold step at h
  split at h
  · exact exec_ringOk (s := s.setPending _) (by exact hs) h
  · cases h
    exact RingStays.ringOk (by simp [RingStays]) hs

end Step

/-- Settles O11: what moves the ring, the plan or the render keeps the form, and the rest leaves all three. -/
theorem stepKeepsRing : Obligations.StepKeepsRing := fun _ _ => step_ringOk

end Sys2Proof.Machine

/-! ### The dots of an element on a row (O30) -/

namespace Sys2Proof.Machine

/-! #### One entry on one dot (R69) -/

theorem Dots.getLsbD_ofPred (p : Nat → Bool) {lc : Nat} (h : lc < 640) : (Dots.ofPred p).getLsbD lc = p lc := by
  rw [Dots.ofPred, BitVec.getLsbD_ofFnLE, dif_pos h]

section Dot
variable {m : Memory} {cat : List CatEntry} {number r lc cursor : Nat} {e : TableEntry}

theorem foreground_dot {a : ActiveEntry} (h : lc < 640) : (foreground m cat number a r).getLsbD lc = true
    ↔ a.entry.c0 ≤ sliceStart number + lc ∧ sliceStart number + lc ≤ a.entry.c1
      ∧ partCovers m cat a.entry.part a.cursor (sliceStart number + lc - a.entry.x) (r - a.entry.y) = true := by
  simp only [foreground, Dots.getLsbD_ofPred _ h, Bool.and_eq_true, decide_eq_true_eq, and_assoc]

/-- Black sets the dots that the entry's part covers, and Reverse inverts them (R69). -/
theorem applyEntry_dot (image : Dots) (h : lc < 640) {covered : Prop}
    (hp : partCovers m cat e.part cursor (sliceStart number + lc - e.x) (r - e.y) = true ↔ covered) :
    ((applyEntry m cat number r image { entry := { e with mode := .black }, cursor := cursor }).getLsbD lc = true
      ↔ image.getLsbD lc = true
        ∨ (e.c0 ≤ sliceStart number + lc ∧ sliceStart number + lc ≤ e.c1 ∧ covered))
    ∧ ((applyEntry m cat number r image { entry := { e with mode := .reverse }, cursor := cursor }).getLsbD lc = true
      ↔ ¬(image.getLsbD lc = true
        ↔ (e.c0 ≤ sliceStart number + lc ∧ sliceStart number + lc ≤ e.c1 ∧ covered))) := by
  constructor
  · rw [← hp]
    simp [applyEntry, foreground_dot h]
  · rw [← hp]
    simp only [applyEntry, BitVec.getLsbD_xor]
    rw [Bool.xor_iff_ne, Ne, Bool.eq_iff_iff, foreground_dot h]

end Dot

/-! #### The character over a column, and its glyph ink (R46, R71) -/

/-- The column at which character `k` begins in the unrotated frame (R46). -/
def charLeft (mx : Nat) (chars : List TextChar) (k : Nat) : Nat := mx * ((chars.take k).map TextChar.advance).sum

theorem charLeft_succ (mx : Nat) (c : TextChar) (cs : List TextChar) (k : Nat) :
    charLeft mx (c :: cs) (k + 1) = mx * c.advance + charLeft mx cs k := by
  simp [charLeft, Nat.mul_add]

/-- The characters stand one after the other, so that at most one covers the column. -/
theorem findChar_eq_some {mx u s : Nat} {chars : List TextChar} {c : TextChar} {col : Nat} :
    findChar mx u s chars = some (c, col) ↔ ∃ k, chars[k]? = some c ∧ s + charLeft mx chars k ≤ u
      ∧ u < s + charLeft mx chars k + mx * c.advance ∧ col = (u - (s + charLeft mx chars k)) / mx := by
  induction chars generalizing s with
  | nil => simp [findChar]
  | cons d ds ih =>
    unfold findChar
    split
    · rename_i hd
      constructor
      · intro h
        cases h
        exact ⟨0, by simp, by simpa [charLeft] using hd⟩
      · rintro ⟨k, hk, hleft, hright, hcol⟩
        cases k with
        | zero =>
          obtain rfl : d = c := by simpa using hk
          simpa [charLeft] using hcol.symm
        | succ k =>
          rw [charLeft_succ] at hleft
          omega
    · rename_i hd
      rw [ih]
      constructor
      · rintro ⟨k, hk, h⟩
        exact ⟨k + 1, by simpa using hk, by rwa [charLeft_succ, ← Nat.add_assoc]⟩
      · rintro ⟨k, hk, h⟩
        cases k with
        | zero =>
          obtain ⟨hleft, hright, -⟩ := h
          simp only [List.getElem?_cons_zero, Option.some.injEq] at hk
          subst hk
          exact absurd ⟨hleft, hright⟩ hd
        | succ k => exact ⟨k, by simpa using hk, by rwa [charLeft_succ, ← Nat.add_assoc] at h⟩

theorem glyphInk_iff {m : Memory} {o : CatEntry} {lead : List Byte} {mx my : Nat} {chars : List TextChar} {u v : Nat} :
    glyphInk m o lead mx my chars u v = true ↔ ∃ k c, chars[k]? = some c ∧ c.substituted = false
      ∧ charLeft mx chars k ≤ u ∧ u < charLeft mx chars k + mx * c.advance
      ∧ imageDot m o (glyphRowOffset lead c (v / my)) ((u - charLeft mx chars k) / mx) = true := by
  unfold glyphInk
  split
  · rename_i c col hfind
    obtain ⟨k, hk, hleft, hright, hcol⟩ := findChar_eq_some.1 hfind
    rw [Nat.zero_add] at hleft hright hcol
    constructor
    · intro hink
      obtain ⟨hsub, hdot⟩ : c.substituted = false ∧ _ := by simpa using hink
      exact ⟨k, c, hk, hsub, hleft, hright, hcol ▸ hdot⟩
    · rintro ⟨j, d, hj, hsub, hl, hr, hdot⟩
      have hd : findChar mx u 0 chars = some (d, (u - charLeft mx chars j) / mx) :=
        findChar_eq_some.2 ⟨j, hj, by simpa using hl, by simpa using hr, by simp⟩
      obtain ⟨rfl, rfl⟩ : c = d ∧ col = _ := by simpa using hfind.symm.trans hd
      simp [hsub, hdot]
  · rename_i hfind
    constructor
    · intro h
      cases h
    · rintro ⟨j, d, hj, -, hl, hr, -⟩
      have hd : findChar mx u 0 chars = some (d, (u - charLeft mx chars j) / mx) :=
        findChar_eq_some.2 ⟨j, hj, by simpa using hl, by simpa using hr, by simp⟩
      cases hfind.symm.trans hd

/-! #### Bars (R84, R85) -/

/-- The bars numbered `low..high` are counted from 1 (R84). -/
theorem picketCovers_iff {spans : List (Nat × Nat)} {low high cc : Nat} (hlow : 1 ≤ low) :
    picketCovers spans low high cc = true ↔ ∃ k b, low ≤ k ∧ k ≤ high ∧ spans[k - 1]? = some b
      ∧ b.1 ≤ cc ∧ cc < b.1 + b.2 := by
  have hmem : ∀ b, b ∈ (spans.drop (low - 1)).take (high + 1 - low)
      ↔ ∃ k, low ≤ k ∧ k ≤ high ∧ spans[k - 1]? = some b := by
    intro b
    simp only [List.mem_iff_getElem?, List.getElem?_take, List.getElem?_drop]
    constructor
    · rintro ⟨j, hj⟩
      split at hj
      · exact ⟨low + j, by omega, by omega, by rwa [show low + j - 1 = low - 1 + j by omega]⟩
      · cases hj
    · rintro ⟨k, hk, hk', hb⟩
      exact ⟨k - low, by rwa [if_pos (by omega), show low - 1 + (k - low) = k - 1 by omega]⟩
  simp only [picketCovers, List.any_eq_true, hmem, Bool.and_eq_true, decide_eq_true_eq]
  constructor
  · rintro ⟨b, ⟨k, hk, hk', hb⟩, hcc⟩
    exact ⟨k, b, hk, hk', hb, hcc⟩
  · rintro ⟨k, b, hk, hk', hb, hcc⟩
    exact ⟨b, ⟨k, hk, hk', hb⟩, hcc⟩

/-- The bars of a run list begin in rising order (R79). -/
theorem barSpans_pairwise (m re o : Nat) (runs : List Nat) :
    (barSpans m re o runs).Pairwise (fun a b => a.1 ≤ b.1) ∧ ∀ b ∈ barSpans m re o runs, o ≤ b.1 := by
  fun_induction barSpans m re o runs with
  | case1 o bar space rest ih =>
    obtain ⟨hpair, hfrom⟩ := ih
    refine ⟨List.pairwise_cons.2 ⟨fun b hb => ?_, hpair⟩, fun b hb => ?_⟩
    · have := hfrom b hb
      show o ≤ b.1
      omega
    · rcases List.mem_cons.1 hb with rfl | hb
      · exact le_rfl
      · have := hfrom b hb
        omega
  | case2 => simp
  | case3 => simp

/-- The cursor stops at the first bar that is not wholly above the row, and that is the bar the row lies in, if it lies
in any (R85). -/
theorem advanceCursor_bar {rr : Nat} {spans : List (Nat × Nat)} (hs : spans.Pairwise fun a b => a.1 ≤ b.1) (k : Nat) :
    k ≤ advanceCursor rr k spans
    ∧ ((∃ b, spans[advanceCursor rr k spans - k]? = some b ∧ b.1 ≤ rr)
      ↔ ∃ b ∈ spans, b.1 ≤ rr ∧ rr < b.1 + b.2) := by
  induction spans generalizing k with
  | nil => simp [advanceCursor]
  | cons a spans ih =>
    obtain ⟨o, w⟩ := a
    obtain ⟨hfirst, hrest⟩ := List.pairwise_cons.1 hs
    unfold advanceCursor
    split
    · rename_i habove
      obtain ⟨hle, hiff⟩ := ih hrest (k + 1)
      refine ⟨by omega, ?_⟩
      rw [show advanceCursor rr (k + 1) spans - k = advanceCursor rr (k + 1) spans - (k + 1) + 1 by omega,
        List.getElem?_cons_succ, hiff]
      simp
      omega
    · rename_i hbelow
      refine ⟨le_rfl, ?_⟩
      rw [Nat.sub_self, List.getElem?_cons_zero]
      constructor
      · rintro ⟨b, hb, hrow⟩
        cases hb
        exact ⟨(o, w), by simp, hrow, by simpa using hbelow⟩
      · rintro ⟨b, hb, hrow, -⟩
        rcases List.mem_cons.1 hb with rfl | hb
        · exact ⟨_, rfl, hrow⟩
        · exact ⟨_, rfl, (hfirst b hb).trans hrow⟩

/-- The bars before the cursor end above the row, so that the moved cursor names the bar the row lies in (R85). -/
theorem ladderCovers_advanced {spans : List (Nat × Nat)} {cursor rr : Nat} (hs : spans.Pairwise fun a b => a.1 ≤ b.1)
    (hcursor : 1 ≤ cursor) (habove : ∀ k b, k + 1 < cursor → spans[k]? = some b → b.1 + b.2 ≤ rr) :
    ladderCovers spans (advanceCursor rr cursor (spans.drop (cursor - 1))) rr = true
      ↔ ∃ b ∈ spans, b.1 ≤ rr ∧ rr < b.1 + b.2 := by
  obtain ⟨hle, hiff⟩ := advanceCursor_bar (rr := rr) (hs.drop (i := cursor - 1)) cursor
  have hindex : ∀ n, cursor ≤ n → cursor - 1 + (n - cursor) = n - 1 := by omega
  rw [List.getElem?_drop, hindex _ hle] at hiff
  have hcovers : ∀ n, 1 ≤ n →
      (ladderCovers spans n rr = true ↔ ∃ b, spans[n - 1]? = some b ∧ b.1 ≤ rr) := fun n hn => by
    unfold ladderCovers
    split <;> simp_all
  rw [hcovers _ (hcursor.trans hle), hiff]
  constructor
  · rintro ⟨b, hb, hrow⟩
    exact ⟨b, List.mem_of_mem_drop hb, hrow⟩
  · rintro ⟨b, hb, hrow⟩
    obtain ⟨k, hk⟩ := List.mem_iff_getElem?.1 hb
    have hlate : cursor ≤ k + 1 := by
      by_contra hearly
      have := habove k b (by omega) hk
      omega
    refine ⟨b, List.mem_iff_getElem?.2 ⟨k - (cursor - 1), ?_⟩, hrow⟩
    rwa [List.getElem?_drop, show cursor - 1 + (k - (cursor - 1)) = k by omega]

/-! #### The parts (R64, R70 to R72) -/

section Parts
variable {m : Memory} {cat : List CatEntry} {cursor cc rr : Nat}

theorem boxCovers_iff {width height thickness : Nat} : boxCovers width height thickness cc rr = true
    ↔ thickness = 0 ∨ cc < thickness ∨ width ≤ cc + thickness ∨ rr < thickness ∨ height ≤ rr + thickness := by
  simp [boxCovers, or_assoc]

theorem partCovers_text {rot : Rotation} {mx my gh w h : Nat} {ref : ObjRef} {chars : List TextChar} {o : CatEntry}
    (ho : refFind cat ref = some o) : partCovers m cat (.text rot mx my ref gh w h chars) cursor cc rr
      = glyphInk m o (glyphLead m o) mx my chars (unrotate rot w h cc rr).1 (unrotate rot w h cc rr).2 := by
  simp [partCovers, ho]

theorem partCovers_graphic {ref : ObjRef} {w h : Nat} {o : CatEntry} (ho : refFind cat ref = some o) :
    partCovers m cat (.graphic ref w h) cursor cc rr = imageDot m o (graphicRowOffset w rr) cc := by
  simp [partCovers, ho]

/-- A reference with no object to find covers no dot (R64). -/
theorem partCovers_of_absent {ref : ObjRef} (ho : refFind cat ref = none) :
    (∀ rot mx my gh w h chars, ¬partCovers m cat (.text rot mx my ref gh w h chars) cursor cc rr = true)
    ∧ ∀ w h, ¬partCovers m cat (.graphic ref w h) cursor cc rr = true := by
  simp [partCovers, ho]

end Parts

/-- Settles O30: the dot of an entry by what its part covers, for each kind of part. -/
theorem elementDots : Obligations.ElementDots := by
  intro m cat number r lc cursor e image hlc c cc rr draws
  have hdraws : ∀ {cursor covered}, (partCovers m cat e.part cursor cc rr = true ↔ covered) → draws cursor covered :=
    fun hp => applyEntry_dot image hlc hp
  refine ⟨fun w h th he => ?_, fun rot mx my ref gh wt ht chars he => ⟨fun o ho => ?_, fun ho => ?_⟩,
    fun ref w h he => ⟨fun o ho => ?_, fun ho => ?_⟩,
    fun mw h red re runs ext n sl he => ⟨fun hsl => ?_, fun low high hsl hlow => ?_⟩,
    fun mw h red re runs ext n sl he _ _ _ hcursor habove => ?_⟩
  · exact hdraws (by rw [he]; exact boxCovers_iff)
  · refine hdraws ?_
    rw [he, partCovers_text ho, glyphInk_iff]
    cases rot <;> rfl
  · exact hdraws (iff_false_intro (he ▸ (partCovers_of_absent ho).1 rot mx my gh wt ht chars))
  · exact hdraws (by rw [he, partCovers_graphic ho]; rfl)
  · exact hdraws (iff_false_intro (he ▸ (partCovers_of_absent ho).2 w h))
  · exact hdraws (by rw [he, hsl]; simp [partCovers])
  · exact hdraws (by rw [he, hsl]; exact picketCovers_iff hlow)
  · refine hdraws ?_
    rw [cursorFor, he]
    exact ladderCovers_advanced (barSpans_pairwise mw re 0 runs).1 hcursor habove

end Sys2Proof.Machine

/-! ### The rasterizer's work in an event (O31) -/

namespace Sys2Proof.Machine

/-! #### The element lists (R67, R68) -/

theorem insertByRow_eq (e : TableEntry) (l : List TableEntry) :
    insertByRow e l = l.orderedInsert (fun a b => a.r0 < b.r0) e := by
  induction l with
  | nil => rfl
  | cons x xs ih => simp [insertByRow, List.orderedInsert_cons, ih]

theorem insertActive_eq (e : TableEntry) (l : List ActiveEntry) :
    insertActive e l = l.orderedInsert (fun a b => a.entry.index < b.entry.index) ⟨e, 1⟩ := by
  induction l with
  | nil => rfl
  | cons x xs ih => simp [insertActive, List.orderedInsert_cons, ih]

section Insert
variable {α : Type} {key : α → Nat} {l : List α} {x : α}

/-- An element placed after those of its own key keeps a list in rising order. -/
theorem orderedInsert_after_pairwise (h : l.Pairwise fun a b => key a ≤ key b) :
    (l.orderedInsert (fun a b => key a < key b) x).Pairwise fun a b => key a ≤ key b := by
  induction l with
  | nil => simp
  | cons y l ih =>
    obtain ⟨hy, hl⟩ := List.pairwise_cons.1 h
    rw [List.orderedInsert_cons]
    split
    · rename_i hlt
      refine List.pairwise_cons.2 ⟨fun z hz => ?_, h⟩
      rcases List.mem_cons.1 hz with rfl | hz
      · exact hlt.le
      · exact hlt.le.trans (hy z hz)
    · rename_i hle
      refine List.pairwise_cons.2 ⟨fun z hz => ?_, ih hl⟩
      rcases (List.mem_orderedInsert _).1 hz with rfl | hz
      · exact Nat.le_of_not_lt hle
      · exact hy z hz

/-- In a list in rising order the element comes last among those of its key. -/
theorem orderedInsert_after_filter (h : l.Pairwise fun a b => key a ≤ key b) (k : Nat) :
    (l.orderedInsert (fun a b => key a < key b) x).filter (fun a => decide (key a = k))
      = l.filter (fun a => decide (key a = k)) ++ [x].filter fun a => decide (key a = k) := by
  induction l with
  | nil => simp
  | cons y l ih =>
    obtain ⟨hy, hl⟩ := List.pairwise_cons.1 h
    rw [List.orderedInsert_cons]
    split
    · rename_i hlt
      by_cases hk : key x = k
      · have hnone : (y :: l).filter (fun a => decide (key a = k)) = [] := by
          refine List.filter_eq_nil_iff.2 fun z hz => ?_
          have : key y ≤ key z := by
            rcases List.mem_cons.1 hz with rfl | hz
            · exact le_rfl
            · exact hy z hz
          simp
          omega
        rw [List.filter_cons, hnone]
        simp [hk]
      · simp [List.filter_cons, hk]
    · rw [List.filter_cons, ih hl, List.filter_cons (x := y)]
      split <;> rfl

end Insert

/-- The pending list is the table by first row, entries of one row in form order (R67). -/
theorem pendingList_stable (table : List TableEntry) : (pendingList table).Pairwise (fun a b => a.r0 ≤ b.r0)
    ∧ ∀ r, (pendingList table).filter (fun e => decide (e.r0 = r)) = table.filter fun e => decide (e.r0 = r) := by
  have hfold : ∀ acc : List TableEntry, acc.Pairwise (fun a b => a.r0 ≤ b.r0) →
      (table.foldl (fun l e => insertByRow e l) acc).Pairwise (fun a b => a.r0 ≤ b.r0)
      ∧ ∀ r, (table.foldl (fun l e => insertByRow e l) acc).filter (fun e => decide (e.r0 = r))
        = acc.filter (fun e => decide (e.r0 = r)) ++ table.filter fun e => decide (e.r0 = r) := by
    induction table with
    | nil => simp
    | cons e es ih =>
      intro acc hacc
      obtain ⟨hpair, hfilter⟩ := ih (insertByRow e acc) (insertByRow_eq e acc ▸ orderedInsert_after_pairwise hacc)
      refine ⟨hpair, fun r => ?_⟩
      rw [List.foldl_cons, hfilter, insertByRow_eq, orderedInsert_after_filter hacc, List.append_assoc,
        ← List.filter_append]
      rfl
  simpa [pendingList] using hfold [] .nil

/-- Step 2 of R68: the entries whose first row has come leave the pending list, and those that reach the row join the
active list with their cursor at bar 1. -/
theorem admitEntries_spec (r : Nat) {pending : List TableEntry} (hp : pending.Pairwise fun a b => a.r0 ≤ b.r0)
    (active : List ActiveEntry) :
    (admitEntries r pending active).1 = pending.filter (fun e => decide (r < e.r0))
    ∧ (active.Pairwise (fun a b => a.entry.index ≤ b.entry.index) →
        (admitEntries r pending active).2.Pairwise fun a b => a.entry.index ≤ b.entry.index)
    ∧ ∀ a, a ∈ (admitEntries r pending active).2 ↔ a ∈ active
        ∨ (a.cursor = 1 ∧ a.entry ∈ pending ∧ a.entry.r0 ≤ r ∧ r ≤ a.entry.r1) := by
  induction pending generalizing active with
  | nil => simp [admitEntries]
  | cons e es ih =>
    obtain ⟨he, hes⟩ := List.pairwise_cons.1 hp
    unfold admitEntries
    split
    · rename_i hcome
      obtain ⟨hleft, hsorted, hmem⟩ := ih hes (if r ≤ e.r1 then insertActive e active else active)
      refine ⟨by simp [hleft, hcome], fun hactive => hsorted ?_, fun a => ?_⟩
      · split
        · rw [insertActive_eq]
          exact orderedInsert_after_pairwise hactive
        · exact hactive
      · have hjoin : a ∈ (if r ≤ e.r1 then insertActive e active else active)
            ↔ a ∈ active ∨ (a = ⟨e, 1⟩ ∧ r ≤ e.r1) := by
          split
          · rename_i hreach
            simp [insertActive_eq, List.mem_orderedInsert, hreach, or_comm]
          · rename_i hgone
            simp [hgone]
        have hnew : (a = ⟨e, 1⟩ ∧ r ≤ e.r1) ↔ (a.cursor = 1 ∧ a.entry = e ∧ a.entry.r0 ≤ r ∧ r ≤ a.entry.r1) := by
          obtain ⟨entry, cursor⟩ := a
          constructor
          · rintro ⟨h, hreach⟩
            cases h
            exact ⟨rfl, rfl, hcome, hreach⟩
          · rintro ⟨rfl, rfl, -, hreach⟩
            exact ⟨rfl, hreach⟩
        rw [hmem, hjoin, hnew, List.mem_cons, or_assoc, ← and_or_left, ← or_and_right]
    · rename_i hlater
      have hall : ∀ x ∈ e :: es, r < x.r0 := fun x hx => by
        rcases List.mem_cons.1 hx with rfl | hx
        · omega
        · have := he x hx
          omega
      refine ⟨(List.filter_eq_self.2 fun x hx => decide_eq_true (hall x hx)).symm, id, fun a => ?_⟩
      refine ⟨.inl, fun h => h.resolve_right fun ⟨_, hmem, hrow, _⟩ => ?_⟩
      have := hall _ hmem
      omega

theorem updateLists_spec (r : Nat) {pending : List TableEntry} (hp : pending.Pairwise fun a b => a.r0 ≤ b.r0)
    (active : List ActiveEntry) :
    (updateLists r pending active).1 = pending.filter (fun e => decide (r < e.r0))
    ∧ (active.Pairwise (fun a b => a.entry.index ≤ b.entry.index) →
        (updateLists r pending active).2.Pairwise fun a b => a.entry.index ≤ b.entry.index)
    ∧ ∀ a, a ∈ (updateLists r pending active).2 ↔ ∃ k, a.cursor = cursorFor a.entry k r ∧ r ≤ a.entry.r1
        ∧ ((⟨a.entry, k⟩ : ActiveEntry) ∈ active ∨ (k = 1 ∧ a.entry ∈ pending ∧ a.entry.r0 ≤ r)) := by
  obtain ⟨hleft, hsorted, hmem⟩ := admitEntries_spec r hp (active.filter fun a => decide (r ≤ a.entry.r1))
  refine ⟨hleft, fun hactive => List.pairwise_map.2 (hsorted (hactive.filter _)), fun a => ?_⟩
  have hadmitted : ∀ e k, (⟨e, k⟩ : ActiveEntry) ∈ (admitEntries r pending (active.filter fun a =>
      decide (r ≤ a.entry.r1))).2 ↔ r ≤ e.r1 ∧ ((⟨e, k⟩ : ActiveEntry) ∈ active ∨ (k = 1 ∧ e ∈ pending ∧ e.r0 ≤ r)) :=
    fun e k => by
      rw [hmem, List.mem_filter, decide_eq_true_eq]
      constructor
      · rintro (⟨hin, hreach⟩ | ⟨hk, hin, hrow, hreach⟩)
        · exact ⟨hreach, .inl hin⟩
        · exact ⟨hreach, .inr ⟨hk, hin, hrow⟩⟩
      · rintro ⟨hreach, hin | ⟨hk, hin, hrow⟩⟩
        · exact .inl ⟨hin, hreach⟩
        · exact .inr ⟨hk, hin, hrow, hreach⟩
  simp only [updateLists, List.mem_map]
  constructor
  · rintro ⟨⟨e, k⟩, hin, rfl⟩
    exact ⟨k, rfl, (hadmitted e k).1 hin⟩
  · rintro ⟨k, hcursor, hin⟩
    exact ⟨⟨a.entry, k⟩, (hadmitted a.entry k).2 hin, by rw [← hcursor]⟩

/-! #### The reads of a row (R71 to R73, R178) -/

/-- A glyph row is reached when a later one is. -/
theorem reaches_glyphRow_of_le {o : CatEntry} {lead : List Byte} {c : TextChar} {g g' : Nat} (hg : g ≤ g')
    (h : o.reaches (glyphRowOffset lead c g') = true) : o.reaches (glyphRowOffset lead c g) = true := by
  have hoff : glyphRowOffset lead c g ≤ glyphRowOffset lead c g' :=
    Nat.add_le_add_left (Nat.mul_le_mul_right _ hg) _
  rw [CatEntry.reaches_iff] at h ⊢
  omega

/-- Column `c` of the label lies in the entry's clipped box and in the slice. -/
def TableEntry.InSlice (e : TableEntry) (number c : Nat) : Prop :=
  e.c0 ≤ c ∧ c ≤ e.c1 ∧ 640 * number ≤ c ∧ c ≤ 640 * number + 639

/-- Row `v` of the unrotated frame, in character `k`, is one whose glyph row the entry's row `r` needs (R71): at 0 and
180 degrees its one row in any character, at 90 and 270 a row of the character crossed, of a dot in the slice. -/
def TableEntry.NeedsGlyphRow (e : TableEntry) (number r : Nat) (rot : Rotation) (mx wt ht : Nat)
    (chars : List TextChar) (k : Nat) (ch : TextChar) (v : Nat) : Prop :=
  (rot = .r0 → v = r - e.y) ∧ (rot = .r180 → v = ht - 1 - (r - e.y))
  ∧ (rot = .r90 ∨ rot = .r270 →
      (∃ c, e.c0 ≤ c ∧ c ≤ e.c1 ∧ 640 * number ≤ c ∧ c ≤ 640 * number + 639
        ∧ v = if rot = .r90 then ht - 1 - (c - e.x) else c - e.x)
      ∧ charLeft mx chars k ≤ (if rot = .r90 then r - e.y else wt - 1 - (r - e.y))
      ∧ (if rot = .r90 then r - e.y else wt - 1 - (r - e.y)) < charLeft mx chars k + mx * ch.advance)

section Reads
variable {m : Memory} {cat : List CatEntry} {number r : Nat} {e : TableEntry}

/-- At 90 and 270 degrees the first row crossed is the lowest of those that the dots in the slice lie in. -/
theorem firstCrossed_least (hbox : e.c0 ≤ e.c1 ∧ e.c0 ≤ 640 * number + 639 ∧ 640 * number ≤ e.c1) {rot : Rotation}
    (hrot : rot = .r90 ∨ rot = .r270) (w h : Nat) :
    (∃ c, e.InSlice number c ∧ e.firstCrossed number rot w h r = (unrotate rot w h (c - e.x) (r - e.y)).2)
    ∧ ∀ c, e.InSlice number c → e.firstCrossed number rot w h r ≤ (unrotate rot w h (c - e.x) (r - e.y)).2 := by
  have hstart : sliceStart number = 640 * number := rfl
  have hlow : e.InSlice number (max e.c0 (640 * number)) := by
    unfold TableEntry.InSlice
    omega
  have hhigh : e.InSlice number (min e.c1 (640 * number + 639)) := by
    unfold TableEntry.InSlice
    omega
  refine ⟨?_, fun c hc => ?_⟩
  · simp only [TableEntry.firstCrossed, hstart]
    rcases min_choice (unrotate rot w h (max e.c0 (640 * number) - e.x) (r - e.y)).2
      (unrotate rot w h (min e.c1 (640 * number + 639) - e.x) (r - e.y)).2 with hmin | hmin
    · exact ⟨_, hlow, hmin⟩
    · exact ⟨_, hhigh, hmin⟩
  · unfold TableEntry.InSlice at hc
    rcases hrot with rfl | rfl <;> simp only [TableEntry.firstCrossed, hstart, unrotate] <;> omega

/-- At 0 and 180 degrees a row lies in one row of the unrotated frame. -/
theorem firstCrossed_upright {rot : Rotation} (hrot : rot = .r0 ∨ rot = .r180) (w h : Nat) :
    e.firstCrossed number rot w h r = (unrotate rot w h 0 (r - e.y)).2 := by
  rcases hrot with rfl | rfl <;> exact min_self _

section Text
variable {o : CatEntry} {lead : List Byte} {rot : Rotation} {mx my u v : Nat} {chars : List TextChar}

theorem textReads_upright (hrot : rot = .r0 ∨ rot = .r180) : textReads o lead rot mx my u v chars = true
    ↔ ∃ (k : Nat) (ch : TextChar), chars[k]? = some ch ∧ ch.substituted = false
      ∧ o.reaches (glyphRowOffset lead ch (v / my)) = true := by
  have hany : textReads o lead rot mx my u v chars
      = chars.any fun c => !c.substituted && o.reaches (glyphRowOffset lead c (v / my)) := by
    rcases hrot with rfl | rfl <;> rfl
  simp only [hany, List.any_eq_true, Bool.and_eq_true, Bool.not_eq_true', List.mem_iff_getElem?]
  constructor
  · rintro ⟨ch, ⟨k, hk⟩, hmade⟩
    exact ⟨k, ch, hk, hmade⟩
  · rintro ⟨k, ch, hk, hmade⟩
    exact ⟨ch, ⟨k, hk⟩, hmade⟩

theorem textReads_turned (hrot : rot = .r90 ∨ rot = .r270) : textReads o lead rot mx my u v chars = true
    ↔ ∃ (k : Nat) (ch : TextChar), chars[k]? = some ch ∧ ch.substituted = false
      ∧ o.reaches (glyphRowOffset lead ch (v / my)) = true
      ∧ charLeft mx chars k ≤ u ∧ u < charLeft mx chars k + mx * ch.advance := by
  have hany : textReads o lead rot mx my u v chars = (findChar mx u 0 chars).any
      fun x => !x.1.substituted && o.reaches (glyphRowOffset lead x.1 (v / my)) := by
    rcases hrot with rfl | rfl <;> rfl
  simp only [hany, Option.any_eq_true, Bool.and_eq_true, Bool.not_eq_true', Prod.exists, findChar_eq_some,
    Nat.zero_add]
  constructor
  · rintro ⟨ch, _, ⟨k, hk, hleft, hright, -⟩, hsub, hreach⟩
    exact ⟨k, ch, hk, hsub, hreach, hleft, hright⟩
  · rintro ⟨k, ch, hk, hsub, hreach, hleft, hright⟩
    exact ⟨ch, _, ⟨k, hk, hleft, hright, rfl⟩, hsub, hreach⟩

end Text

theorem needsGlyphRow_upright {rot : Rotation} (hrot : rot = .r0 ∨ rot = .r180) {mx wt ht k v : Nat}
    {chars : List TextChar} {ch : TextChar} :
    e.NeedsGlyphRow number r rot mx wt ht chars k ch v ↔ v = (unrotate rot wt ht 0 (r - e.y)).2 := by
  rcases hrot with rfl | rfl <;> simp [TableEntry.NeedsGlyphRow, unrotate]

theorem needsGlyphRow_turned {rot : Rotation} (hrot : rot = .r90 ∨ rot = .r270) {mx wt ht k v : Nat}
    {chars : List TextChar} {ch : TextChar} :
    e.NeedsGlyphRow number r rot mx wt ht chars k ch v
      ↔ (∃ c, e.InSlice number c ∧ v = (unrotate rot wt ht (c - e.x) (r - e.y)).2)
        ∧ charLeft mx chars k ≤ (unrotate rot wt ht 0 (r - e.y)).1
        ∧ (unrotate rot wt ht 0 (r - e.y)).1 < charLeft mx chars k + mx * ch.advance := by
  rcases hrot with rfl | rfl <;> simp [TableEntry.NeedsGlyphRow, TableEntry.InSlice, unrotate, and_assoc]

/-- A Text's row reads the store when one of the glyph rows it needs begins before the end of the last sector. -/
theorem readsAt_text (hbox : e.c0 ≤ e.c1 ∧ e.c0 ≤ 640 * number + 639 ∧ 640 * number ≤ e.c1) {rot : Rotation}
    {mx my gh wt ht : Nat} {ref : ObjRef} {chars : List TextChar} (he : e.part = .text rot mx my ref gh wt ht chars)
    {o : CatEntry} (ho : refFind cat ref = some o) :
    e.readsAt m cat number r = true ↔ ∃ k ch v, chars[k]? = some ch ∧ ch.substituted = false
      ∧ o.reaches (glyphRowOffset (glyphLead m o) ch (v / my)) = true
      ∧ e.NeedsGlyphRow number r rot mx wt ht chars k ch v := by
  have hreads : e.readsAt m cat number r = textReads o (glyphLead m o) rot mx my (unrotate rot wt ht 0 (r - e.y)).1
      (e.firstCrossed number rot wt ht r) chars := by
    simp [TableEntry.readsAt, he, ho]
  rw [hreads]
  by_cases hrot : rot = .r0 ∨ rot = .r180
  · simp only [textReads_upright hrot, needsGlyphRow_upright hrot, firstCrossed_upright hrot]
    constructor
    · rintro ⟨k, ch, hk, hsub, hreach⟩
      exact ⟨k, ch, _, hk, hsub, hreach, rfl⟩
    · rintro ⟨k, ch, _, hk, hsub, hreach, rfl⟩
      exact ⟨k, ch, hk, hsub, hreach⟩
  · replace hrot : rot = .r90 ∨ rot = .r270 := by cases rot <;> simp at hrot ⊢
    obtain ⟨⟨c, hc, hfirst⟩, hleast⟩ := firstCrossed_least hbox hrot wt ht (r := r)
    simp only [textReads_turned hrot, needsGlyphRow_turned hrot]
    constructor
    · rintro ⟨k, ch, hk, hsub, hreach, hover⟩
      exact ⟨k, ch, _, hk, hsub, hreach, ⟨c, hc, hfirst⟩, hover⟩
    · rintro ⟨k, ch, _, hk, hsub, hreach, ⟨d, hd, rfl⟩, hover⟩
      exact ⟨k, ch, hk, hsub, reaches_glyphRow_of_le (Nat.div_le_div_right (hleast d hd)) hreach, hover⟩

theorem readsAt_graphic {ref : ObjRef} {w h : Nat} (he : e.part = .graphic ref w h) {o : CatEntry}
    (ho : refFind cat ref = some o) :
    e.readsAt m cat number r = true ↔ o.reaches (graphicRowOffset w (r - e.y)) = true := by
  simp [TableEntry.readsAt, he, ho]

/-- An entry that reads the store is a Graphic or a Text, and its reference finds an object (R73). -/
theorem readsAt_object (h : e.readsAt m cat number r = true) : ∃ ref o, refFind cat ref = some o
    ∧ ((∃ w ht, e.part = .graphic ref w ht)
      ∨ ∃ rot mx my gh wt ht chars, e.part = .text rot mx my ref gh wt ht chars) := by
  unfold TableEntry.readsAt at h
  split at h
  · rename_i ref w ht he
    obtain ⟨o, ho, -⟩ := Option.any_eq_true _ _ |>.1 h
    exact ⟨ref, o, ho, .inl ⟨w, ht, he⟩⟩
  · rename_i rot mx my ref gh wt ht chars he
    obtain ⟨o, ho, -⟩ := Option.any_eq_true _ _ |>.1 h
    exact ⟨ref, o, ho, .inr ⟨rot, mx, my, gh, wt, ht, chars, he⟩⟩
  · cases h
  · cases h

/-- The entry's row reads the store for the graphic row or for a glyph row it needs (R71 to R73, R178). -/
theorem readsAt_iff (hbox : e.c0 ≤ e.c1 ∧ e.c0 ≤ 640 * number + 639 ∧ 640 * number ≤ e.c1) :
    e.readsAt m cat number r = true ↔ ∃ ref o, refFind cat ref = some o
      ∧ ((∃ w h, e.part = .graphic ref w h ∧ 64 + graphicRowOffset w (r - e.y) < 16384 * o.count)
        ∨ ∃ rot mx my gh wt ht chars, e.part = .text rot mx my ref gh wt ht chars
          ∧ ∃ (k : Nat) (ch : TextChar) (v : Nat), chars[k]? = some ch ∧ ch.substituted = false
            ∧ 64 + glyphRowOffset (glyphLead m o) ch (v / my) < 16384 * o.count
            ∧ e.NeedsGlyphRow number r rot mx wt ht chars k ch v) := by
  simp only [← CatEntry.reaches_iff]
  constructor
  · intro h
    obtain ⟨ref, o, ho, ⟨w, ht, he⟩ | ⟨rot, mx, my, gh, wt, ht, chars, he⟩⟩ := readsAt_object h
    · exact ⟨ref, o, ho, .inl ⟨w, ht, he, (readsAt_graphic he ho).1 h⟩⟩
    · exact ⟨ref, o, ho, .inr ⟨rot, mx, my, gh, wt, ht, chars, he, (readsAt_text hbox he ho).1 h⟩⟩
  · rintro ⟨ref, o, ho, ⟨w, ht, he, hreach⟩ | ⟨rot, mx, my, gh, wt, ht, chars, he, hglyph⟩⟩
    · exact (readsAt_graphic he ho).2 hreach
    · exact (readsAt_text hbox he ho).2 hglyph

end Reads

/-! #### The row at the position (R60 to R62, R66) -/

theorem Context.drawn_iff {c : Context} :
    c.drawn = true ↔ c.kind = .job ∧ c.h ≠ none ∧ c.voided = none ∧ c.cancelled = false := by
  simp [Context.drawn, Context.marked, Option.isSome_iff_ne_none, and_assoc]

theorem Context.isRunningLabel_iff {c : Context} :
    c.isRunningLabel = true ↔ c.state = .running ∨ c.state = .ending := by
  simp [Context.isRunningLabel]

/-- The label's row at `p` has been taken (R62). -/
def State.Passed (s : State) (p : Position) : Prop :=
  ((s.ctx p.ctx).state = .running ∨ (s.ctx p.ctx).state = .ending) ∧ p.row < (s.ctx p.ctx).taken

/-- The lists at the beginning of the row at `p`, before they are updated for it (R67). -/
def State.listsAt (s : State) (p : Position) : List TableEntry × List ActiveEntry :=
  if p.row = 0 ∧ (s.ctx p.ctx).drawn = true then (pendingList (s.ctx p.ctx).table, [])
  else (s.raster.pending, s.raster.active)

/-- The rasterizer with the lists of the row at `p`. -/
def State.withListsAt (s : State) (p : Position) : State :=
  s.setRaster { s.raster with pending := (s.listsAt p).1, active := (s.listsAt p).2 }

section Position
variable {s : State} {p : Position}

theorem passRows_of_passed (hp : s.raster.position = some p) (h : s.Passed p) :
    passRows s = movePosition s p.ctx (s.ctx p.ctx).taken := by
  obtain ⟨hlabel, hrow⟩ := h
  simp [passRows, hp, Context.isRunningLabel_iff.2 hlabel, hrow]

theorem passRows_of_not_passed (hp : s.raster.position = some p) (h : ¬s.Passed p) : passRows s = s := by
  have hnot : ¬((s.ctx p.ctx).isRunningLabel && decide (p.row < (s.ctx p.ctx).taken)) = true := fun hpass => h <| by
    simpa [State.Passed, Context.isRunningLabel_iff] using hpass
  simp only [passRows, hp, if_neg hnot]

theorem passRows_of_none (hp : s.raster.position = none) : passRows s = s := by simp [passRows, hp]

theorem buildLists_eq (hp : s.raster.position = some p) : buildLists s = s.withListsAt p := by
  unfold buildLists
  split
  · rename_i q hq
    obtain rfl : q = p := Option.some.inj (hq.symm.trans hp)
    unfold State.withListsAt State.listsAt
    split <;> rfl
  · rename_i hnone
    cases hnone.symm.trans hp

theorem takePosition_of_some (hp : s.raster.position = some p) : takePosition s = s := by simp [takePosition, hp]

theorem takePosition_of_no_next (hp : s.raster.position = none) (hn : s.nextCtx = none) : takePosition s = s := by
  simp [takePosition, hp, hn]

theorem advanceRaster_of_idle (hr : s.raster.rendering = none) :
    advanceRaster s = tryRender (buildLists (passRows (takePosition s))) := by
  simp [advanceRaster, hr]

/-- With no position to take, the idle rasterizer does nothing. -/
theorem advanceRaster_of_none (hr : s.raster.rendering = none) (hp : s.raster.position = none)
    (h : takePosition s = s) : advanceRaster s = s := by
  rw [advanceRaster_of_idle hr, h, passRows_of_none hp]
  simp [buildLists, tryRender, hp]

/-- The idle rasterizer at a row that is not passed. -/
theorem advanceRaster_at (hr : s.raster.rendering = none) (hp : s.raster.position = some p) (h : ¬s.Passed p) :
    advanceRaster s = if s.mayBeginRender p then beginRender (s.withListsAt p) p else s.withListsAt p := by
  rw [advanceRaster_of_idle hr, takePosition_of_some hp, passRows_of_not_passed hp h, buildLists_eq hp, tryRender,
    State.withListsAt, State.setRaster_raster]
  simp only [hp, State.mayBeginRender, State.loadingCtx, State.setRaster_ring, State.setRaster_ctx,
    State.setRaster_loader]

/-- A row drawn from elements begins with its lists updated for it, and with the reads that they call for. -/
theorem beginRender_of_drawn (hp : s.raster.position = some p) (h : (s.ctx p.ctx).drawn = true) :
    let g := updateLists p.row (s.listsAt p).1 (s.listsAt p).2
    let reads := readsStore s.store.memory s.store.catalog s.number g.2 p.row
    beginRender (s.withListsAt p) p = { s with
      raster := {
        rendering := some ⟨p.ctx, (s.ctx p.ctx).seq, p.row, true, reads, false⟩
        position := some p
        pending := g.1
        active := g.2 }
      ring := { s.ring with lead := s.ring.lead ++ [renderingSlot (s.ctx p.ctx).seq p.row] } } := by
  intro g reads
  have h' : ((s.withListsAt p).ctx p.ctx).drawn = true := h
  rw [beginRender, if_pos h', ← hp]
  rfl

theorem beginRender_of_blank (hp : s.raster.position = some p) (h : ¬(s.ctx p.ctx).drawn = true) :
    beginRender (s.withListsAt p) p = { s with
      raster := {
        rendering := some ⟨p.ctx, (s.ctx p.ctx).seq, p.row, false, false, false⟩
        position := some p
        pending := []
        active := [] }
      ring := { s.ring with lead := s.ring.lead ++ [renderingSlot (s.ctx p.ctx).seq p.row] } } := by
  have h' : ¬((s.withListsAt p).ctx p.ctx).drawn = true := h
  rw [beginRender, if_neg h', ← hp]
  rfl

/-- A label that is running has no next context in its own record, so that passing its last row leaves nothing to take
but the other one. -/
theorem takePosition_leaveLabel (h : (s.ctx p.ctx).isRunningLabel = true) :
    takePosition (leaveLabel s p.ctx) = leaveLabel s p.ctx := by
  have hself : (s.ctx p.ctx).isNext = false := Bool.eq_false_iff.2 fun hn => by
    simp [Context.isRunningLabel_of_isNext hn] at h
  cases ho : (s.ctx p.ctx.other).isNext with
  | true => exact takePosition_of_some (p := ⟨p.ctx.other, 0⟩) (by simp [leaveLabel, setPosition, ho])
  | false =>
    refine takePosition_of_no_next (by simp [leaveLabel, setPosition, ho]) (State.findCtx_eq_none.2 fun j => ?_)
    rw [leaveLabel_ctx]
    rcases CtxId.eq_or_eq_other p.ctx j with rfl | rfl
    · exact hself
    · exact ho

/-- A row that the label has taken is passed: the rasterizer goes on from the position it moves to (R62). -/
theorem advanceRaster_of_passed (hr : s.raster.rendering = none) (hp : s.raster.position = some p) (h : s.Passed p) :
    advanceRaster s = advanceRaster (movePosition s p.ctx (s.ctx p.ctx).taken) := by
  have hlabel := Context.isRunningLabel_iff.2 h.1
  have hmoved : takePosition (movePosition s p.ctx (s.ctx p.ctx).taken) = movePosition s p.ctx (s.ctx p.ctx).taken
      ∧ passRows (movePosition s p.ctx (s.ctx p.ctx).taken) = movePosition s p.ctx (s.ctx p.ctx).taken := by
    unfold movePosition
    split
    · refine ⟨takePosition_of_some rfl, passRows_of_not_passed rfl ?_⟩
      rintro ⟨-, hrow⟩
      simp at hrow
    · refine ⟨takePosition_leaveLabel hlabel, ?_⟩
      cases ho : (s.ctx p.ctx.other).isNext with
      | true =>
        refine passRows_of_not_passed (p := ⟨p.ctx.other, 0⟩) (by simp [leaveLabel, setPosition, ho]) ?_
        rintro ⟨hrun, -⟩
        have hnot := Context.isRunningLabel_of_isNext ho
        rw [leaveLabel_ctx] at hrun
        rw [Context.isRunningLabel_iff.2 hrun] at hnot
        cases hnot
      | false => exact passRows_of_none (by simp [leaveLabel, setPosition, ho])
  obtain ⟨htake, hpass⟩ := hmoved
  rw [advanceRaster_of_idle hr, takePosition_of_some hp, passRows_of_passed hp h,
    advanceRaster_of_idle (by simp [hr]), htake, hpass]

end Position

/-! #### The position at a TOF (R65) -/

theorem moveToStarted_of_on {s : State} {i : CtxId} {row : Nat} (h : s.raster.position = some ⟨i, row⟩) :
    moveToStarted s i = s := by
  simp [moveToStarted, h]

theorem moveToStarted_of_off {s : State} {i : CtxId} (h : ∀ row, s.raster.position ≠ some ⟨i, row⟩) :
    moveToStarted s i = setPosition s (if (s.ctx i).rendered ≤ (s.ctx i).lastToRender then some ⟨i, (s.ctx i).rendered⟩
      else if (s.ctx i.other).isNext then some ⟨i.other, 0⟩ else none) := by
  have hoff : (s.raster.position.map fun p => p.ctx) ≠ some i := fun hon => by
    obtain ⟨⟨j, row⟩, hp, rfl⟩ := Option.map_eq_some_iff.1 hon
    exact h row hp
  rw [moveToStarted, if_neg hoff, movePosition, setPosition_ctx]
  split
  · rfl
  · rw [leaveLabel, setPosition_ctx]
    rfl

/-- Settles O31: the idle rasterizer by its position, the lists by the order they are kept in, and the position at a
TOF. -/
theorem rasterBegins : Obligations.RasterBegins := by
  refine ⟨?_, pendingList_stable, ?_, ?_⟩
  case refine_2 => exact fun r pending active hpend => updateLists_spec r hpend active
  case refine_3 =>
    intro s i c
    exact ⟨fun ⟨row, hon⟩ => moveToStarted_of_on hon, fun hoff => moveToStarted_of_off hoff⟩
  intro s u moved
  refine ⟨fun hr => ?_, fun hr hp => ⟨fun hn => ?_, fun i hn => ?_⟩, fun p hr hp => ?_⟩
  · obtain ⟨r, hr⟩ := Option.ne_none_iff_exists'.1 hr
    exact advanceRaster_of_rendering hr
  · exact advanceRaster_of_none hr hp (takePosition_of_no_next hp hn)
  · have htake : takePosition s = if (s.ctx i).rendered = 0 then moved (some ⟨i, 0⟩) else s := by
      simp only [takePosition, hp, hn]
      rfl
    split
    · rename_i h0
      rw [if_pos h0] at htake
      show advanceRaster s = _
      have hidle : (moved (some ⟨i, 0⟩)).raster.rendering = none := hr
      rw [advanceRaster_of_idle hr, htake, advanceRaster_of_idle hidle, takePosition_of_some rfl]
    · rename_i h0
      rw [if_neg h0] at htake
      exact advanceRaster_of_none hr hp htake
  · intro c passed mayBegin drawn lists begun
    have hdrawn : (s.ctx p.ctx).drawn = true ↔ drawn := Context.drawn_iff
    have hbegin : s.mayBeginRender p = true ↔ mayBegin := State.mayBeginRender_iff
    have hlists : s.listsAt p = lists := if_congr (and_congr_right' hdrawn) rfl rfl
    refine ⟨fun hpass => ?_, fun hpass hmay => ?_, fun hpass hmay hdraw => ?_, fun hpass hmay hdraw => ?_⟩
    · show advanceRaster s = _
      rw [advanceRaster_of_passed hr hp hpass, movePosition]
      split
      · rename_i hlast
        exact (if_pos hlast).symm
      · rename_i hlast
        exact (if_neg hlast).symm
    · show advanceRaster s = _
      rw [advanceRaster_at hr hp hpass, if_neg (mt hbegin.1 hmay), ← hlists]
      rfl
    · intro g
      refine ⟨readsStore s.store.memory s.store.catalog s.number g.2 p.row, ?_, fun hbox => ?_⟩
      · show advanceRaster s = _
        rw [advanceRaster_at hr hp hpass, if_pos (hbegin.2 hmay), beginRender_of_drawn hp (hdrawn.2 hdraw), hlists]
        rfl
      · rw [readsStore, List.any_eq_true]
        exact exists_congr fun a => and_congr_right fun ha => readsAt_iff (hbox a ha)
    · show advanceRaster s = _
      rw [advanceRaster_at hr hp hpass, if_pos (hbegin.2 hmay), beginRender_of_blank hp (mt hdrawn.1 hdraw)]
      rfl

end Sys2Proof.Machine

/-! ### The bars of a bar symbol (O27) -/

namespace Sys2Proof.Machine

/-- The effective reduction is less than a module, so that it never takes a whole bar (R78). -/
theorem effectiveReduction_lt {m : Nat} (r : Nat) (hm : 1 ≤ m) : effectiveReduction m r < m := by
  unfold effectiveReduction
  omega

/-- Every second run forms a bar, the first one included (R79). -/
theorem barSpans_length (m re o : Nat) (runs : List Nat) :
    (barSpans m re o runs).length = (runs.length + 1) / 2 := by
  fun_induction barSpans m re o runs with
  | case1 o bar space rest ih =>
    simp only [List.length_cons, ih]
    omega
  | case2 => simp
  | case3 => simp

/-- Equations (5-3) and (5-4), with the bars counted from 0 and the list of runs begun at offset `o`. -/
theorem barSpans_getElem? (m re o : Nat) (runs : List Nat) (k : Nat) :
    (barSpans m re o runs)[k]? =
      (runs[2 * k]?).map fun x => (o + m * (runs.take (2 * k)).sum, m * x - re) := by
  fun_induction barSpans m re o runs generalizing k with
  | case1 o bar space rest ih =>
    cases k with
    | zero => simp
    | succ k =>
      have hoff : ∀ rest, o + m * bar + m * space + m * rest = o + m * (bar + (space + rest)) := fun rest => by ring
      simp [Nat.mul_add, ih, hoff]
  | case2 => cases k <;> simp [Nat.mul_add]
  | case3 => simp

/-- A bar is the span of the run that forms it, after all the runs before that one (R79). -/
theorem mem_barSpans {m re o : Nat} {runs : List Nat} {b : Nat × Nat} (hb : b ∈ barSpans m re o runs) :
    ∃ k x, runs[2 * k]? = some x ∧ b = (o + m * (runs.take (2 * k)).sum, m * x - re) := by
  obtain ⟨k, hk⟩ := List.mem_iff_getElem?.1 hb
  rw [barSpans_getElem?] at hk
  obtain ⟨x, hx, hbar⟩ := Option.map_eq_some_iff.1 hk
  exact ⟨k, x, hx, hbar.symm⟩

/-- A run and the runs before it are no longer than the whole list. -/
theorem sum_take_add_le {runs : List Nat} {i x : Nat} (hx : runs[i]? = some x) :
    (runs.take i).sum + x ≤ runs.sum := by
  obtain ⟨hi, rfl⟩ := List.getElem?_eq_some_iff.1 hx
  calc (runs.take i).sum + runs[i]
      = (runs.take (i + 1)).sum := (List.sum_take_succ runs i hi).symm
    _ ≤ (runs.take (i + 1)).sum + (runs.drop (i + 1)).sum := Nat.le_add_right _ _
    _ = runs.sum := List.sum_take_add_sum_drop runs (i + 1)

section Good
variable {m re : Nat} {runs : List Nat} (hpos : ∀ x ∈ runs, 1 ≤ x)
include hpos

/-- A reduction of less than a module leaves every bar at least 1 dot, within the symbol's extent (R78, R79). -/
theorem barSpans_within {b : Nat × Nat} (hre : re < m) (hb : b ∈ barSpans m re 0 runs) :
    1 ≤ b.2 ∧ b.1 + b.2 ≤ m * runs.sum := by
  obtain ⟨k, x, hx, rfl⟩ := mem_barSpans hb
  have hmodule : m ≤ m * x := Nat.le_mul_of_pos_right m (hpos x (List.mem_of_getElem? hx))
  have hextent : m * (runs.take (2 * k)).sum + m * x ≤ m * runs.sum := by
    rw [← Nat.mul_add]
    exact Nat.mul_le_mul_left m (sum_take_add_le hx)
  constructor
  · show 1 ≤ m * x - re
    omega
  · show 0 + m * (runs.take (2 * k)).sum + (m * x - re) ≤ m * runs.sum
    omega

/-- The space after a bar parts it from every later bar (R79). -/
theorem barSpans_apart (hm : 1 ≤ m) (o : Nat) :
    (barSpans m re o runs).Pairwise fun b c => b.1 + b.2 < c.1 := by
  fun_induction barSpans m re o runs with
  | case1 o bar space rest ih =>
    have hspace : 1 ≤ m * space := Nat.mul_pos hm (hpos space (by simp))
    refine List.pairwise_cons.2 ⟨fun c hc => ?_, ih fun x hx => hpos x (by simp [hx])⟩
    have hfrom : o + m * bar + m * space ≤ c.1 := (barSpans_pairwise m re _ rest).2 c hc
    show o + (m * bar - re) < c.1
    omega
  | case2 => exact List.pairwise_singleton _ _
  | case3 => exact List.Pairwise.nil

end Good

/-- Settles O27: each bar by the run that forms it, the bounds by the reduction of less than a module, and the gaps by
the spaces between the bars. -/
theorem barGeometry : Obligations.BarGeometry := by
  intro m r runs hm _ hpos spans
  refine ⟨rfl, rfl, barSpans_length m _ 0 runs, fun k x hx => ?_, fun b hb => ?_, barSpans_apart hpos hm 0⟩
  · rw [barSpans_getElem?, hx, Nat.zero_add]
    rfl
  · exact barSpans_within hpos (effectiveReduction_lt r hm) hb

end Sys2Proof.Machine

/-! ### The widths of a row's pulses (O17, O18) -/

namespace Sys2Proof.Machine

/-! #### Equations (6-1) and (6-2) (R95, R96) -/

theorem darknessFactor_range (l : Nat) : 192 ≤ darknessFactor l ∧ darknessFactor l ≤ 312 := by
  unfold darknessFactor
  omega

/-- The temperature factor as an integer: the clamp to −10..80 keeps Equation (6-2) above 0. -/
theorem temperatureFactor_eq (t : Int) : (temperatureFactor t : Int) = 256 - 2 * (max (-10) (min 80 t) - 25) := by
  unfold temperatureFactor clampInt
  omega

theorem temperatureFactor_range (t : Int) : 146 ≤ temperatureFactor t ∧ temperatureFactor t ≤ 326 := by
  have ht := temperatureFactor_eq t
  omega

/-- Settles O17: the darkness factor by its definition, the temperature factor by its equation over the integers. -/
theorem widthFactors : Obligations.WidthFactors := by
  have clamped : ∀ t u : Int, max (-10) (min 80 t) = max (-10) (min 80 u) →
      temperatureFactor t = temperatureFactor u := fun t u h => by
    have ht := temperatureFactor_eq t
    have hu := temperatureFactor_eq u
    omega
  refine ⟨fun l => ⟨rfl, darknessFactor_range l⟩, rfl, fun l hl => ?_, fun l hl => ?_, temperatureFactor_range,
    fun t hlow hhigh => ?_, rfl, fun t ht => clamped t _ ?_, fun t ht => clamped t _ ?_⟩
  · unfold darknessFactor
    omega
  · unfold darknessFactor
    omega
  · rw [temperatureFactor_eq, min_eq_right hhigh, max_eq_right hlow]
  · omega
  · omega

/-! #### Equations (6-3) and (6-4) (R97, R98) -/

/-- The product of Equation (6-3) over the values that SETUP allows (R97). -/
theorem widthProduct_range {bm : Nat} (hlow : 100 ≤ bm) (hhigh : bm ≤ 1500) (l : Nat) (t : Int) :
    2803200 ≤ bm * darknessFactor l * temperatureFactor t
    ∧ bm * darknessFactor l * temperatureFactor t ≤ 152568000 := by
  obtain ⟨hd, hd'⟩ := darknessFactor_range l
  obtain ⟨ht, ht'⟩ := temperatureFactor_range t
  constructor
  · calc 2803200 = 100 * 192 * 146 := rfl
      _ ≤ bm * darknessFactor l * temperatureFactor t := Nat.mul_le_mul (Nat.mul_le_mul hlow hd) ht
  · calc bm * darknessFactor l * temperatureFactor t ≤ 1500 * 312 * 326 := Nat.mul_le_mul (Nat.mul_le_mul hhigh hd') ht'
      _ = 152568000 := rfl

/-- A boost is a fraction of 63 parts in 64 at most. -/
theorem boostWidth_le {w0 k : Nat} (hk : k ≤ 63) : boostWidth w0 k ≤ w0 * 63 / 64 :=
  Nat.div_le_div_right (Nat.mul_le_mul_left w0 hk)

theorem mem_presentBoosts {u : Setup} {w0 w : Nat} {which : Boost} : (which, w) ∈ presentBoosts u w0
    ↔ 1 ≤ w ∧ w = boostWidth w0 (match which with | .a => u.ka | .b => u.kb | .c => u.kc) := by
  rw [presentBoosts, List.mem_filter, and_comm]
  cases which <;> simp

/-- Settles O18: the width by the range of its product, the boosts by the largest fraction. -/
theorem pulseWidths : Obligations.PulseWidths := by
  have hclamp : ∀ (bm l : Nat) (t : Int), 10 ≤ mainWidth bm l t ∧ mainWidth bm l t ≤ 2000 := fun bm l t => by
    unfold mainWidth clamp
    omega
  refine ⟨fun bm l t => ⟨rfl, hclamp bm l t⟩, fun bm l t hlow hhigh => ?_, rfl, rfl, rfl, fun _ _ => rfl,
    fun w0 k hw hk => ?_, fun w0 k hw hk => ?_, fun u w0 which w => mem_presentBoosts⟩
  · obtain ⟨hleast, hmost⟩ := widthProduct_range hlow hhigh l t
    refine ⟨?_, hmost⟩
    unfold mainWidth clamp
    omega
  · have hle := boostWidth_le (w0 := w0) hk
    omega
  · have hle := boostWidth_le (w0 := w0) hk
    omega

end Sys2Proof.Machine

/-! ### The classes of a row's dots (O19) -/

namespace Sys2Proof.Machine

/-- Of the neighbours of a column of the slice, the one beyond its edge does not fire (R92). -/
theorem neighbourFires_eq (image : Dots) (c : Nat) : neighbourFires image c
    = (decide (c ≠ 0) && image.getLsbD (c - 1) || decide (c ≠ 639) && image.getLsbD (c + 1)) := by
  have hleft : decide (1 ≤ c) = decide (c ≠ 0) := decide_eq_decide.2 Nat.one_le_iff_ne_zero
  have hright : image.getLsbD (c + 1) = (decide (c ≠ 639) && image.getLsbD (c + 1)) := by
    by_cases h : c = 639
    · simp [h]
    · simp [h]
  rw [neighbourFires, hleft, ← hright]

/-- The four classes, by the two history records and the neighbours (R92). -/
theorem dotClass_eq_iff (image h1 h2 : Dots) (c : Nat) :
    (dotClass image h1 h2 c = 0 ↔ h1.getLsbD c = true)
    ∧ (dotClass image h1 h2 c = 1 ↔ h1.getLsbD c = false ∧ h2.getLsbD c = true)
    ∧ (dotClass image h1 h2 c = 2 ↔ h1.getLsbD c = false ∧ h2.getLsbD c = false ∧ neighbourFires image c = true)
    ∧ (dotClass image h1 h2 c = 3 ↔ h1.getLsbD c = false ∧ h2.getLsbD c = false ∧ neighbourFires image c = false) := by
  unfold dotClass
  by_cases hnewest : h1.getLsbD c = true
  · simp [hnewest]
  by_cases hnext : h2.getLsbD c = true
  · simp [hnewest, hnext]
  by_cases hbeside : neighbourFires image c = true
  · simp [hnewest, hnext, hbeside]
  · simp [hnewest, hnext, hbeside]

theorem dotClass_lt (image h1 h2 : Dots) (c : Nat) : dotClass image h1 h2 c < 4 := by
  unfold dotClass
  (repeat' split) <;> decide

/-- Counting a list by the values below 4 of a function counts each of its members once. -/
theorem sum_countP_lt_four {f : Nat → Nat} (hf : ∀ c, f c < 4) (cs : List Nat) :
    ((List.range 4).map fun k => cs.countP fun c => decide (f c = k)).sum = cs.length := by
  induction cs with
  | nil => rfl
  | cons c cs ih =>
    have hone : ((List.range 4).map fun k => if f c = k then 1 else 0).sum = 1 := by
      have hc := hf c
      generalize f c = m at hc
      interval_cases m <;> rfl
    simp only [List.countP_cons, decide_eq_true_eq, List.sum_map_add, ih, hone, List.length_cons]

/-- Settles O19: the class by the branches of its definition, and the counts by each dot having one class below 4. -/
theorem dotClasses : Obligations.DotClasses := by
  refine ⟨fun image h1 h2 c _ => ?_, fun image h1 h2 u w0 => ⟨rfl, ?_, fun k hk => ?_⟩⟩
  · dsimp only
    rw [← neighbourFires_eq]
    exact dotClass_eq_iff image h1 h2 c
  · exact sum_countP_lt_four (dotClass_lt image h1 h2) (Dots.columns image)
  · have hcount : (energySet image h1 h2 u w0).classCounts.getD k 0 = classCount image h1 h2 k := by
      simp [energySet, hk]
    rw [hcount, classCount, Dots.columns, List.countP_eq_length_filter, List.filter_filter]
    simp only [Bool.and_comm]

end Sys2Proof.Machine

/-! ### The phases of a row and their data (O23) -/

namespace Sys2Proof.Machine

/-! #### Dot maps and lists of columns -/

theorem Dots.mem_columns {d : Dots} {col : Nat} : col ∈ Dots.columns d ↔ d.getLsbD col = true := by
  simp only [Dots.columns, List.mem_filter, List.mem_range, and_iff_right_iff_imp]
  exact BitVec.lt_of_getLsbD

theorem Dots.getLsbD_ofColumns {cs : List Nat} {col : Nat} :
    (Dots.ofColumns cs).getLsbD col = true ↔ col < 640 ∧ col ∈ cs := by
  by_cases hcol : col < 640
  · rw [Dots.ofColumns, Dots.getLsbD_ofPred _ hcol]
    simp [hcol]
  · simp [hcol, BitVec.getLsbD_of_ge _ col (Nat.not_lt.1 hcol)]

/-- The columns of a row lie within the slice. -/
theorem Dots.getLsbD_ofColumns_of_subset {cs : List Nat} {image : Dots} (h : cs ⊆ Dots.columns image) {col : Nat} :
    (Dots.ofColumns cs).getLsbD col = true ↔ col ∈ cs := by
  rw [Dots.getLsbD_ofColumns, and_iff_right_iff_imp]
  exact fun hcol => BitVec.lt_of_getLsbD (Dots.mem_columns.1 (h hcol))

theorem Dots.count_ofColumns_le (cs : List Nat) : Dots.count (Dots.ofColumns cs) ≤ cs.length := by
  have hnodup : (Dots.columns (Dots.ofColumns cs)).Nodup := List.nodup_range.filter _
  have hsubset : Dots.columns (Dots.ofColumns cs) ⊆ cs := fun col hcol =>
    (Dots.getLsbD_ofColumns.1 (Dots.mem_columns.1 hcol)).2
  exact (hnodup.subperm hsubset).length_le

/-! #### The history of a row (R90) -/

section History
variable {r : Ring}

theorem Ring.firstHistory_of_append {pre : List Slot} {y : Slot} (h : r.history = pre ++ [y]) :
    r.firstHistory = y.fired := by simp [Ring.firstHistory, h]

theorem Ring.secondHistory_of_append {pre : List Slot} {z y : Slot} (h : r.history = pre ++ [z, y]) :
    r.secondHistory = z.fired := by simp [Ring.secondHistory, h]

theorem Ring.firstHistory_of_nil (h : r.history = []) : r.firstHistory = 0 := by simp [Ring.firstHistory, h]

theorem Ring.secondHistory_of_short (h : r.history.length ≤ 1) : r.secondHistory = 0 := by
  unfold Ring.secondHistory
  split
  · rename_i hrev
    have hlen := congrArg List.length hrev
    simp only [List.length_reverse, List.length_cons] at hlen
    omega
  · rfl

theorem Ring.firstHistory_eq (r : Ring) : r.firstHistory = r.history.getLast?.elim 0 Slot.fired := by
  rcases List.eq_nil_or_concat r.history with h | ⟨pre, y, h⟩
  · rw [Ring.firstHistory_of_nil h, h]
    rfl
  · rw [List.concat_eq_append] at h
    rw [Ring.firstHistory_of_append h, h, List.getLast?_concat]
    rfl

theorem Ring.secondHistory_eq (r : Ring) : r.secondHistory = r.history.dropLast.getLast?.elim 0 Slot.fired := by
  rcases List.eq_nil_or_concat r.history with h | ⟨pre, y, h⟩
  · rw [Ring.secondHistory_of_short (by simp [h]), h]
    rfl
  · rw [List.concat_eq_append] at h
    rw [h, List.dropLast_concat]
    rcases List.eq_nil_or_concat pre with rfl | ⟨older, z, rfl⟩
    · rw [Ring.secondHistory_of_short (by simp [h])]
      rfl
    · rw [List.concat_eq_append, List.getLast?_concat, Ring.secondHistory_of_append (by simpa using h)]
      rfl

end History

/-! #### One phase (R93, R99, R115) -/

section Phases
variable {classOf : Nat → Nat} {present : List (Boost × Nat)} {cols : List Nat}

/-- The dots of a phase that call for a boost (R93). -/
def callingDots (classOf : Nat → Nat) (cols : List Nat) (which : Boost) : List Nat :=
  cols.filter fun c => decide (which.minClass ≤ classOf c)

theorem mem_callingDots {which : Boost} {col : Nat} :
    col ∈ callingDots classOf cols which ↔ col ∈ cols ∧ which.minClass ≤ classOf col := by
  simp [callingDots]

theorem callingDots_subset {which : Boost} : callingDots classOf cols which ⊆ cols := List.filter_subset_self _

theorem callingDots_ne_nil {which : Boost} :
    callingDots classOf cols which ≠ [] ↔ ∃ col ∈ cols, which.minClass ≤ classOf col := by
  simp [callingDots, List.filter_eq_nil_iff]

/-- A boost with the dots of a phase that call for it. -/
def callingBoost (classOf : Nat → Nat) (cols : List Nat) (b : Boost × Nat) : BoostData :=
  { boost := b.1, width := b.2, data := Dots.ofColumns (callingDots classOf cols b.1) }

theorem phaseBoosts_eq_filterMap : phaseBoosts classOf present cols = present.filterMap fun b =>
    if callingDots classOf cols b.1 = [] then none else some (callingBoost classOf cols b) := rfl

/-- The boosts of a phase are those present that a dot of it calls for (R99, R115). -/
theorem phaseBoosts_eq : phaseBoosts classOf present cols
    = (present.filter fun b => decide (∃ col ∈ cols, b.1.minClass ≤ classOf col)).map (callingBoost classOf cols) := by
  rw [phaseBoosts_eq_filterMap]
  simp only [← callingDots_ne_nil]
  induction present with
  | nil => rfl
  | cons b present ih =>
    rw [List.filterMap_cons, List.filter_cons, ih]
    by_cases h : callingDots classOf cols b.1 = []
    · simp [h]
    · simp [h]

theorem phaseBoosts_data {b : BoostData} (hb : b ∈ phaseBoosts classOf present cols) :
    b.data = Dots.ofColumns (callingDots classOf cols b.boost) := by
  rw [phaseBoosts_eq] at hb
  obtain ⟨q, -, rfl⟩ := List.mem_map.1 hb
  simp only [callingBoost]

theorem phaseBoosts_widths : ((phaseBoosts classOf present cols).map fun b => (b.boost, b.width))
    = present.filter fun b => decide (∃ col ∈ cols, b.1.minClass ≤ classOf col) := by
  rw [phaseBoosts_eq, List.map_map]
  exact List.map_id' _

end Phases

theorem phaseColumns_subset (image : Dots) (a j : Nat) :
    phaseColumns (Dots.columns image) a j ⊆ Dots.columns image := fun _ h =>
  List.mem_of_mem_drop (List.mem_of_mem_take h)

theorem phaseColumns_length_le (columns : List Nat) (a j : Nat) : (phaseColumns columns a j).length ≤ a :=
  List.length_take_le a _

/-! #### The phase list of a row (R115, R116) -/

section PhasesFor
variable {s : State} {w0 seq row : Nat} {x : Slot}

theorem phasesFor_length : (s.phasesFor w0 x seq row).length
    = phaseCount x.demand (s.allowanceFor seq row x.demand) := by
  simp [State.phasesFor, phaseList]

/-- Phase `j` is that of its columns of the ascending list, with the row's classes and the boosts present. -/
theorem phasesFor_getElem? {j : Nat} {ph : Phase} (h : (s.phasesFor w0 x seq row)[j]? = some ph) :
    ph = phaseOf (dotClass x.image s.ring.firstHistory s.ring.secondHistory) (presentBoosts s.setup w0)
      (phaseColumns (Dots.columns x.image) (s.allowanceFor seq row x.demand) j) := by
  obtain ⟨hj, rfl⟩ := List.getElem?_eq_some_iff.1 h
  simp [State.phasesFor, phaseList, State.energyFor, energySet]

theorem phasesFor_phasesOf : s.PhasesOf w0 x seq row (s.phasesFor w0 x seq row) := by
  refine ⟨phasesFor_length, fun j ph hph => ?_⟩
  have hsubset := phaseColumns_subset x.image (s.allowanceFor seq row x.demand) j
  have hcalls : ∀ which : Boost, (match which with | .a => 1 | .b => 2 | .c => 3) = which.minClass := by
    intro which
    cases which <;> rfl
  rw [phasesFor_getElem? hph, phaseOf, Ring.firstHistory_eq, Ring.secondHistory_eq]
  simp only [← State.allowanceFor.eq_def]
  generalize s.ring.history.getLast? = newest, s.ring.history.dropLast.getLast? = next
  refine ⟨fun col => Dots.getLsbD_ofColumns_of_subset hsubset, ?_, fun b hb col => ?_⟩
  · rw [phaseBoosts_widths, presentBoosts, List.filter_filter]
    refine List.filter_congr fun b _ => ?_
    rw [← Bool.decide_and, decide_eq_decide, and_comm, ← hcalls]
    cases newest <;> cases next <;> exact Iff.rfl
  · rw [phaseBoosts_data hb, Dots.getLsbD_ofColumns_of_subset (List.Subset.trans callingDots_subset hsubset),
      mem_callingDots, ← hcalls]
    cases newest <;> cases next <;> exact Iff.rfl

/-- The sets of a phase hold dots of the phase, of which there are at most the row's allowance (R115). -/
theorem phasesFor_within {ph : Phase} (h : ph ∈ s.phasesFor w0 x seq row) :
    Dots.count ph.main ≤ s.allowanceFor seq row x.demand
    ∧ ∀ b ∈ ph.boosts, Dots.count b.data ≤ s.allowanceFor seq row x.demand
        ∧ ∀ col, b.data.getLsbD col = true → ph.main.getLsbD col = true := by
  obtain ⟨j, hj⟩ := List.mem_iff_getElem?.1 h
  rw [phasesFor_getElem? hj, phaseOf]
  dsimp only
  have hlength := phaseColumns_length_le (Dots.columns x.image) (s.allowanceFor seq row x.demand) j
  refine ⟨(Dots.count_ofColumns_le _).trans hlength, fun b hb => ?_⟩
  rw [phaseBoosts_data hb]
  refine ⟨(Dots.count_ofColumns_le _).trans ((List.length_filter_le _ _).trans hlength), fun col hcol => ?_⟩
  obtain ⟨hslice, hcalling⟩ := Dots.getLsbD_ofColumns.1 hcol
  exact Dots.getLsbD_ofColumns.2 ⟨hslice, callingDots_subset hcalling⟩

end PhasesFor

/-- A trim takes boosts away and nothing else (R124). -/
theorem mem_trimTo {level : Nat} {ps : List Phase} {ph : Phase} (h : ph ∈ trimTo level ps) :
    ∃ full ∈ ps, ph.main = full.main ∧ ph.boosts ⊆ full.boosts := by
  obtain ⟨full, hfull, rfl⟩ := List.mem_map.1 h
  exact ⟨full, hfull, rfl, List.filter_subset_self _⟩

/-- Settles O23: each phase by its columns and its calling dots, whose number the allowance bounds before the trim. -/
theorem planWithinAllowance : Obligations.PlanWithinAllowance := by
  refine fun s c x row => ⟨fun w0 => phasesFor_phasesOf, fun pre y => Ring.firstHistory_of_append,
    fun pre z y => Ring.secondHistory_of_append, Ring.firstHistory_of_nil, Ring.secondHistory_of_short,
    fun ph hph => ?_⟩
  obtain ⟨full, hfull, hmain, hboosts⟩ := mem_trimTo hph
  obtain ⟨hcount, hdata⟩ := phasesFor_within hfull
  rw [hmain]
  exact ⟨hcount, fun b hb => hdata b (hboosts hb)⟩

end Sys2Proof.Machine

/-! ### The row that fires (O46) -/

namespace Sys2Proof.Machine

/-! #### A row with dots has a phase (R113, R114) -/

/-- A station with a demand is allowed a dot: its reserve alone grants one (R113). -/
theorem one_le_allowance {p n d : Nat} (hreserve : 1 ≤ reserve p n) (hd : 1 ≤ d) (peers : List Nat) :
    1 ≤ allowance p n d peers := by
  unfold allowance
  split
  · exact hd
  · exact (le_min hd hreserve).trans (Nat.le_add_right _ _)

theorem one_le_reserve {p n : Nat} (hp : 256 ≤ p) (hn : 1 ≤ n) (hn' : n ≤ 4) : 1 ≤ reserve p n :=
  (Nat.one_le_div_iff (by omega)).2 (by omega)

theorem one_le_phaseCount {d a : Nat} (hd : 1 ≤ d) (ha : 1 ≤ a) : 1 ≤ phaseCount d a := by
  rw [phaseCount, if_neg (Nat.ne_of_gt hd), Nat.one_le_div_iff ha]
  omega

theorem one_le_phasesFor_length {s : State} {x : Slot} (hp : 256 ≤ s.setup.p) (hn : 1 ≤ s.setup.n)
    (hn' : s.setup.n ≤ 4) (hd : 1 ≤ x.demand) (w0 seq row : Nat) : 1 ≤ (s.phasesFor w0 x seq row).length := by
  rw [phasesFor_length]
  exact one_le_phaseCount hd (one_le_allowance (one_le_reserve hp hn hn') hd _)

/-! #### The demand miss (R110) -/

theorem PeerTable.find_isNone_iff {v : PeerTable} {seq row : Nat} :
    (v.find seq row).isNone = true ↔ ∀ e ∈ v.entries, ¬(e.seq = seq ∧ e.row = row) := by
  simp [PeerTable.find]

theorem rowMiss_iff {s : State} {seq row : Nat} :
    s.rowMiss seq row = true ↔ ∃ v ∈ s.peers, ∀ e ∈ v.entries, ¬(e.seq = seq ∧ e.row = row) := by
  simp only [State.rowMiss, List.any_eq_true, PeerTable.find_isNone_iff]

/-! #### The begin of a plan (R120, R125) -/

/-- In the load of the first phase its main data is shifted, which no trim has touched. -/
theorem lines_of_first {p : Plan} {level : Nat} {ps : List Phase} (hphases : p.phases = trimTo level ps)
    (hsome : ps ≠ []) (hstep : p.step = FiringStep.first) :
    p.lines = { shifting := (ps.head?).map Phase.main, hlt := false, hsb := false } := by
  obtain ⟨ph, rest, rfl⟩ := List.exists_cons_of_ne_nil hsome
  simp [Plan.lines, Plan.dataOf, hphases, hstep, FiringStep.first, trimTo, Phase.trimTo]

theorem beginFiring_firing (s : State) (x : Slot) (p : Plan) :
    (beginFiring s x p).ring.firing = some { x with state := .firing } := by
  unfold beginFiring drivePlan
  dsimp only
  split <;> simp [reloadHold]

/-- What the phases of a row are made from: SETUP, the history and the peers' demands (R99, R110). -/
theorem phasesFor_congr {s t : State} (hsetup : t.setup = s.setup) (hring : t.ring = s.ring)
    (hpeers : t.peers = s.peers) : t.phasesFor = s.phasesFor := by
  funext w0 x seq row
  simp only [State.phasesFor, State.allowanceFor, State.energyFor, hsetup, hring, hpeers]

/-- A Rendered row with a plan fires (R120). -/
theorem takeRow_fires {s : State} {i : CtxId} {x : Slot} (hopen : ¬((s.ctx i).h = none ∧ 5 ≤ (s.ctx i).taken))
    (hfind : s.ring.findRow (s.ctx i).seq (s.ctx i).taken = some x) (hplans : s.plansNothing (s.ctx i) x = false)
    (hphases : (s.planFor (s.ctx i) x (s.ctx i).taken).phases ≠ []) :
    takeRow s i = beginFiring (s.setCtx i (s.ctx i).takeRow) x (s.planFor (s.ctx i) x (s.ctx i).taken) := by
  have hplan : (s.setCtx i (s.ctx i).takeRow).planFor = s.planFor := by
    have hps := phasesFor_congr (s := s) (t := s.setCtx i (s.ctx i).takeRow) (by simp) (by simp) (by simp)
    funext c x row
    simp [State.planFor, State.widthFor, State.rowMiss, hps]
  have hplans' : (s.setCtx i (s.ctx i).takeRow).plansNothing (s.ctx i) x = false := by
    simpa [State.plansNothing] using hplans
  simp only [takeRow, if_neg hopen, State.setCtx_ring, hfind, fireRow, hplan, hplans', hphases, or_self, if_false,
    Bool.false_eq_true]

theorem pulseBegun_phasesFor (dt : Nat) (s : State) : (pulseBegun dt s).phasesFor = s.phasesFor :=
  phasesFor_congr (by simp) (by simp) (by simp)

/-- A label that has taken a row is Running or Ending (R30). -/
theorem Context.takeRow_not_free {c : Context} (h : c.state = .running) : c.takeRow.state ≠ .free := by
  unfold Context.takeRow
  dsimp only
  split
  · decide
  · simp [h]

/-- Settles O46: the plan that the begun pulse forms is begun, and what follows the row leaves it. -/
theorem rowFires : Obligations.RowFires := by
  intro dt s i x hs hplan hrun c hlast hopen hfind hvoided hcancelled hhot hdemand hp hn hn' w0 ps
  let s0 := pulseBegun dt s
  have hc0 : s0.ctx i = c := pulseBegun_ctx dt s i
  have hstate : c.state = .running := by simpa [Context.isRunning] using State.findCtx_eq_some hrun
  have hps : s0.phasesFor = s.phasesFor := pulseBegun_phasesFor dt s
  have hw0 : s0.widthFor c = w0 := by simp [State.widthFor, s0, w0]
  have hmiss : s0.rowMiss c.seq c.taken = s.rowMiss c.seq c.taken := by simp [State.rowMiss, s0]
  have hlength : 1 ≤ ps.length := one_le_phasesFor_length hp hn hn' hdemand w0 c.seq c.taken
  have hsome : ps ≠ [] := List.ne_nil_of_length_pos hlength
  let p := s0.planFor c x c.taken
  have hphases : p.phases = trimTo p.trim ps := by
    show trimTo p.trim (s0.phasesFor (s0.widthFor c) x c.seq c.taken) = _
    rw [hps, hw0]
  have htake : takeRow s0 i = beginFiring (s0.setCtx i c.takeRow) x p := by
    have hfires := takeRow_fires (s := s0) (i := i) (x := x)
    rw [hc0] at hfires
    refine hfires hopen (by simpa [s0] using hfind) ?_ ?_
    · simp [State.plansNothing, Context.marked, hvoided, hcancelled, s0, hhot, Nat.ne_of_gt hdemand]
    · show p.phases ≠ []
      simpa [hphases, trimTo] using hsome
  let w := beginFiring (s0.setCtx i c.takeRow) x p
  have hwi : w.ctx i = c.takeRow := by simp [w]
  have hbusy : (w.ctx i).state ≠ .free := by
    rw [hwi]
    exact Context.takeRow_not_free hstate
  have hlink : s0.link.OnlyDemand (afterRow w).link := by
    have hafter := afterRow_onlyDemand w
    rwa [show w.link = s0.link by simp [w]] at hafter
  refine ⟨afterRow w, p, ?_, by simp [w, beginFiring_plan], ?_, phasesFor_phasesOf, hlength, ?_, ?_, ?_, ?_, ?_, ?_, ?_,
    ?_, ?_⟩
  · rw [exec_rowPulse_of_unplanned hs hplan hrun hlast]
    exact congrArg (Host.Outcome.next ∘ afterRow) htake
  · have htimer : (afterRow w).timer = s0.timer := by simp [w]
    rw [htimer, ← hphases, ← hmiss]
    show State.planFor s0 c x c.taken = _
    simp only [p, State.planFor, hps, hw0]
    rfl
  · rw [← rowMiss_iff, ← hmiss]
    rfl
  · have hhead : (afterRow w).head = p.lines := by simp [w, beginFiring_head]
    rw [hhead, lines_of_first hphases hsome rfl]
  · have hfiring : (afterRow w).ring.firing = w.ring.firing := by simp [afterRow]
    rw [hfiring, beginFiring_firing]
  · simp [w, beginFiring_history, s0]
  · simp [w, beginFiring_thermal, s0]
  · rw [afterRow_ctx_of_not_free hbusy, hwi]
    rfl
  · rw [hlink.voidQueue, pulseBegun_link dt s]
  · simp [w, s0]
  · apply State.ext
    case link => rw [hlink, pulseBegun_link dt s]
    case lines => exact lines_eq_of_rdyReleased (by simp [w, s0])
    case thermal => simp [w, beginFiring_thermal, s0]
    all_goals simp [w, s0]

end Sys2Proof.Machine

/-! ### The strobe budget of a head (O20, O21) -/

namespace Sys2Proof.Machine

/-! #### Reserve, pool and excess (R112, R113) -/

section Budget
variable {p n d : Nat}

/-- The reserves of all stations take at most half of the budget (R112). -/
theorem reserve_mul_le (p n : Nat) : n * reserve p n ≤ p / 2 := by
  rw [Nat.le_div_iff_mul_le Nat.two_pos, reserve]
  calc n * (p / (2 * n)) * 2 = p / (2 * n) * (2 * n) := by ring
    _ ≤ p := Nat.div_mul_le_self p (2 * n)

theorem sum_min_le_length_mul (views : List Nat) (r : Nat) :
    (views.map fun v => min v r).sum ≤ views.length * r := by
  simpa using List.sum_le_card_nsmul (views.map fun v => min v r) r (by simp)

/-- With the views of all `n` stations at least half of the budget is left to share (R113). -/
theorem half_le_pool {views : List Nat} (h : views.length = n) (p : Nat) : (p + 1) / 2 ≤ pool p n views := by
  have hsum := sum_min_le_length_mul views (reserve p n)
  have hreserves := reserve_mul_le p n
  rw [h] at hsum
  unfold pool
  omega

/-- Equation (7-4) without its case of no excess: then the share of the pool is 0. -/
theorem allowance_eq (p n d : Nat) (peers : List Nat) : allowance p n d peers
    = min d (reserve p n) + pool p n (d :: peers) * (d - reserve p n) / totalExcess p n (d :: peers) := by
  unfold allowance
  split
  · rename_i hnone
    have hd : d - reserve p n = 0 := by
      simp only [totalExcess, List.map_cons, List.sum_cons, Nat.add_eq_zero_iff] at hnone
      exact hnone.1
    rw [hd, Nat.mul_zero, Nat.zero_div]
    omega
  · rfl

theorem allowance_of_le (h : d ≤ reserve p n) (peers : List Nat) : allowance p n d peers = d := by
  rw [allowance_eq, min_eq_left h, Nat.sub_eq_zero_of_le h, Nat.mul_zero, Nat.zero_div, Nat.add_zero]

theorem allowance_of_gt (h : reserve p n < d) (peers : List Nat) : allowance p n d peers
    = reserve p n + pool p n (d :: peers) * (d - reserve p n) / totalExcess p n (d :: peers) := by
  rw [allowance_eq, min_eq_right h.le]

theorem reserve_le_allowance (h : reserve p n < d) (peers : List Nat) : reserve p n ≤ allowance p n d peers := by
  rw [allowance_of_gt h]
  exact Nat.le_add_right _ _

/-- A station alone on its head is allowed the whole budget (R113). -/
theorem allowance_of_alone (h : reserve p 1 < d) : allowance p 1 d [] = p := by
  have hexcess : totalExcess p 1 [d] = d - reserve p 1 := by simp [totalExcess]
  have hpool : pool p 1 [d] = p - reserve p 1 := by simp [pool, h.le]
  have hreserve : reserve p 1 ≤ p := Nat.div_le_self p _
  rw [allowance_of_gt h, hexcess, hpool, Nat.mul_div_cancel _ (by omega)]
  omega

theorem totalExcess_eq (p n : Nat) (views : List Nat) : totalExcess p n views
    = (views.map fun v => if p / (2 * n) < v then v - p / (2 * n) else 0).sum := by
  unfold totalExcess reserve
  congr 2
  funext v
  split <;> omega

/-- A demand needs at most `k` phases when `k` allowances cover it (R114). -/
theorem phaseCount_le {a k : Nat} (ha : 1 ≤ a) (h : d ≤ k * a) : phaseCount d a ≤ k := by
  unfold phaseCount
  split
  · exact Nat.zero_le k
  · rw [Nat.div_le_iff_le_mul_add_pred ha, Nat.mul_comm]
    omega

end Budget

/-! #### The view of a peer (R110) -/

theorem PeerTable.view_of_missing {t : PeerTable} {seq row : Nat} (h : ∀ e ∈ t.entries, ¬(e.seq = seq ∧ e.row = row)) :
    t.view seq row = 640 := by
  have hfind : t.find seq row = none := Option.isNone_iff_eq_none.1 (PeerTable.find_isNone_iff.2 h)
  rw [PeerTable.view, hfind, Option.getD_none]

/-- The first entry of the key gives the view. -/
theorem PeerTable.view_of_first {t : PeerTable} {pre post : List DemandEntry} {e : DemandEntry}
    (h : t.entries = pre ++ e :: post) (hpre : ∀ x ∈ pre, ¬(x.seq = e.seq ∧ x.row = e.row)) :
    t.view e.seq e.row = e.demand := by
  have hnone : pre.find? (fun x => decide (x.seq = e.seq ∧ x.row = e.row)) = none := by
    simpa [List.find?_eq_none] using hpre
  rw [PeerTable.view, PeerTable.find, h, List.find?_append, hnone]
  simp

/-- Settles O20: both sides of the reserve, which is at least 32 dots, and so at most 20 phases of 640. -/
theorem allowanceCases : Obligations.AllowanceCases := by
  refine ⟨?_, fun s seq row d => ⟨rfl, rowMiss_iff⟩, fun t seq row => ⟨PeerTable.view_of_missing, ?_⟩⟩
  · intro p n d peers hp hp' hn hn' hpeers hd
    have hlow : 32 ≤ reserve p n := by
      rw [reserve, Nat.le_div_iff_mul_le (by omega)]
      omega
    have hhigh : reserve p n ≤ 1280 := (Nat.div_le_div_left (by omega) Nat.two_pos).trans (by omega : p / 2 ≤ 1280)
    have hone : 1 ≤ d → 1 ≤ allowance p n d peers := fun h => one_le_allowance (by omega) h peers
    refine ⟨rfl, hlow, hhigh, rfl, totalExcess_eq p n _, half_le_pool (by simp; omega) p, Nat.sub_le _ _,
      fun h => allowance_of_le h peers, fun h => ⟨reserve_le_allowance h peers, allowance_of_gt h peers⟩, hone,
      ?_, ?_, ?_⟩
    · rintro rfl h
      obtain rfl : peers = [] := List.length_eq_zero_iff.1 hpeers
      exact allowance_of_alone h
    · rcases Nat.eq_zero_or_pos d with rfl | hpos
      · simp [phaseCount]
      · refine phaseCount_le (hone hpos) ?_
        rcases Nat.lt_or_ge (reserve p n) d with h | h
        · have := reserve_le_allowance h peers
          omega
        · rw [allowance_of_le h]
          omega
    · refine ⟨fun hzero => ?_, fun hzero => by simp [phaseCount, hzero]⟩
      by_contra hd0
      have := one_le_phaseCount (Nat.pos_of_ne_zero hd0) (hone (Nat.pos_of_ne_zero hd0))
      omega
  · rintro pre e post h rfl rfl hpre
    exact PeerTable.view_of_first h hpre

/-! #### The allowances of a head's stations (R117) -/

/-- The parts of shares rounded down come to no more than the whole. -/
theorem sum_div_le (l : List Nat) (c : Nat) : (l.map fun x => x / c).sum ≤ l.sum / c := by
  induction l with
  | nil => simp
  | cons x l ih =>
    rw [List.map_cons, List.sum_cons, List.sum_cons]
    exact (Nat.add_le_add_left ih _).trans Nat.div_add_div_le_add_div

/-- An amount shared in proportion to `f` is not exceeded. -/
theorem sum_shares_le {α : Type} (l : List α) (f : α → Nat) (c : Nat) :
    (l.map fun x => c * f x / (l.map f).sum).sum ≤ c := by
  have hsum : (l.map fun x => c * f x).sum = c * (l.map f).sum := List.sum_map_mul_left l f c
  have hle := sum_div_le (l.map fun x => c * f x) (l.map f).sum
  rw [List.map_map, hsum] at hle
  exact hle.trans (Nat.div_le_of_le_mul (Nat.mul_comm _ _).le)

section Head
variable {n : Nat} {d : Fin n → Nat} {view : Fin n → Fin n → Nat}

/-- What station `k` plans with beside its own demand: its views of its peers. -/
def peerViews (view : Fin n → Fin n → Nat) (k : Fin n) : List Nat :=
  ((List.finRange n).filter fun j => j ≠ k).map (view k)

/-- A quantity that grows with the demand is no less summed over what a station plans with than over what all plan
with. -/
theorem sum_demands_le {g : Nat → Nat} (hg : Monotone g) (h : ∀ k j, d j ≤ view k j) (k : Fin n) :
    ((List.finRange n).map fun j => g (d j)).sum ≤ ((d k :: peerViews view k).map g).sum := by
  have hfilter : (List.finRange n).erase k = (List.finRange n).filter fun j => j ≠ k := by
    rw [(List.nodup_finRange n).erase_eq_filter k]
    congr 1
    funext j
    simp [bne, beq_eq_decide]
  have hperm := ((List.perm_cons_erase (List.mem_finRange k)).map fun j => g (d j)).sum_eq
  rw [hperm, hfilter, List.map_cons, List.sum_cons, List.map_cons, List.sum_cons, peerViews, List.map_map]
  exact Nat.add_le_add_left (List.sum_le_sum fun j _ => hg (h k j)) _

/-- The share of the pool that a station takes is at most its share in what all plan with. -/
theorem allowance_le_share (h : ∀ k j, d j ≤ view k j) (p : Nat) (k : Fin n) :
    let held := ((List.finRange n).map fun j => min (d j) (reserve p n)).sum
    let excess := ((List.finRange n).map fun j => d j - reserve p n).sum
    allowance p n (d k) (peerViews view k)
      ≤ min (d k) (reserve p n) + (p - held) * (d k - reserve p n) / excess := by
  intro held excess
  have hheld : pool p n (d k :: peerViews view k) ≤ p - held :=
    Nat.sub_le_sub_left (sum_demands_le (fun _ _ hle => min_le_min_right _ hle) h k) p
  have hexcess : excess ≤ totalExcess p n (d k :: peerViews view k) :=
    sum_demands_le (fun _ _ hle => Nat.sub_le_sub_right hle _) h k
  rw [allowance_eq]
  refine Nat.add_le_add_left ?_ _
  rcases Nat.eq_zero_or_pos excess with hzero | hpos
  · have hk : d k - reserve p n = 0 := List.sum_eq_zero_iff.1 hzero _ (List.mem_map_of_mem (List.mem_finRange k))
    simp [hk]
  · exact Nat.div_le_div (Nat.mul_le_mul_right _ hheld) hexcess (by omega)

end Head

/-- Settles O21: what all hold of their reserves, and no more than the rest of the budget shared by their excesses. -/
theorem headWithinBudget : Obligations.HeadWithinBudget := by
  intro p n d view _ _ h
  let held := ((List.finRange n).map fun j => min (d j) (reserve p n)).sum
  let excess := ((List.finRange n).map fun j => d j - reserve p n).sum
  have hheld : held ≤ p := by
    have hsum := sum_min_le_length_mul ((List.finRange n).map d) (reserve p n)
    rw [List.map_map, List.length_map, List.length_finRange] at hsum
    exact (hsum.trans (reserve_mul_le p n)).trans (Nat.div_le_self p 2)
  calc ((List.finRange n).map fun k => allowance p n (d k) (peerViews view k)).sum
    _ ≤ ((List.finRange n).map fun k => min (d k) (reserve p n) + (p - held) * (d k - reserve p n) / excess).sum :=
      List.sum_le_sum fun k _ => allowance_le_share h p k
    _ = held + ((List.finRange n).map fun k => (p - held) * (d k - reserve p n) / excess).sum := List.sum_map_add
    _ ≤ held + (p - held) := Nat.add_le_add_left (sum_shares_le _ _ _) _
    _ = p := Nat.add_sub_cancel' hheld

end Sys2Proof.Machine

/-! ### The phases divide a row (O22) -/

namespace Sys2Proof.Machine

/-! #### Consecutive pieces of the column list (R115) -/

section Pieces
variable {columns : List Nat} {a : Nat}

theorem phaseColumns_length (columns : List Nat) (a j : Nat) :
    (phaseColumns columns a j).length = min a (columns.length - j * a) := by
  simp [phaseColumns]

/-- The first `n` phases take the first `n * a` columns. -/
theorem flatMap_phaseColumns (columns : List Nat) (a n : Nat) :
    (List.range n).flatMap (phaseColumns columns a) = columns.take (n * a) := by
  induction n with
  | zero => simp
  | succ n ih =>
    rw [List.range_succ, List.flatMap_append, ih, Nat.succ_mul, List.take_add, List.flatMap_singleton, phaseColumns]

theorem mem_phaseColumns {j col : Nat} :
    col ∈ phaseColumns columns a j ↔ ∃ i, a * j ≤ i ∧ i < a * j + a ∧ columns[i]? = some col := by
  simp only [phaseColumns, List.mem_iff_getElem?, List.getElem?_take, List.getElem?_drop, Nat.mul_comm j a,
    Option.ite_none_right_eq_some]
  constructor
  · rintro ⟨i, hia, hi⟩
    exact ⟨a * j + i, by omega, by omega, hi⟩
  · rintro ⟨i, hlow, hhigh, hi⟩
    exact ⟨i - a * j, by omega, by rwa [Nat.add_sub_cancel' hlow]⟩

/-- So many phases of `a` columns hold `d` columns. -/
theorem le_phaseCount_mul (d : Nat) (ha : 1 ≤ a) : d ≤ phaseCount d a * a := by
  unfold phaseCount
  split
  · omega
  · have := Nat.lt_div_mul_add (a := d + a - 1) (b := a) ha
    omega

/-- Every phase but the last is filled, and the last is not empty. -/
theorem phaseCount_fills {d j : Nat} (ha : 1 ≤ a) (hj : j < phaseCount d a) : j * a < d := by
  unfold phaseCount at hj
  split at hj
  · omega
  · have hle : (j + 1) * a ≤ d + a - 1 := (Nat.le_div_iff_mul_le ha).1 hj
    rw [Nat.succ_mul] at hle
    omega

end Pieces

/-! #### The place of a column in the list -/

/-- The place of a firing dot in the ascending list is the number of firing dots below it. -/
theorem Dots.columns_getElem? {image : Dots} {i col : Nat} : (Dots.columns image)[i]? = some col
    ↔ image.getLsbD col = true ∧ ((List.range col).filter fun c => image.getLsbD c).length = i := by
  have hplace : image.getLsbD col = true →
      (Dots.columns image)[((List.range col).filter fun c => image.getLsbD c).length]? = some col := by
    intro hcol
    have hlt : col < 640 := BitVec.lt_of_getLsbD hcol
    have hsplit : List.range 640 = List.range col ++ col :: (List.range (639 - col)).map (fun c => col + 1 + c) := by
      rw [show 640 = col + 1 + (639 - col) by omega, List.range_add, List.range_succ]
      simp
    rw [Dots.columns, hsplit, List.filter_append, List.filter_cons_of_pos hcol]
    simp
  refine ⟨fun h => ?_, fun ⟨hcol, hi⟩ => hi ▸ hplace hcol⟩
  have hcol : image.getLsbD col = true := Dots.mem_columns.1 (List.mem_of_getElem? h)
  have hnodup : (Dots.columns image).Nodup := List.nodup_range.filter _
  exact ⟨hcol, (List.getElem?_inj (List.getElem?_eq_some_iff.1 (hplace hcol)).1 hnodup).1 ((hplace hcol).trans h.symm)⟩

/-- Settles O22: the phases are consecutive pieces of the ascending list, in which a dot's place counts those below. -/
theorem phasesDivideRow : Obligations.PhasesDivideRow := by
  intro image a ha n
  have hlength : (Dots.columns image).length = Dots.count image := rfl
  refine ⟨?_, fun j hj => ?_, fun j hj => ?_, fun j col => ?_⟩
  · rw [flatMap_phaseColumns, List.take_of_length_le (le_phaseCount_mul (Dots.count image) ha)]
  · have hfill := phaseCount_fills ha hj
    rw [phaseColumns_length, hlength]
    omega
  · have hfill := phaseCount_fills ha hj
    rw [Nat.succ_mul] at hfill
    rw [phaseColumns_length, hlength]
    omega
  · simp only [mem_phaseColumns, Dots.columns_getElem?]
    constructor
    · rintro ⟨i, hlow, hhigh, hcol, rfl⟩
      exact ⟨hcol, hlow, hhigh⟩
    · rintro ⟨hcol, hlow, hhigh⟩
      exact ⟨_, hlow, hhigh, hcol, rfl⟩

end Sys2Proof.Machine

/-! ### Where a demand goes, and the forming of a DEMAND frame (O25) -/

namespace Sys2Proof.Machine

/-- Entries `es` begin with `n` that follow row by row from `row` on, and no more of them do, up to `room`. -/
def FollowingRun (seq row room : Nat) (es : List DemandEntry) (n : Nat) : Prop :=
  n ≤ room ∧ n ≤ es.length ∧ (∀ j x, j < n → es[j]? = some x → x.seq = seq ∧ x.row = row + j)
  ∧ ∀ x, n < room → es[n]? = some x → ¬(x.seq = seq ∧ x.row = row + n)

theorem FollowingRun.cons {seq row room n : Nat} {e : DemandEntry} {es : List DemandEntry}
    (h : FollowingRun seq (row + 1) room es n) (hseq : e.seq = seq) (hrow : e.row = row) :
    FollowingRun seq row (room + 1) (e :: es) (n + 1) := by
  obtain ⟨hroom, hlen, hbefore, hnext⟩ := h
  refine ⟨by omega, by simpa using hlen, fun j x hj hx => ?_, fun x hn hx => ?_⟩
  · cases j with
    | zero =>
      obtain rfl : e = x := by simpa using hx
      exact ⟨hseq, hrow⟩
    | succ j =>
      have := hbefore j x (by omega) (by simpa using hx)
      omega
  · have := hnext x (by omega) (by simpa using hx)
    omega

/-- What is gathered is the run of entries that follow, as far as there is room (R105, R107). -/
theorem gatherDemands_eq (seq first : Nat) (ds : List Nat) (es : List DemandEntry) :
    ∃ n, FollowingRun seq (first + ds.length) (4 - ds.length) es n
      ∧ gatherDemands seq first ds es = (ds ++ (es.take n).map DemandEntry.demand, es.drop n) := by
  induction es generalizing ds with
  | nil => exact ⟨0, ⟨by simp, by simp, by simp, by simp⟩, by simp [gatherDemands]⟩
  | cons e es ih =>
    rw [gatherDemands]
    split
    · rename_i hjoins
      obtain ⟨hroom, hseq, hrow⟩ := hjoins
      obtain ⟨n, hrun, hgather⟩ := ih (ds ++ [e.demand])
      rw [List.length_append, List.length_singleton, ← Nat.add_assoc, Nat.sub_add_eq] at hrun
      refine ⟨n + 1, ?_, by simp [hgather]⟩
      have hcons := hrun.cons hseq hrow
      rwa [Nat.sub_add_cancel (by omega)] at hcons
    · rename_i hno
      refine ⟨0, ⟨by simp, by simp, by simp, fun x hroom hx => ?_⟩, by simp⟩
      obtain rfl : e = x := by simpa using hx
      exact fun hfollows => hno ⟨by omega, hfollows⟩

section Forming
variable {s : State}

theorem appendBacklog_eq (s : State) (e : DemandEntry) : appendBacklog s e = if s.link.backlog.length < 8 then
    { s with link := { s.link with backlog := s.link.backlog ++ [e] } } else s := rfl

theorem handDemand_of_backlog (hd : s.link.demand = none) (hb : s.link.backlog ≠ []) (e : DemandEntry) :
    handDemand s e = formDemand (appendBacklog s e) := by
  unfold handDemand
  rw [hd]
  exact if_neg hb

theorem handDemand_of_some {f : DemandFrame} (h : s.link.demand = some f) (e : DemandEntry) :
    handDemand s e = if f.frozen = false ∧ f.demands.length < 4 ∧ f.seq = e.seq ∧ e.row = f.first + f.demands.length
        ∧ s.link.backlog = [] then
      { s with link := { s.link with demand := some { f with demands := f.demands ++ [e.demand] } } }
    else appendBacklog s e := by
  unfold handDemand
  rw [h]
  rfl

theorem formDemand_of_some (h : s.link.demand ≠ none) : formDemand s = s := by
  obtain ⟨f, hf⟩ := Option.ne_none_iff_exists'.1 h
  simp [formDemand, hf]

theorem formDemand_of_stale (h : s.link.demand = none) (hstale : ∀ e ∈ s.link.backlog, s.isStale e.seq e.row = true) :
    formDemand s = { s with link := { s.link with backlog := [] } } := by
  have hfresh : s.freshEntries s.link.backlog = [] := by simpa [State.freshEntries] using hstale
  simp [formDemand, h, hfresh, State.setLink]

/-- The frame formed begins with the first fresh entry (R105). -/
theorem formDemand_of_fresh {e : DemandEntry} {es : List DemandEntry} (h : s.link.demand = none)
    (hfresh : s.freshEntries s.link.backlog = e :: es) : formDemand s = { s with link := { s.link with
      demand := some { seq := e.seq, first := e.row, demands := (gatherDemands e.seq e.row [e.demand] es).1,
                       frozen := false },
      backlog := (gatherDemands e.seq e.row [e.demand] es).2, tx := s.link.tx.wake } } := by
  simp [formDemand, h, hfresh, State.setLink]

end Forming

/-- Settles O25: the cases of the hand-over, and the gathered run of the backlog's fresh entries. -/
theorem demandPlaced : Obligations.DemandPlaced := by
  refine ⟨fun s e => ?_, fun s => ⟨formDemand_of_some, formDemand_of_stale, fun e es h hfresh => ?_⟩⟩
  · intro behind
    refine ⟨fun hd hb => ?_, fun hd hb => handDemand_of_backlog hd hb e, fun f hf => ?_⟩
    · simp [handDemand, hd, hb, State.setLink]
    · intro joins
      rw [handDemand_of_some hf]
      exact ⟨fun hjoins => if_pos hjoins, fun hno => if_neg hno⟩
  · obtain ⟨n, ⟨hroom, hlen, hbefore, hnext⟩, hgather⟩ := gatherDemands_eq e.seq e.row [e.demand] es
    refine ⟨n, hroom, hlen, fun j x hj hx => ?_, fun x hn hx hfollows => ?_, ?_⟩
    · have := hbefore j x hj hx
      simp only [List.length_singleton] at this
      omega
    · refine hnext x hn hx ?_
      simp only [List.length_singleton]
      omega
    · rw [formDemand_of_fresh h hfresh, hgather]
      rfl

end Sys2Proof.Machine

/-! ### A received DEMAND (O55) -/

namespace Sys2Proof.Machine

/-! #### A frame with its correct check, for this station (R138, R147) -/

/-- The source nibble of an address byte. -/
theorem sourceOf_append (dest src : BitVec 4) : sourceOf (dest ++ src) = src.toNat := by
  have hsrc := src.isLt
  rw [sourceOf, BitVec.toNat_append, ← Nat.shiftLeft_add_eq_or_of_lt hsrc, Nat.shiftLeft_eq]
  omega

theorem State.isFor_of_dest {s : State} {dest : BitVec 4} (h : dest.toNat = s.number ∨ dest = 15#4) :
    s.isFor dest.toNat = true := by
  rcases h with h | rfl
  · simp [State.isFor, h]
  · simp [State.isFor, Config.broadcastAddress]

theorem checkedFrame_check (address kind : Byte) (payload : List Byte) :
    let f := checkedFrame address kind payload
    f.check = checkOf (checkedBytes f.address f.kind f.payload) := by
  dsimp only [checkedFrame]

/-- A frame that passes the tests goes to the block of its kind (R147, R148). -/
theorem acceptFrame_of_passes {s : State} {f : RxFrame} {p : Payload} (hrec : s.link.canReceive = true)
    (hlen : f.payload.length ≤ 480) (hcheck : f.check = checkOf (checkedBytes f.address f.kind f.payload))
    (hfor : s.isFor (destOf f.address) = true) (hparse : parsePayload f.kind f.payload = some p)
    (hs : s.station ≠ .starting) :
    acceptFrame s f = route (setReceiver s .ready (frameEndQuiet f)) (sourceOf f.address) p := by
  have hfor' : (setReceiver s .ready (frameEndQuiet f)).isFor (destOf f.address) = true := hfor
  rw [acceptFrame, if_pos ⟨hrec, hlen⟩, if_pos hcheck, acceptChecked, if_pos hfor', hparse]
  exact if_neg hs

/-! #### The payload of a DEMAND (12.2, R176) -/

theorem parseDemands_flatMap_be16 {ds : List Nat} (h : ∀ d ∈ ds, d < 65536) :
    parseDemands (ds.flatMap be16) = some ds := by
  induction ds with
  | nil => rfl
  | cons d ds ih =>
    have hd : natOf [byteOf (d / 256), byteOf d] = d := natOf_be16 (h d (by simp))
    rw [List.flatMap_cons, be16, List.cons_append, List.cons_append, List.nil_append, parseDemands,
      ih fun x hx => h x (by simp [hx]), hd]
    rfl

theorem length_flatMap_be16 (ds : List Nat) : (ds.flatMap be16).length = 2 * ds.length := by
  simp [List.length_flatMap, be16, Nat.mul_comm]

theorem lowBits_byteOf {n : Nat} (h : n < 128) : lowBits (byteOf n) = n := by
  simp only [lowBits, byteOf, BitVec.toNat_ofNat]
  omega

theorem parsePayload_of_demand (payload : List Byte) : parsePayload 0x40#8 payload = parseDemand payload := by
  simp [parsePayload]

theorem parsePayload_demand (seq first : BitVec 16) {ds : List (BitVec 16)} (h1 : 1 ≤ ds.length) (h4 : ds.length ≤ 4) :
    parsePayload 0x40#8 (encodeDemand seq.toNat first.toNat (ds.map BitVec.toNat))
      = some (.demand seq.toNat first.toNat (ds.map BitVec.toNat)) := by
  have hcount : lowBits (byteOf (ds.map BitVec.toNat).length) = ds.length := by
    rw [List.length_map, lowBits_byteOf (by omega)]
  have hlen : ((ds.map BitVec.toNat).flatMap be16).length = 2 * ds.length := by
    rw [length_flatMap_be16, List.length_map]
  have hparse : parseDemands ((ds.map BitVec.toNat).flatMap be16) = some (ds.map BitVec.toNat) :=
    parseDemands_flatMap_be16 fun d hd => by
      obtain ⟨x, -, rfl⟩ := List.mem_map.1 hd
      exact x.isLt
  have hseq : natOf [byteOf (seq.toNat / 256), byteOf seq.toNat] = seq.toNat := natOf_be16 seq.isLt
  have hfirst : natOf [byteOf (first.toNat / 256), byteOf first.toNat] = first.toNat := natOf_be16 first.isLt
  rw [parsePayload_of_demand]
  simp only [encodeDemand, be16, List.cons_append, List.nil_append, parseDemand, hcount]
  rw [if_pos ⟨h1, h4, hlen⟩, hparse, hseq, hfirst]
  rfl

/-! #### The table of a peer (R108, R109) -/

/-- The demands of a frame enter in row order. -/
theorem enterDemands_eq_foldl (stale : Nat → Bool) (seq first : Nat) (ds : List (BitVec 16)) (es : List DemandEntry) :
    enterDemands stale seq first (ds.map BitVec.toNat) es
      = ((List.range ds.length).zip ds).foldl (fun es p => enterDemand (stale (first + p.1)) es
          { seq := seq, row := first + p.1, demand := p.2.toNat }) es := by
  induction ds generalizing first es with
  | nil => rfl
  | cons d ds ih =>
    rw [List.map_cons, enterDemands, ih, List.length_cons, List.range_succ_eq_map, List.zip_cons_cons, List.foldl_cons,
      List.zip_map_left, List.foldl_map]
    simp only [Prod.map, Nat.add_zero, id, Nat.succ_eq_add_one, Nat.add_assoc, Nat.add_comm 1]

section Entry
variable {stale : Bool} {es : List DemandEntry} {e : DemandEntry}

theorem enterDemand_of_excluded (h : e.seq = 0 ∨ 4800 ≤ e.row ∨ stale = true) : enterDemand stale es e = es :=
  if_pos h

/-- A demand of a label's row that is not stale replaces one of its key, or joins a table of fewer than 8. -/
theorem enterDemand_of_row (hseq : 1 ≤ e.seq) (hrow : e.row ≤ 4799) (hstale : stale = false) : enterDemand stale es e
    = if ∃ x ∈ es, x.seq = e.seq ∧ x.row = e.row then
        es.map fun y => if y.seq = e.seq ∧ y.row = e.row then { y with demand := min e.demand 640 } else y
      else if es.length < 8 then es ++ [{ e with demand := min e.demand 640 }] else es := by
  have hno : ¬(e.seq = 0 ∨ Config.lastRow < e.row ∨ stale = true) := by
    simp only [Config.lastRow, hstale, Bool.false_eq_true, or_false]
    omega
  rw [enterDemand, if_neg hno]
  simp only [List.any_eq_true, decide_eq_true_eq]
  rfl

end Entry

/-- The demands of an arriving frame enter by what is stale before it: the test does not look at the link (R104,
R109). -/
theorem takeDemand_setReceiver (s : State) (r : Receiver) (quiet src seq first : Nat) (ds : List (BitVec 16)) :
    takeDemand (setReceiver s r quiet) src seq first (ds.map BitVec.toNat) = { s with
      link := { s.link with receiver := r, quiet := quiet },
      peers := if s.station = .active then s.peers.map fun t => if t.peer = src then
          { t with entries := ((List.range ds.length).zip ds).foldl (fun es p => enterDemand
              (s.isStale seq (first + p.1)) es { seq := seq, row := first + p.1, demand := p.2.toNat }) t.entries }
        else t else s.peers } := by
  have hstale : (setReceiver s r quiet).isStale seq = s.isStale seq := by
    funext row
    exact State.isStale_congr_ctx rfl (fun j => by cases j <;> rfl) seq row
  have hstation : (setReceiver s r quiet).station = s.station := rfl
  unfold takeDemand
  simp only [hstation, hstale, enterDemands_eq_foldl]
  by_cases hs : s.station = .active
  · rw [if_pos hs, if_pos hs]
    rfl
  · rw [if_neg hs, if_neg hs]
    rfl

/-- Settles O55: the frame passes the tests and is routed to the tables; then the four cases of one entry. -/
theorem demandEntered : Obligations.DemandEntered := by
  refine ⟨?_, fun stale es e => ?_⟩
  · intro dest src seq first ds s f
    refine ⟨rfl, fun hrec hdest hs h1 h4 => ?_⟩
    have hlen : (encodeDemand seq.toNat first.toNat (ds.map BitVec.toNat)).length ≤ 480 := by
      simp only [encodeDemand, List.length_append, length_flatMap_be16, List.length_map, be16, List.length_cons,
        List.length_nil]
      omega
    have haddr : destOf f.address = dest.toNat := destOf_append dest src
    have hsource : sourceOf f.address = src.toNat := sourceOf_append dest src
    have haccept := acceptFrame_of_passes (f := f) hrec hlen (checkedFrame_check _ _ _)
      (haddr ▸ State.isFor_of_dest hdest) (parsePayload_demand seq first h1 h4) hs
    rw [hsource] at haccept
    exact congrArg Host.Outcome.next (haccept.trans (takeDemand_setReceiver s _ _ _ _ _ ds))
  · refine ⟨enterDemand_of_excluded, fun hseq hrow hstale => ?_⟩
    rw [enterDemand_of_row hseq hrow hstale]
    refine ⟨fun x hx hxs hxr => if_pos ⟨x, hx, hxs, hxr⟩, fun hnew => ?_⟩
    have hno : ¬∃ x ∈ es, x.seq = e.seq ∧ x.row = e.row := fun ⟨x, hx, hxs, hxr⟩ => hnew x hx hxs hxr
    rw [if_neg hno]
    exact ⟨fun hroom => if_pos hroom, fun hfull => if_neg (Nat.not_lt.2 hfull)⟩

end Sys2Proof.Machine

/-! ### The transmitter: the pending DEMAND frame it loses, and the sources it leaves -/

namespace Sys2Proof.Machine

section Pending
variable {s u : State}

/-- A transmitter that is not Idle stays as it is when a frame is formed (R140). -/
theorem formDemand_tx (h : s.link.tx.state ≠ .idle) : (formDemand s).link.tx = s.link.tx := by
  have hwake : s.link.tx.wake = s.link.tx := if_neg h
  unfold formDemand
  split
  · rfl
  · split
    · rfl
    · exact hwake

theorem formDemand_isStale (s : State) (seq row : Nat) : (formDemand s).isStale seq row = s.isStale seq row :=
  State.isStale_congr_ctx (by simp) (by simp) seq row

/-- A frame just formed has no stale row at its front: its first entry is a fresh one of the backlog (R105). -/
theorem trimDemand_formDemand (h : s.link.demand = none) : trimDemand (formDemand s) = formDemand s := by
  cases hfresh : s.freshEntries s.link.backlog with
  | nil => exact trimDemand_of_none (by simp [formDemand, h, hfresh])
  | cons e es =>
    have hform := formDemand_of_fresh h hfresh
    have hstale : s.isStale e.seq e.row = false := by
      have hmem : e ∈ s.freshEntries s.link.backlog := by simp [hfresh]
      simpa using (List.mem_filter.1 hmem).2
    obtain ⟨hlen, -, -⟩ := gatherDemands_length e.seq e.row [e.demand] es
    refine trimDemand_of_fresh (f := ⟨e.seq, e.row, _, false⟩) (by rw [hform]) (List.ne_nil_of_length_pos hlen) ?_
    rw [formDemand_isStale]
    exact hstale

/-- The pending frame is discarded and the next formed (R105): the frame formed depends on the backlog and on what is
stale, so that a state `s` with the same of both tells it. -/
theorem discardDemand_eq (hback : u.link.backlog = s.link.backlog)
    (hstale : ∀ seq row, u.isStale seq row = s.isStale seq row) :
    let next := formDemand { s with link := { s.link with demand := none } }
    discardDemand u = { u with link := { u.link with
      demand := next.link.demand, backlog := next.link.backlog, tx := (discardDemand u).link.tx } } := by
  intro next
  obtain ⟨hdemand, hback'⟩ := formDemand_congr (s := { s with link := { s.link with demand := none } })
    (t := u.setLink { u.link with demand := none, tx := u.link.tx.dropDemand }) rfl hback hstale
  have hlink : (discardDemand u).link = { u.link with
      demand := next.link.demand, backlog := next.link.backlog, tx := (discardDemand u).link.tx } := by
    rw [← hdemand, ← hback']
    exact discardDemand_onlyDemand u
  apply State.ext
  case link => exact hlink
  all_goals simp

/-- With no frame in hand the transmitter is Idle exactly when no source holds anything (R143, R144). -/
theorem releaseTx_eq (s : State) : releaseTx s = { s with link := { s.link with tx := {
    state := if s.link.voidQueue = [] ∧ s.link.demand = none ∧ s.report.pending = false ∧ s.report.queue = [] then .idle
      else .deferring,
    inHand := none, attempts := 0 } } } := by
  have htraffic : s.hasTraffic = true ↔ ¬(s.link.voidQueue = [] ∧ s.link.demand = none ∧ s.report.pending = false
      ∧ s.report.queue = []) := by
    rw [State.hasTraffic_iff]
    simp only [not_and_or, ne_eq, Bool.not_eq_false]
  rw [← ite_not, ← if_congr htraffic rfl rfl]
  rfl

end Pending

end Sys2Proof.Machine

/-! ### The selection of a frame, and a frame sent (O56) -/

namespace Sys2Proof.Machine

/-! #### The begin of an attempt (R106, R136, R141) -/

section Attempt
variable {s : State} {f : DemandFrame} {k : Nat}

/-- The state in which an attempt with the frame `h` has begun (R136, R141). -/
def State.attempting (s : State) (h : InHand) (n : Nat) : State :=
  { s with link := { s.link with quiet := 0, tx := { state := .sending, inHand := some h, attempts := n } } }

/-- An attempt with the pending frame, which its first `k` rows have left and which is frozen (R106). -/
def State.attemptingDemand (s : State) (f : DemandFrame) (k n : Nat) : State :=
  { s with link := { (s.attempting .demand n).link with
    demand := some { f with first := f.first + k, demands := f.demands.drop k, frozen := true } } }

theorem beginAttempt_of_ne {h : InHand} (hne : h ≠ .demand) (s : State) (n : Nat) :
    beginAttempt s h n = s.attempting h n := by
  rw [beginAttempt, if_neg hne]
  rfl

/-- The stale rows of the frame's front leave, and its attempt begins. -/
theorem beginAttempt_trimDemand (h : s.link.demand = some f) (hk : k < f.demands.length)
    (hstale : ∀ j, j < k → s.isStale f.seq (f.first + j) = true) (hfresh : s.isStale f.seq (f.first + k) = false)
    (n : Nat) : beginAttempt (trimDemand s) .demand n = s.attemptingDemand f k n := by
  rw [trimDemand_of_row h hk hstale hfresh]
  rfl

/-! #### The selection (R140) -/

theorem selectFrame_of_void {v : VoidFrame} {rest : List VoidFrame} (h : s.link.voidQueue = v :: rest) :
    selectFrame s = s.attempting (.void v) 0 := by
  have hselect : s.select = some (.void v) := by simp [State.select, h]
  have hne : ¬s.link.voidQueue = [] := by simp [h]
  simp only [selectFrame, if_neg hne, hselect]
  exact beginAttempt_of_ne (by simp) s 0

/-- With no VOID waiting the pending frame loses its stale rows before its turn (R106). -/
theorem selectFrame_of_select {h : InHand} (hv : s.link.voidQueue = []) (hselect : (trimDemand s).select = some h) :
    selectFrame s = beginAttempt (trimDemand s) h 0 := by
  simp only [selectFrame, if_pos hv, hselect]

theorem selectFrame_of_nothing (hv : s.link.voidQueue = []) (hselect : (trimDemand s).select = none) :
    selectFrame s = setTx (trimDemand s) { state := .idle, inHand := none, attempts := 0 } := by
  simp only [selectFrame, if_pos hv, hselect]

theorem selectFrame_of_demand (hv : s.link.voidQueue = []) (h : s.link.demand = some f) (hk : k < f.demands.length)
    (hstale : ∀ j, j < k → s.isStale f.seq (f.first + j) = true) (hfresh : s.isStale f.seq (f.first + k) = false) :
    selectFrame s = s.attemptingDemand f k 0 := by
  have hselect : (trimDemand s).select = some .demand := by
    rw [trimDemand_of_row h hk hstale hfresh]
    simp [State.select, hv]
  rw [selectFrame_of_select hv hselect]
  exact beginAttempt_trimDemand h hk hstale hfresh 0

/-- A pending frame of stale rows alone is discarded, and the selection goes on with the next (R105, R106). -/
theorem selectFrame_of_stale (hv : s.link.voidQueue = []) (hin : s.link.tx.inHand = none) (h : s.link.demand = some f)
    (hstale : ∀ j, j < f.demands.length → s.isStale f.seq (f.first + j) = true) :
    selectFrame s = selectFrame (formDemand { s with link := { s.link with demand := none } }) := by
  let u : State := { s with link := { s.link with demand := none } }
  have hdrop : s.link.tx.dropDemand = s.link.tx := by simp [Tx.dropDemand, hin]
  have htrim : trimDemand s = formDemand u := by
    rw [trimDemand_of_stale h hstale, discardDemand, hdrop]
    rfl
  have hvoid : (formDemand u).link.voidQueue = [] := by
    rw [(formDemand_onlyDemand u).voidQueue]
    exact hv
  unfold selectFrame
  rw [if_pos hv, if_pos hvoid, htrim, trimDemand_formDemand (s := u) rfl]

/-- With neither VOID nor DEMAND the report unit's sources are asked. -/
theorem selectFrame_of_reports (hv : s.link.voidQueue = []) (hd : s.link.demand = none) :
    (s.report.pending = true → selectFrame s = s.attempting s.conditionInHand 0)
    ∧ (s.report.pending = false → ∀ r rest, s.report.queue = r :: rest → selectFrame s = s.attempting (.report r) 0)
    ∧ (s.report.pending = false → s.report.queue = [] →
        selectFrame s = { s with link := { s.link with
          tx := { state := .idle, inHand := none, attempts := 0 } } }) := by
  have htrim : trimDemand s = s := trimDemand_of_none hd
  have hbegins : ∀ i, i ≠ .demand → s.select = some i → selectFrame s = s.attempting i 0 := fun i hne hselect => by
    rw [selectFrame_of_select hv (by rwa [htrim]), htrim, beginAttempt_of_ne hne]
  refine ⟨fun hp => hbegins _ (by simp [State.conditionInHand]) (by simp [State.select, hv, hd, hp]),
    fun hp r rest hq => hbegins _ (by simp) (by simp [State.select, hv, hd, hp, hq]), fun hp hq => ?_⟩
  have hselect : (trimDemand s).select = none := by
    rw [htrim]
    simp [State.select, hv, hd, hp, hq]
  rw [selectFrame_of_nothing hv hselect, htrim]
  rfl

/-! #### The frame in hand again (R140, R174) -/

theorem retryFrame_demand (hin : s.link.tx.inHand = some .demand) (h : s.link.demand = some f)
    (hk : k < f.demands.length) (hstale : ∀ j, j < k → s.isStale f.seq (f.first + j) = true)
    (hfresh : s.isStale f.seq (f.first + k) = false) :
    retryFrame s .demand = s.attemptingDemand f k s.link.tx.attempts := by
  have htx : (trimDemand s).link.tx = s.link.tx := by rw [trimDemand_of_row h hk hstale hfresh, State.setLink_link]
  rw [retryFrame, htx, if_pos hin]
  exact beginAttempt_trimDemand h hk hstale hfresh _

/-- A frame in hand that is left empty is discarded, and a frame is selected (R104, R142). -/
theorem retryFrame_of_stale (hs : s.link.tx.state = .deferring) (hin : s.link.tx.inHand = some .demand)
    (h : s.link.demand = some f) (hstale : ∀ j, j < f.demands.length → s.isStale f.seq (f.first + j) = true) :
    retryFrame s .demand = selectFrame (formDemand { s with link := { s.link with
      demand := none, tx := { s.link.tx with inHand := none, attempts := 0 } } }) := by
  let u : State := { s with link := { s.link with
    demand := none, tx := { s.link.tx with inHand := none, attempts := 0 } } }
  have hdrop : s.link.tx.dropDemand = { s.link.tx with inHand := none, attempts := 0 } := by
    simp [Tx.dropDemand, hin, hs]
  have htrim : trimDemand s = formDemand u := by
    rw [trimDemand_of_stale h hstale, discardDemand, hdrop]
    rfl
  have hnone : ¬(formDemand u).link.tx.inHand = some .demand := by
    rw [formDemand_tx (by simp [u, hs])]
    simp [u]
  rw [retryFrame, htrim, if_neg hnone]

end Attempt

/-! #### The transmit opportunity (R136, R140) -/

/-- The transmitter waits for its turn, and the line has been quiet for 24 bit times. -/
def State.AtOpportunity (s : State) : Prop :=
  s.link.tx.state = .deferring ∧ s.link.quiet = 24 ∧ s.link.held = false

section Opportunity
variable {s : State}

theorem exec_transmitOpportunity_select (hs : s.AtOpportunity) (h : s.link.tx.inHand = none) :
    exec .transmitOpportunity s = .next (selectFrame s) := by
  unfold State.AtOpportunity at hs
  show Host.Outcome.next (transmitOpportunity s) = _
  rw [transmitOpportunity, if_pos hs, h]

theorem exec_transmitOpportunity_retry (hs : s.AtOpportunity) {h : InHand} (hin : s.link.tx.inHand = some h) :
    exec .transmitOpportunity s = .next (retryFrame s h) := by
  unfold State.AtOpportunity at hs
  show Host.Outcome.next (transmitOpportunity s) = _
  rw [transmitOpportunity, if_pos hs, hin]

theorem exec_transmitOpportunity_ignored (h : s.link.tx.state ≠ .deferring ∨ s.link.quiet ≠ 24 ∨ s.link.held = true) :
    exec .transmitOpportunity s = .next s := by
  have hno : ¬s.AtOpportunity := fun ⟨hstate, hquiet, hheld⟩ => by simp [hstate, hquiet, hheld] at h
  exact congrArg Host.Outcome.next (if_neg hno)

/-- A frame formed in the place of a discarded one leaves the opportunity, and with no frame in hand one is selected. -/
theorem exec_transmitOpportunity_formed {u : State} (hu : u.AtOpportunity) (h : u.link.tx.inHand = none) :
    exec .transmitOpportunity (formDemand u) = .next (selectFrame (formDemand u)) := by
  obtain ⟨hstate, hquiet, hheld⟩ := hu
  have htx : (formDemand u).link.tx = u.link.tx := formDemand_tx (by simp [hstate])
  have hlink := formDemand_onlyDemand u
  refine exec_transmitOpportunity_select ⟨?_, ?_, ?_⟩ ?_
  · rw [htx, hstate]
  · rw [hlink, ← hquiet]
  · rw [hlink, ← hheld]
  · rw [htx, h]

end Opportunity

/-! #### A frame sent (R144, R174) -/

section Sent
variable {s : State} {h : InHand}

theorem exec_frameSent (hs : s.link.tx.state = .sending) (hin : s.link.tx.inHand = some h) :
    exec .frameSent s = .next (releaseTx (sentSource (releaseLine s s.sentQuiet) h)) := by
  have hin' : (releaseLine s s.sentQuiet).link.tx.inHand = some h := hin
  show Host.Outcome.next (frameSent s) = _
  rw [frameSent, if_pos hs]
  simp only [hin']

theorem sentSource_quiet (s : State) (h : InHand) : (sentSource s h).link.quiet = s.link.quiet := by
  cases h
  case demand =>
    show (discardDemand s).link.quiet = _
    rw [discardDemand_onlyDemand s]
  all_goals rfl

theorem sentSource_demand (s : State) (quiet : Nat) :
    let next := formDemand { s with link := { s.link with demand := none } }
    releaseTx (sentSource (releaseLine s quiet) .demand) = { s with link := { s.link with
      quiet := quiet, demand := next.link.demand, backlog := next.link.backlog,
      tx := (releaseTx (sentSource (releaseLine s quiet) .demand)).link.tx } } := by
  intro next
  have hdiscard := discardDemand_eq (s := s) (u := releaseLine s quiet) rfl fun seq row =>
    State.isStale_congr_ctx rfl (fun j => by cases j <;> rfl) seq row
  show releaseTx (discardDemand (releaseLine s quiet)) = { s with link := { s.link with
    quiet := quiet, demand := next.link.demand, backlog := next.link.backlog,
    tx := (releaseTx (discardDemand (releaseLine s quiet))).link.tx } }
  rw [hdiscard]
  rfl

end Sent

/-! #### The frames of this station (R138, R177) -/

section Frames
variable {s : State} {g : SentFrame}

theorem addressByte_toNat {dest src : Nat} (hdest : dest < 16) (hsrc : src < 16) :
    (addressByte dest src).toNat = 16 * dest + src := by
  simp only [addressByte, byteOf, BitVec.toNat_ofNat]
  omega

/-- Every frame has this station as its source, and goes to the control station or to all (R138). -/
theorem sentFrame_addresses (h : s.sentFrame = some g) : g.source = s.number ∧ (g.dest = 14 ∨ g.dest = 15) := by
  unfold State.sentFrame at h
  split at h
  case h_1 => cases h; exact ⟨rfl, .inr rfl⟩
  case h_2 =>
    obtain ⟨f, -, rfl⟩ := Option.map_eq_some_iff.1 h
    exact ⟨rfl, .inr rfl⟩
  case h_3 => cases h; exact ⟨rfl, .inl rfl⟩
  case h_4 r _ => cases h; cases r <;> exact ⟨rfl, .inl rfl⟩
  case h_5 => cases h

theorem SentFrame.toRx_check (g : SentFrame) :
    g.toRx.check = checkOf (g.toRx.address :: g.kind :: be16 g.payload.length ++ g.payload) := by
  dsimp only [SentFrame.toRx, checkedBytes]

theorem sentQuiet_of_frame (h : s.sentFrame = some g) : s.sentQuiet = frameEndQuiet g.toRx := by
  rw [State.sentQuiet, h]

theorem sentFrame_report {r : Record} (hin : s.link.tx.inHand = some (.report r)) (h : s.sentFrame = some g) :
    g = r.frame s.number := by
  rw [State.sentFrame, hin] at h
  exact (Option.some.inj h).symm

/-- The flags byte of a label record, bit by bit. -/
theorem flagsByte_eq (light fieldClipped substituted truncated : Bool) :
    byteOf (flagBit light 0 + flagBit fieldClipped 1 + flagBit substituted 2 + flagBit truncated 3)
      = (if light then 1#8 else 0) ||| (if fieldClipped then 2#8 else 0) ||| (if substituted then 4#8 else 0)
        ||| (if truncated then 8#8 else 0) := by
  revert light fieldClipped substituted truncated
  decide

/-! The codes of section 12.3 in their bytes. -/

theorem outcomeByte_eq (o : LabelOutcome) : byteOf o.code = match o with
    | .printed => 1#8 | .light => 2#8 | .truncated => 3#8 | .voided => 4#8 | .missed => 5#8
    | .cancelled => 6#8 | .refused => 7#8 := by
  cases o <;> rfl

theorem reasonByte_eq (r : Option Reason) : byteOf (reasonCode r) = match r with
    | none => 0#8 | some .missed => 1#8 | some .missingObject => 2#8 | some .badForm => 3#8
    | some .badBars => 4#8 | some .notArmed => 5#8 | some .noJob => 6#8 | some .lateRow => 7#8
    | some .firedShort => 8#8 | some .hot => 9#8 | some .peerVoid => 10#8 | some .queueFull => 11#8
    | some .notSetUp => 12#8 := by
  rcases r with _ | r
  · rfl
  · cases r <;> rfl

theorem cmdByte_eq (c : StoreCmd) : byteOf c.code = match c with
    | .begin => 0x30#8 | .data => 0x31#8 | .stop => 0x32#8 | .delete => 0x33#8 := by
  cases c <;> rfl

theorem resultByte_eq (r : StoreResult) : byteOf r.code = match r with
    | .done => 1#8 | .badRequest => 2#8 | .inUse => 3#8 | .noSpace => 4#8 | .noWrite => 5#8 | .busy => 6#8
    | .notFound => 7#8 | .orderError => 8#8 | .checkMismatch => 9#8 | .abandoned => 10#8 | .failed => 11#8 := by
  cases r <;> rfl

theorem stateByte_eq (st : StationState) : byteOf st.code = match st with
    | .starting => 0#8 | .unset => 1#8 | .active => 2#8 | .outside => 3#8 := by
  cases st <;> rfl

/-- A temperature in its byte, in two's complement (R177). -/
theorem temperatureByte_toNat {t : Int} (hlow : -128 ≤ t) (hhigh : t ≤ 127) :
    (BitVec.ofInt 8 t).toNat = if 0 ≤ t then t.toNat else (t + 256).toNat := by
  rw [BitVec.toNat_ofInt]
  split <;> omega

end Frames

/-- Settles O56: the selection in its order, the end of a frame by its source, and the frames by their layouts. -/
theorem transmitAttempts : Obligations.TransmitAttempts := by
  refine ⟨fun s => exec_transmitOpportunity_ignored, fun s hstate hquiet hheld => ?_, fun s hs h hin => ?_,
    fun s g hnumber hg => ?_⟩
  · intro record attempt demandAttempt staleTo
    have hat : s.AtOpportunity := ⟨hstate, hquiet, hheld⟩
    refine ⟨fun hin => ⟨fun f rest hv => ?_, fun hv => ⟨fun f hf => ⟨fun k hk hstale hfresh => ?_, fun hstale => ?_⟩,
      fun hd => ?_⟩⟩, fun h hin hkind => ?_, fun v c x hin => ?_,
      fun f hin hf => ⟨fun k hk hstale hfresh => ?_, fun hstale => ?_⟩⟩
    · rw [exec_transmitOpportunity_select hat hin, selectFrame_of_void hv]
      rfl
    · rw [exec_transmitOpportunity_select hat hin, selectFrame_of_demand hv hf hk hstale hfresh]
      rfl
    · rw [exec_transmitOpportunity_select hat hin, selectFrame_of_stale hv hin hf hstale]
      exact (exec_transmitOpportunity_formed (u := { s with link := { s.link with demand := none } }) hat hin).symm
    · rw [exec_transmitOpportunity_select hat hin]
      obtain ⟨hcondition, hreport, hnothing⟩ := selectFrame_of_reports hv hd
      exact ⟨fun hp => congrArg _ (hcondition hp), fun hp r rest hq => congrArg _ (hreport hp r rest hq),
        fun hp hq => congrArg _ (hnothing hp hq)⟩
    · have hretry : retryFrame s h = s.attempting h s.link.tx.attempts := by
        rcases hkind with ⟨f, rfl⟩ | ⟨r, rfl⟩ <;> exact beginAttempt_of_ne (by simp) s _
      rw [exec_transmitOpportunity_retry hat hin, hretry]
      rfl
    · rw [exec_transmitOpportunity_retry hat hin]
      exact congrArg _ (beginAttempt_of_ne (h := s.conditionInHand) (by simp [State.conditionInHand]) s _)
    · rw [exec_transmitOpportunity_retry hat hin, retryFrame_demand hin hf hk hstale hfresh]
      rfl
    · rw [exec_transmitOpportunity_retry hat hin, retryFrame_of_stale hstate hin hf hstale]
      exact (exec_transmitOpportunity_formed (u := { s with link := { s.link with
        demand := none, tx := { s.link.tx with inHand := none, attempts := 0 } } }) hat rfl).symm
  · intro next
    let v := sentSource (releaseLine s s.sentQuiet) h
    refine ⟨releaseTx v, exec_frameSent hs hin, ?_, sentSource_quiet (releaseLine s s.sentQuiet) h, ?_, ?_, ?_, ?_⟩
    · rw [releaseTx_eq]
    · rintro f rfl
      rfl
    · rintro rfl
      have hquiet : (releaseTx v).link.quiet = s.sentQuiet := sentSource_quiet (releaseLine s s.sentQuiet) .demand
      rw [hquiet]
      exact sentSource_demand s s.sentQuiet
    · rintro w c x rfl
      rfl
    · rintro r rfl
      rfl
  · obtain ⟨hsource, hdest⟩ := sentFrame_addresses hg
    refine ⟨hsource, ?_, rfl, rfl, SentFrame.toRx_check g, sentQuiet_of_frame hg, fun f hin => ?_, fun f hin hf => ?_,
      fun v c x hin => ?_, fun q hin => ?_, fun q hin => ?_, fun q hin hst hlow hhigh => ?_⟩
    · rw [← hsource]
      exact addressByte_toNat (by omega) (by omega)
    · rw [State.sentFrame, hin] at hg
      cases hg
      exact ⟨rfl, rfl, rfl⟩
    · rw [State.sentFrame, hin, hf] at hg
      cases hg
      exact ⟨rfl, rfl, rfl⟩
    · rw [State.sentFrame, hin] at hg
      cases hg
      exact ⟨rfl, rfl, rfl⟩
    · obtain rfl := sentFrame_report hin hg
      refine ⟨rfl, rfl, ?_⟩
      show 2#8 :: encodeLabelRecord q = _
      rw [encodeLabelRecord, outcomeByte_eq, reasonByte_eq, flagsByte_eq]
      rfl
    · obtain rfl := sentFrame_report hin hg
      refine ⟨rfl, rfl, ?_⟩
      show 3#8 :: encodeStoreRecord q = _
      rw [encodeStoreRecord, cmdByte_eq, resultByte_eq]
      rfl
    · obtain rfl := sentFrame_report hin hg
      refine ⟨rfl, rfl, BitVec.ofInt 8 q.t, temperatureByte_toNat hlow hhigh, ?_⟩
      show encodeIdent q = _
      rw [encodeIdent, stateByte_eq]
      rfl

end Sys2Proof.Machine

/-! ### Collision, backoff and giving up (O57) -/

namespace Sys2Proof.Machine

/-! #### The collision (R107, R141) -/

section Collision
variable {s : State} {f : DemandFrame}

/-- The state that jams after a collision, its attempt counted (R141). -/
def State.collided (s : State) (sinceEdge : Nat) : State := { s with link := { s.link with
  quiet := sinceEdge, counts := { s.link.counts with collisions := min (s.link.counts.collisions + 1) 65535 },
  tx := { s.link.tx with state := .jamming, attempts := s.link.tx.attempts + 1 } } }

theorem State.collided_isStale (s : State) (sinceEdge seq row : Nat) :
    (s.collided sinceEdge).isStale seq row = s.isStale seq row :=
  State.isStale_congr_ctx rfl (fun j => by cases j <;> rfl) seq row

theorem exec_collision_kept (hs : s.link.tx.state = .sending)
    (h : s.link.tx.inHand ≠ some .demand ∨ 12 ≤ s.link.tx.attempts + 1) (sinceEdge : BitVec 4) :
    exec (.collision sinceEdge) s = .next (s.collided sinceEdge.toNat) := by
  have hno : ¬(s.link.tx.inHand = some .demand ∧ s.link.tx.attempts + 1 < Config.attemptLimit) := by
    rw [Config.attemptLimit, not_and_or, Nat.not_lt]
    exact h
  show Host.Outcome.next (collide sinceEdge.toNat s) = _
  rw [collide, if_pos hs]
  exact congrArg _ (if_neg hno)

theorem exec_collision_demand (hs : s.link.tx.state = .sending) (hin : s.link.tx.inHand = some .demand)
    (hlt : s.link.tx.attempts + 1 < 12) (sinceEdge : BitVec 4) :
    exec (.collision sinceEdge) s = .next (demandCollided (s.collided sinceEdge.toNat)) := by
  show Host.Outcome.next (collide sinceEdge.toNat s) = _
  rw [collide, if_pos hs]
  exact congrArg _ (if_pos ⟨hin, hlt⟩)

theorem freezeDemand_isStale (s : State) (v : Bool) (seq row : Nat) :
    (freezeDemand s v).isStale seq row = s.isStale seq row :=
  State.isStale_congr_ctx (by simp) (by simp) seq row

theorem freezeDemand_demand (h : s.link.demand = some f) (v : Bool) :
    (freezeDemand s v).link.demand = some { f with frozen := v } := by
  simp [freezeDemand, h]

/-- The frame in hand keeps its rows from the first fresh one, and takes the entries that follow (R107). -/
theorem demandCollided_of_row {k : Nat} (hin : s.link.tx.inHand = some .demand) (h : s.link.demand = some f)
    (hk : k < f.demands.length) (hstale : ∀ j, j < k → s.isStale f.seq (f.first + j) = true)
    (hfresh : s.isStale f.seq (f.first + k) = false) :
    let g := gatherDemands f.seq (f.first + k) (f.demands.drop k) s.link.backlog
    demandCollided s = { s with link := { s.link with
      demand := some { f with first := f.first + k, demands := g.1, frozen := false }, backlog := g.2 } } := by
  intro g
  have htrim := trimDemand_of_row (k := k) (freezeDemand_demand h false) hk
    (by simpa only [freezeDemand_isStale] using hstale) (by rw [freezeDemand_isStale]; exact hfresh)
  unfold demandCollided
  rw [htrim]
  exact if_pos hin

/-- A frame in hand that the collision finds stale is discarded, and the next is formed (R105, R107). -/
theorem demandCollided_of_stale (hin : s.link.tx.inHand = some .demand) (hs : s.link.tx.state = .jamming)
    (h : s.link.demand = some f) (hstale : ∀ j, j < f.demands.length → s.isStale f.seq (f.first + j) = true) :
    demandCollided s = formDemand { s with link := { s.link with
      demand := none, tx := { s.link.tx with inHand := none } } } := by
  let u : State := { s with link := { s.link with demand := none, tx := { s.link.tx with inHand := none } } }
  have hdrop : (freezeDemand s false).link.tx.dropDemand = { s.link.tx with inHand := none } := by
    simp [freezeDemand, Tx.dropDemand, hin, hs]
  have htrim : trimDemand (freezeDemand s false) = formDemand u := by
    rw [trimDemand_of_stale (freezeDemand_demand h false) (by simpa only [freezeDemand_isStale] using hstale),
      discardDemand, hdrop]
    rfl
  have hnone : ¬(formDemand u).link.tx.inHand = some .demand := by
    rw [formDemand_tx (by simp [u, hs])]
    simp [u]
  unfold demandCollided
  rw [htrim]
  exact if_neg hnone

end Collision

/-! #### The end of the jam (R136, R142, R143) -/

/-- The wait drawn lies in 0..31 slots, and in less after fewer collisions (R142). -/
theorem drawWait_lt (r n : Nat) : drawWait (nextRandom r) n < 2 ^ min n 5 := by
  have hrandom : nextRandom r < 65536 := Nat.mod_lt _ (by decide)
  refine Nat.div_lt_of_lt_mul ?_
  rw [← Nat.pow_add, Nat.sub_add_cancel ((min_le_right n 5).trans (by decide))]
  exact hrandom

section JamEnd
variable {s : State} {h : InHand}

theorem exec_jamEnd_draw (hs : s.link.tx.state = .jamming) (h : s.link.tx.inHand = none ∨ s.link.tx.attempts < 12)
    (held : Bool) : exec (.jamEnd held) s = .next (drawBackoff (releaseJam held s)) := by
  show Host.Outcome.next (jamEnd held s) = _
  rw [jamEnd, if_pos hs]
  cases hin : s.link.tx.inHand with
  | none =>
    have hin' : (releaseJam held s).link.tx.inHand = none := hin
    simp only [hin']
  | some i =>
    have hin' : (releaseJam held s).link.tx.inHand = some i := hin
    have hlt : s.link.tx.attempts < 12 := by simpa [hin] using h
    simp only [hin']
    exact congrArg _ (if_neg (Nat.not_le.2 hlt))

/-- With the frame discarded no frame is in hand after the draw (log 12). -/
theorem drawBackoff_of_none (h : s.link.tx.inHand = none) :
    let k := drawWait (nextRandom s.link.rng) s.link.tx.attempts
    drawBackoff s = { s with link := { s.link with
      rng := nextRandom s.link.rng,
      tx := { state := if k = 0 then .deferring else .backingOff k, inHand := none, attempts := 0 } } } := by
  simp [drawBackoff, h, State.setLink]

theorem drawBackoff_of_some (hin : s.link.tx.inHand = some h) :
    let k := drawWait (nextRandom s.link.rng) s.link.tx.attempts
    drawBackoff s = { s with link := { s.link with
      rng := nextRandom s.link.rng,
      tx := { s.link.tx with state := if k = 0 then .deferring else .backingOff k } } } := by
  simp [drawBackoff, hin, State.setLink]

theorem exec_jamEnd_giveUp (hs : s.link.tx.state = .jamming) (hin : s.link.tx.inHand = some h)
    (hlimit : 12 ≤ s.link.tx.attempts) (held : Bool) :
    exec (.jamEnd held) s = .next (giveUp (releaseJam held s) h) := by
  have hin' : (releaseJam held s).link.tx.inHand = some h := hin
  show Host.Outcome.next (jamEnd held s) = _
  rw [jamEnd, if_pos hs]
  simp only [hin']
  exact congrArg _ (if_pos hlimit)

theorem giveUpSource_demand (s : State) : giveUpSource s .demand = discardDemand s := rfl

theorem giveUpSource_report (s : State) (q : Record) :
    giveUpSource s (.report q) = setCond (popReport s) .reportsDropped true := rfl

/-- The giving up of a frame reaches the transmitter's sources alone (table of R143). -/
theorem giveUpSource_link (s : State) (h : InHand) : (giveUpSource s h).link = { s.link with
    voidQueue := (giveUpSource s h).link.voidQueue, demand := (giveUpSource s h).link.demand,
    backlog := (giveUpSource s h).link.backlog, tx := (giveUpSource s h).link.tx } := by
  cases h
  case void => rfl
  case demand =>
    have hlink := discardDemand_onlyDemand s
    rw [giveUpSource_demand, hlink]
  case condition => rfl
  case report q =>
    rw [giveUpSource_report, setCond_link]
    rfl

/-- Only a VOID leaves the VOID queue. -/
theorem giveUpSource_voidQueue (s : State) (h : InHand) :
    (giveUpSource s h).link.voidQueue = match h with | .void _ => s.link.voidQueue.tail | _ => s.link.voidQueue := by
  cases h
  case demand => exact (discardDemand_onlyDemand s).voidQueue
  case report => exact (setCond_onlyTx (popReport s) .reportsDropped true).voidQueue
  all_goals rfl

/-- A frame other than a DEMAND leaves the pending frame and the backlog as they are. -/
theorem giveUpSource_of_ne_demand (hne : h ≠ .demand) (s : State) :
    (giveUpSource s h).link.demand = s.link.demand ∧ (giveUpSource s h).link.backlog = s.link.backlog := by
  cases h
  case demand => exact absurd rfl hne
  case report =>
    rw [giveUpSource_report, setCond_link]
    exact ⟨rfl, rfl⟩
  all_goals exact ⟨rfl, rfl⟩

/-- A frame other than a report record leaves the report unit as it is. -/
theorem giveUpSource_of_ne_report (hne : ∀ q, h ≠ .report q) (s : State) : (giveUpSource s h).report = s.report := by
  cases h
  case report q => exact absurd rfl (hne q)
  case demand => simp [giveUpSource_demand]
  all_goals rfl

/-- A frame given up is counted, and beside its source and the transmitter nothing follows the jam's end (R143). -/
theorem giveUp_eq (s : State) (h : InHand) (held : Bool) :
    let t := giveUp (releaseJam held s) h
    t = { s with report := t.report, link := { s.link with
      quiet := if held then min 24 (s.link.quiet + 17) else 0, held := held, tx := t.link.tx,
      voidQueue := t.link.voidQueue, demand := t.link.demand, backlog := t.link.backlog,
      counts := { s.link.counts with excessive := min (s.link.counts.excessive + 1) 65535 } } } := by
  intro t
  let u := countExcessive (releaseJam held s)
  have hlink : t.link = { (giveUpSource u h).link with tx := t.link.tx } := rfl
  apply State.ext
  case link =>
    rw [hlink, giveUpSource_link]
    rfl
  all_goals simp [t]

end JamEnd

/-- Settles O57: the jam with what it makes of a DEMAND in hand, the draw or the giving up at its end, and the wait. -/
theorem collisions : Obligations.Collisions := by
  refine ⟨fun s sinceEdge hs => ?_, fun s held hs => ?_, fun s k hs => ?_⟩
  · intro hit
    refine ⟨fun h => exec_collision_kept hs h sinceEdge, fun f hin hf hlt =>
      ⟨fun k hk hstale hfresh => ?_, fun hstale => ?_⟩⟩
    · rw [exec_collision_demand hs hin hlt]
      exact congrArg _ (demandCollided_of_row (s := s.collided sinceEdge.toNat) hin hf hk
        (by simpa only [State.collided_isStale] using hstale) (by rw [State.collided_isStale]; exact hfresh))
    · rw [exec_collision_demand hs hin hlt]
      exact congrArg _ (demandCollided_of_stale (s := s.collided sinceEdge.toNat) hin rfl hf
        (by simpa only [State.collided_isStale] using hstale))
  · intro quiet r k
    refine ⟨drawWait_lt s.link.rng s.link.tx.attempts, fun hin => ?_, fun h hin => ⟨fun hlt => ?_, fun hlimit => ?_⟩⟩
    · rw [exec_jamEnd_draw hs (.inl hin)]
      exact congrArg _ (drawBackoff_of_none (s := releaseJam held s) hin)
    · rw [exec_jamEnd_draw hs (.inr hlt)]
      exact congrArg _ (drawBackoff_of_some (s := releaseJam held s) hin)
    · let u := countExcessive (releaseJam held s)
      let t := giveUp (releaseJam held s) h
      have htx : t.link.tx = _ := congrArg (fun v : State => v.link.tx) (releaseTx_eq (giveUpSource u h))
      refine ⟨t, exec_jamEnd_giveUp hs hin hlimit held, by rw [htx], by rw [htx], by rw [htx]; rfl, giveUp_eq s h held,
        giveUpSource_voidQueue u h, ?_, fun hne => giveUpSource_of_ne_demand hne u,
        fun hne => giveUpSource_of_ne_report hne u, ?_⟩
      · rintro rfl
        have hdiscard := discardDemand_eq (s := s) (u := u) rfl fun seq row =>
          State.isStale_congr_ctx rfl (fun j => by cases j <;> rfl) seq row
        show (discardDemand u).link.demand = _ ∧ (discardDemand u).link.backlog = _
        rw [hdiscard]
        exact ⟨rfl, rfl⟩
      · rintro q rfl
        exact ⟨setCond_queue (popReport u) _ _, setCond_isIn_same (popReport u) _ _⟩
  · show Host.Outcome.next (backoffEnd s) = _
    rw [backoffEnd, hs]
    rfl

end Sys2Proof.Machine

/-! ### The commands beside the labels: what they leave, shared by O12 and O13 -/

namespace Sys2Proof.Machine

/-! #### The ranges of the link, and its label traffic -/

/-- The five link counts hold at 65535 (R150). -/
def Counts.InRange (c : Counts) : Prop :=
  c.badFrames ≤ 65535 ∧ c.collisions ≤ 65535 ∧ c.excessive ≤ 65535 ∧ c.dropped ≤ 65535 ∧ c.stale ≤ 65535

/-- The quiet count, the random source and the counts keep their ranges (R136, R142, R150). -/
def Link.InRange (l : Link) : Prop := l.quiet ≤ 24 ∧ l.rng < 65536 ∧ l.counts.InRange

/-- The link holds no VOID and no demand of a label (R103, R139). -/
def Link.LabelFree (l : Link) : Prop := l.voidQueue = [] ∧ l.demand = none ∧ l.backlog = []

/-- From `l` to `m` the ranges carry over, and so does the absence of label traffic. -/
def Link.Keeps (l m : Link) : Prop := (l.InRange → m.InRange) ∧ (l.LabelFree → m.LabelFree)

theorem bump_le (n : Nat) : bump n ≤ 65535 := Nat.min_le_right _ _

section LinkKeeps
variable {l m : Link} {s : State}

theorem Link.Keeps.refl (l : Link) : l.Keeps l := ⟨id, id⟩

theorem Link.Keeps.trans {n : Link} (h : l.Keeps m) (h' : m.Keeps n) : l.Keeps n := ⟨h'.1 ∘ h.1, h'.2 ∘ h.2⟩

theorem Link.OnlyTx.keeps (h : l.OnlyTx m) : l.Keeps m := by
  rw [h]
  exact ⟨id, id⟩

theorem Link.OnlyTx.inRange (h : l.OnlyTx m) (hl : l.InRange) : m.InRange := h.keeps.1 hl

theorem Link.OnlyDemand.inRange (h : l.OnlyDemand m) (hl : l.InRange) : m.InRange := by
  rw [h]
  exact hl

/-- New counts in their ranges, with the rest of the link. -/
theorem Link.InRange.withCounts (h : l.InRange) {c : Counts} (hc : c.InRange) : ({ l with counts := c } : Link).InRange := by
  obtain ⟨hquiet, hrng, -⟩ := h
  exact ⟨hquiet, hrng, hc⟩

/-- A new quiet count in its range, with the rest of the link. -/
theorem Link.InRange.withQuiet (h : l.InRange) {q : Nat} (hq : q ≤ 24) : ({ l with quiet := q } : Link).InRange := by
  obtain ⟨-, hrest⟩ := h
  exact ⟨hq, hrest⟩

/-! #### The counts (R150) -/

theorem countBad_linkKeeps (h : l.Keeps s.link) : l.Keeps (countBad s).link :=
  h.trans ⟨fun hl => by
    obtain ⟨hquiet, hrng, -, hrest⟩ := hl
    exact ⟨hquiet, hrng, bump_le _, hrest⟩, id⟩

theorem countStale_linkKeeps (h : l.Keeps s.link) : l.Keeps (countStale s).link :=
  h.trans ⟨fun hl => by
    obtain ⟨hquiet, hrng, hbad, hcollisions, hexcessive, hdropped, -⟩ := hl
    exact ⟨hquiet, hrng, hbad, hcollisions, hexcessive, hdropped, bump_le _⟩, id⟩

theorem countExcessive_linkKeeps (h : l.Keeps s.link) : l.Keeps (countExcessive s).link :=
  h.trans ⟨fun hl => by
    obtain ⟨hquiet, hrng, hbad, hcollisions, -, hrest⟩ := hl
    exact ⟨hquiet, hrng, hbad, hcollisions, bump_le _, hrest⟩, id⟩

theorem setCond_linkKeeps (h : l.Keeps s.link) (c : Cond) (v : Bool) : l.Keeps (setCond s c v).link :=
  h.trans (setCond_onlyTx s c v).keeps

theorem countDropped_linkKeeps (h : l.Keeps s.link) : l.Keeps (countDropped s).link := by
  have hcount : l.Keeps { s.link with counts := { s.link.counts with dropped := bump s.link.counts.dropped } } := by
    refine h.trans ⟨fun hl => ?_, id⟩
    obtain ⟨hquiet, hrng, hbad, hcollisions, hexcessive, -, hstale⟩ := hl
    exact ⟨hquiet, hrng, hbad, hcollisions, hexcessive, bump_le _, hstale⟩
  exact setCond_linkKeeps (s := s.setLink _) hcount _ _

theorem clearCounts_linkKeeps (h : l.Keeps s.link) : l.Keeps (clearCounts s).link :=
  h.trans ⟨fun hl => hl.withCounts (by simp [Counts.InRange, Counts.zero]), id⟩

theorem clearSticky_linkKeeps (h : l.Keeps s.link) : l.Keeps (clearSticky s).link :=
  setCond_linkKeeps (setCond_linkKeeps (setCond_linkKeeps (setCond_linkKeeps h _ _) _ _) _ _) _ _

theorem pushRecord_linkKeeps (h : l.Keeps s.link) (r : Record) : l.Keeps (pushRecord s r).link :=
  h.trans (pushRecord_onlyTx s r).keeps

/-! #### The receiver (R136, R146 to R149) -/

/-- Moves of the receiver and of the quiet count, which no edge takes past 24 (R136). -/
theorem setQuiet_linkKeeps (h : l.Keeps s.link) (r : Receiver) (held : Bool) {q : Nat} (hq : q ≤ 24) :
    l.Keeps { s.link with receiver := r, held := held, quiet := q } :=
  h.trans ⟨fun ⟨_, hrest⟩ => ⟨hq, hrest⟩, id⟩

theorem setReceiver_linkKeeps (h : l.Keeps s.link) (r : Receiver) {q : Nat} (hq : q ≤ 24) :
    l.Keeps (setReceiver s r q).link := setQuiet_linkKeeps h r s.link.held hq

theorem badFrame_linkKeeps (h : l.Keeps s.link) : l.Keeps (badFrame s).link := by
  unfold badFrame
  split
  · exact h
  · exact countBad_linkKeeps h

theorem errorQuiet_le (e : RxError) : errorQuiet e ≤ 24 := by
  cases e with
  | badDelimiter sinceEdge => exact Nat.le_trans (Nat.le_of_lt sinceEdge.isLt) (by decide)
  | lengthAbove480 sinceEdge => exact Nat.le_trans (Nat.le_of_lt sinceEdge.isLt) (by decide)
  | stuffDominant => decide
  | stuffRecessive => decide

theorem receiveError_linkKeeps (e : RxError) : s.link.Keeps (receiveError s e).link := by
  have hquiet : s.link.Keeps (setReceiver s .ignoring (errorQuiet e)).link :=
    setReceiver_linkKeeps (.refl _) _ (errorQuiet_le e)
  unfold receiveError
  split
  · cases e with
    | stuffDominant => exact hquiet
    | badDelimiter => exact badFrame_linkKeeps hquiet
    | stuffRecessive => exact badFrame_linkKeeps hquiet
    | lengthAbove480 => exact badFrame_linkKeeps hquiet
  · exact .refl _

theorem lineQuiet_linkKeeps : s.link.Keeps (lineQuiet s).link := by
  have hquiet : s.link.Keeps (s.setLink { s.link with
      receiver := .ready, held := false, quiet := if s.link.held then 16 else max s.link.quiet 16 }).link := by
    refine ⟨fun ⟨hle, hrest⟩ => ⟨?_, hrest⟩, id⟩
    show (if s.link.held then 16 else max s.link.quiet 16) ≤ 24
    split
    · decide
    · exact max_le hle (by decide)
  unfold lineQuiet
  split
  · exact .refl _
  · dsimp only
    split
    · exact badFrame_linkKeeps hquiet
    · exact hquiet

theorem frameBegins_linkKeeps : s.link.Keeps (frameBegins s).link := by
  unfold frameBegins
  split
  · exact .refl _
  · exact setQuiet_linkKeeps (.refl _) _ _ (Nat.zero_le _)

theorem enqueueCommand_linkKeeps (h : l.Keeps s.link) (f : CommandFrame) : l.Keeps (enqueueCommand s f).link := by
  unfold enqueueCommand
  split
  · exact h
  · exact countDropped_linkKeeps h

theorem enqueueStore_linkKeeps (h : l.Keeps s.link) (f : StoreFrame) : l.Keeps (enqueueStore s f).link := by
  unfold enqueueStore
  split
  · exact h
  · exact countDropped_linkKeeps h

/-- Time that passes moves the quiet count, which holds at 24 (R136). -/
theorem passTime_linkKeeps (dt : Nat) (s : State) : s.link.Keeps (passTime dt s).link := by
  unfold passTime
  dsimp only
  split
  · exact .refl _
  · exact setQuiet_linkKeeps (.refl _) s.link.receiver s.link.held (quietAfter_le _)

/-! #### The transmitter (R140 to R144) -/

theorem discardDemand_linkKeeps (h : l.Keeps s.link) : l.Keeps (discardDemand s).link := by
  refine h.trans ⟨(discardDemand_onlyDemand s).inRange, fun ⟨hvoid, _, hback⟩ => ?_⟩
  have hform : (discardDemand s).link.demand = none ∧ (discardDemand s).link.backlog = [] := by
    simp [discardDemand, formDemand, State.freshEntries, hback]
  exact ⟨(discardDemand_onlyDemand s).voidQueue.trans hvoid, hform⟩

theorem trimDemand_linkKeeps (h : l.Keeps s.link) : l.Keeps (trimDemand s).link := by
  refine h.trans ⟨(trimDemand_onlyDemand s).inRange, fun hfree => ?_⟩
  have ⟨_, hdemand, _⟩ := hfree
  rwa [trimDemand_of_none hdemand]

theorem freezeDemand_linkKeeps (h : l.Keeps s.link) (v : Bool) : l.Keeps (freezeDemand s v).link :=
  h.trans ⟨id, fun ⟨hvoid, hdemand, hback⟩ => ⟨hvoid, by simp [freezeDemand, hdemand], hback⟩⟩

theorem beginAttempt_linkKeeps (h : l.Keeps s.link) (x : InHand) (n : Nat) : l.Keeps (beginAttempt s x n).link := by
  have hsend : ∀ v : State, l.Keeps v.link →
      l.Keeps { v.link with quiet := 0, tx := { state := .sending, inHand := some x, attempts := n } } :=
    fun v hv => hv.trans ⟨fun ⟨_, hrest⟩ => ⟨Nat.zero_le _, hrest⟩, id⟩
  unfold beginAttempt
  dsimp only
  split
  · exact hsend _ (freezeDemand_linkKeeps h true)
  · exact hsend _ h

theorem selectFrame_linkKeeps (h : l.Keeps s.link) : l.Keeps (selectFrame s).link := by
  have htrim : l.Keeps (if s.link.voidQueue = [] then trimDemand s else s).link := by
    split
    · exact trimDemand_linkKeeps h
    · exact h
  unfold selectFrame
  dsimp only
  split
  · exact beginAttempt_linkKeeps htrim _ _
  · exact htrim

theorem retryFrame_linkKeeps (h : l.Keeps s.link) (x : InHand) : l.Keeps (retryFrame s x).link := by
  cases x with
  | demand =>
    unfold retryFrame
    dsimp only
    split
    · exact beginAttempt_linkKeeps (trimDemand_linkKeeps h) _ _
    · exact selectFrame_linkKeeps (trimDemand_linkKeeps h)
  | void | condition | report => exact beginAttempt_linkKeeps h _ _

theorem transmitOpportunity_linkKeeps : s.link.Keeps (transmitOpportunity s).link := by
  unfold transmitOpportunity
  split
  · split
    · exact retryFrame_linkKeeps (.refl _) _
    · exact selectFrame_linkKeeps (.refl _)
  · exact .refl _

theorem refillDemand_linkKeeps (h : l.Keeps s.link) : l.Keeps (refillDemand s).link := by
  unfold refillDemand
  split
  · rename_i f hf
    refine h.trans ⟨id, fun ⟨_, hdemand, _⟩ => ?_⟩
    simp [hf] at hdemand
  · exact h

theorem collide_linkKeeps {n : Nat} (hn : n ≤ 24) : s.link.Keeps (collide n s).link := by
  have hjam : ∀ x : Tx, s.link.Keeps { s.link with quiet := n, tx := x, counts :=
      { s.link.counts with collisions := bump s.link.counts.collisions } } := fun x => by
    refine ⟨fun hl => ?_, id⟩
    obtain ⟨-, hrng, hbad, -, hrest⟩ := hl
    exact ⟨hn, hrng, hbad, bump_le _, hrest⟩
  unfold collide
  dsimp only
  split
  · split
    · unfold demandCollided
      dsimp only
      split
      · exact refillDemand_linkKeeps (trimDemand_linkKeeps (freezeDemand_linkKeeps (hjam _) _))
      · exact trimDemand_linkKeeps (freezeDemand_linkKeeps (hjam _) _)
    · exact hjam _
  · exact .refl _

theorem popVoid_linkKeeps (h : l.Keeps s.link) : l.Keeps (popVoid s).link :=
  h.trans ⟨id, fun ⟨hvoid, hrest⟩ => ⟨by simp [popVoid, hvoid], hrest⟩⟩

theorem giveUp_linkKeeps (h : l.Keeps s.link) (x : InHand) : l.Keeps (giveUp s x).link := by
  have hcount := countExcessive_linkKeeps h
  show l.Keeps (giveUpSource (countExcessive s) x).link
  cases x with
  | void => exact popVoid_linkKeeps hcount
  | demand => exact discardDemand_linkKeeps hcount
  | condition => exact hcount
  | report => exact setCond_linkKeeps (s := popReport (countExcessive s)) hcount _ _

/-- The random source is a 16-bit one (R142). -/
theorem drawBackoff_linkKeeps (h : l.Keeps s.link) : l.Keeps (drawBackoff s).link := by
  refine h.trans ⟨fun hl => ?_, id⟩
  obtain ⟨hquiet, -, hcounts⟩ := hl
  exact ⟨hquiet, Nat.mod_lt _ (by decide), hcounts⟩

theorem jamEnd_linkKeeps (held : Bool) : s.link.Keeps (jamEnd held s).link := by
  have hrelease : s.link.Keeps (releaseJam held s).link := by
    refine setQuiet_linkKeeps (.refl _) s.link.receiver held ?_
    split
    · exact Nat.min_le_left _ _
    · exact Nat.zero_le _
  unfold jamEnd
  dsimp only
  split
  · split
    · split
      · exact giveUp_linkKeeps hrelease _
      · exact drawBackoff_linkKeeps hrelease
    · exact drawBackoff_linkKeeps hrelease
  · exact .refl _

theorem sentSource_linkKeeps (h : l.Keeps s.link) (x : InHand) : l.Keeps (sentSource s x).link := by
  cases x with
  | void => exact popVoid_linkKeeps h
  | demand => exact discardDemand_linkKeeps h
  | condition => exact h
  | report => exact h

theorem frameEndQuiet_le (f : RxFrame) : frameEndQuiet f ≤ 24 := Nat.min_le_left _ _

theorem sentQuiet_le (s : State) : s.sentQuiet ≤ 24 := by
  unfold State.sentQuiet
  split
  · exact frameEndQuiet_le _
  · exact Nat.zero_le _

theorem backoffEnd_linkKeeps : s.link.Keeps (backoffEnd s).link := by
  unfold backoffEnd
  split <;> exact .refl _

theorem frameSent_linkKeeps : s.link.Keeps (frameSent s).link := by
  have hline : s.link.Keeps (releaseLine s s.sentQuiet).link :=
    setQuiet_linkKeeps (.refl _) s.link.receiver s.link.held (sentQuiet_le s)
  unfold frameSent
  dsimp only
  split
  · split
    · exact sentSource_linkKeeps hline _
    · exact hline
  · exact .refl _

/-! #### The store controller (R156) -/

theorem takeStoreBegin_onlyTx (s : State) (number kind len : Nat) :
    s.link.OnlyTx (takeStoreBegin s number kind len).link := by
  have habandon : s.link.OnlyTx (abandonForBegin s).link := by
    unfold abandonForBegin
    split
    · exact storeRecord_onlyTx rfl ..
    · exact .refl _
  have hrecord : ∀ result, s.link.OnlyTx (storeRecord (abandonForBegin s) .begin number result 0 0).link :=
    fun _ => habandon.trans (storeRecord_onlyTx rfl ..)
  unfold takeStoreBegin
  dsimp only
  split
  · exact hrecord _
  · split
    · split
      · exact hrecord _
      · split
        · exact hrecord _
        · exact habandon
    · exact hrecord _

theorem takeStoreData_onlyTx (s : State) (offset : Nat) (bytes : List Byte) :
    s.link.OnlyTx (takeStoreData s offset bytes).link := by
  unfold takeStoreData
  split
  · exact storeRecord_onlyTx rfl ..
  · split
    · exact .refl _
    · exact storeRecord_onlyTx rfl ..

theorem takeStoreEnd_onlyTx (s : State) (check : Check) : s.link.OnlyTx (takeStoreEnd s check).link := by
  unfold takeStoreEnd
  split
  · exact storeRecord_onlyTx rfl ..
  · split
    · split
      · exact storeRecord_onlyTx rfl ..
      · exact .refl _
    · exact storeRecord_onlyTx rfl ..

theorem takeStoreDelete_onlyTx (s : State) (number : Nat) : s.link.OnlyTx (takeStoreDelete s number).link := by
  unfold takeStoreDelete
  split
  · exact storeRecord_onlyTx rfl ..
  · split
    · exact storeRecord_onlyTx rfl ..
    · split
      · exact storeRecord_onlyTx rfl ..
      · exact .refl _

/-- Of the link the taking of a store command reaches the transmitter alone, by the record that it may hand on. -/
theorem takeStoreFrame_onlyTx (s : State) (f : StoreFrame) : s.link.OnlyTx (takeStoreFrame s f).link := by
  cases f with
  | begin => exact takeStoreBegin_onlyTx ..
  | data => exact takeStoreData_onlyTx ..
  | stop => exact takeStoreEnd_onlyTx ..
  | delete => exact takeStoreDelete_onlyTx ..

theorem takeNextStore_linkKeeps (h : l.Keeps s.link) : l.Keeps (takeNextStore s).link := by
  unfold takeNextStore
  split
  · exact Link.Keeps.trans (m := (popStore s).link) h (takeStoreFrame_onlyTx _ _).keeps
  · exact h

theorem takeStoreHead_linkKeeps (cmd : StoreCmd) : s.link.Keeps (takeStoreHead s cmd).link := by
  unfold takeStoreHead
  split
  · exact takeNextStore_linkKeeps (.refl _)
  · exact .refl _

theorem TakesEffect.linkKeeps {u v : State} (e : TakesEffect u v) (h : l.Keeps u.link) : l.Keeps v.link := by
  rw [e.frame]
  exact h

theorem endServing_linkKeeps (h : l.Keeps s.link) : l.Keeps (endServing s).link :=
  takeNextStore_linkKeeps (by simpa using h)

theorem continueServing_linkKeeps (h : l.Keeps s.link) : l.Keeps (continueServing s).link := by
  unfold continueServing
  split
  · exact h
  · split
    · exact endServing_linkKeeps ((completeServing_takesEffect s _).linkKeeps h)
    · exact h

end LinkKeeps

end Sys2Proof.Machine

/-! ### The commands that do not reach the labels, the row in flight or the monitor -/

namespace Sys2Proof.Machine

/-- The command may reach the labels, the row in flight, the row timer or the monitor, or move the station's state. The
others are those of the receiver between frames, of the transmitter, of the store, and of the report unit. -/
def reachesLabels : Instr → Bool
  | .coldStart _ _ | .scanComplete | .rowPulse _ | .topOfForm | .frameAccepted _ | .demand _ _ _ _ _ | .void _ _ _ _
  | .setup | .job | .cancel | .cancelAll | .loadComplete | .renderComplete | .dataLoadComplete | .latchComplete
  | .mainPulseComplete | .boostPulseComplete | .conversionComplete _ => true
  | .slwHoldExpiry | .frameReceiveError _ | .lineQuiet | .query | .clear | .storeBegin | .storeData | .storeEnd
  | .storeDelete | .sectorEraseComplete | .lineProgramComplete | .markProgramComplete | .operationFailed
  | .minimumRunComplete | .suspendComplete | .transmitOpportunity | .collision _ | .jamEnd _ | .backoffEnd | .frameSent
  | .frameBegins | .storeReadRequest _ _ => false

/-- From `s` to `t` the blocks of the labels, of the row in flight and of the monitor stay. -/
def BlocksStay (s t : State) : Prop :=
  t.station = s.station ∧ t.number = s.number ∧ t.seq = s.seq ∧ t.ctxA = s.ctxA ∧ t.ctxB = s.ctxB
  ∧ t.raster = s.raster ∧ t.ring = s.ring ∧ t.timer = s.timer ∧ t.plan = s.plan ∧ t.head = s.head
  ∧ t.thermal = s.thermal ∧ t.peers = s.peers

/-- From `s` to `t` those blocks stay, an idle loader stays idle, and the link keeps its ranges and brings no label
traffic. -/
structure BesideLabels (s t : State) : Prop where
  blocks : BlocksStay s t
  loader : s.loader = none → t.loader = none
  link   : s.link.Keeps t.link

section Beside
variable {s t : State}

theorem BesideLabels.refl (s : State) : BesideLabels s s := ⟨by simp [BlocksStay], id, .refl _⟩

theorem setStore_beside (st : Store) : BesideLabels s (s.setStore st) := ⟨by simp [BlocksStay], id, .refl _⟩

/-- The store controller serves an idle loader nothing (R164, R165). -/
theorem serveReads_loader_of_none (h : s.loader = none) : (serveReads s).loader = none := by
  rw [serveReads_loader, serveLoaderRead_of_not_read (by simp [h]), ite_self, h]

theorem serveWaitingLookup_of_none (h : s.loader = none) : serveWaitingLookup s = s := by
  simp [serveWaitingLookup, h]

theorem endServing_loader_of_none (h : s.loader = none) : (endServing s).loader = none := by
  have hserve : serveWaitingLookup (s.setStore { s.store with serving := none, due := [] }) = _ :=
    serveWaitingLookup_of_none h
  rw [endServing, hserve]
  simpa using h

theorem completeServing_loader_of_none (h : s.loader = none) (sv : Serving) : (completeServing s sv).loader = none := by
  unfold completeServing
  split <;> simp [forgetFound_loader, h]

theorem failServing_loader_of_none (h : s.loader = none) (sv : Serving) (op : StoreOp) :
    (failServing s sv op).loader = none := by
  unfold failServing
  split <;> simp [completeServing_loader_of_none, h]

theorem continueServing_loader_of_none (h : s.loader = none) : (continueServing s).loader = none := by
  unfold continueServing
  split
  · exact h
  · split
    · exact endServing_loader_of_none (completeServing_loader_of_none h _)
    · exact h

theorem completeOp_beside {k : StoreOp → Bool} (h : completeOp s k = .next t) : BesideLabels s t := by
  unfold completeOp at h
  split at h
  · split at h
    · split at h <;> cases h
      exact ⟨by simp [BlocksStay], fun hl => continueServing_loader_of_none (serveReads_loader_of_none hl),
        continueServing_linkKeeps (by simpa using Link.Keeps.refl s.link)⟩
    · cases h
      exact .refl s
  · cases h
    exact .refl s

theorem execOperationFailed_beside (h : execOperationFailed s = .next t) : BesideLabels s t := by
  unfold execOperationFailed at h
  dsimp only at h
  split at h
  · rename_i op _
    split at h
    · let u := setCond (serveReads ((s.setStore (s.store.operationFailed op s.freeCount)).setFreeCount
        (s.freeCount + 1))) .storeFault true
      have hloader : s.loader = none → u.loader = none := fun hl => by
        have hserved := serveReads_loader_of_none (s := (s.setStore (s.store.operationFailed op s.freeCount)).setFreeCount
          (s.freeCount + 1)) hl
        simpa [u] using hserved
      have hlink : s.link.Keeps u.link := setCond_linkKeeps (by simpa using Link.Keeps.refl s.link) _ _
      split at h <;> cases h
      · exact ⟨by simp [BlocksStay], fun hl => endServing_loader_of_none (failServing_loader_of_none (hloader hl) _ _),
          endServing_linkKeeps ((failServing_takesEffect u _ _).linkKeeps hlink)⟩
      · exact ⟨by simp [BlocksStay], hloader, hlink⟩
    · cases h
      exact .refl s
  · cases h
    exact .refl s

theorem execStoreReadRequest_beside {reader : Reader} {what : ReadKind}
    (h : execStoreReadRequest reader what s = .next t) : BesideLabels s t := by
  cases reader with
  | loader =>
    cases hl : s.loader with
    | none =>
      have hsame := exec_loaderRequest_of_waiting (.inl hl) what
      cases hsame.symm.trans h
      exact .refl s
    | some l =>
      have hbusy : ∀ u : State, BlocksStay s u → u.link = s.link → BesideLabels s u := fun u hblocks hlink =>
        ⟨hblocks, by simp [hl], hlink ▸ .refl _⟩
      cases what <;> simp only [execStoreReadRequest, hl] at h <;> split at h <;> cases h
      · exact .refl s
      · exact hbusy _ (by simp [BlocksStay]) (by simp)
      · exact .refl s
      · exact hbusy _ (by simp [BlocksStay]) (by simp)
  | rasterizer =>
    unfold execStoreReadRequest at h
    dsimp only at h
    split at h
    · split at h <;> cases h
      · exact .refl s
      · exact setStore_beside _
    · cases h
      exact .refl s

theorem takeStoreHead_beside (cmd : StoreCmd) : BesideLabels s (takeStoreHead s cmd) :=
  ⟨by simp [BlocksStay], by simp, takeStoreHead_linkKeeps cmd⟩

theorem popCommand_beside : BesideLabels s (popCommand s) := ⟨by simp [BlocksStay], by simp, id, id⟩

theorem BesideLabels.trans {u : State} (h : BesideLabels s u) (h' : BesideLabels u t) : BesideLabels s t where
  blocks := by
    have hsu := h.blocks
    have hut := h'.blocks
    simp_all [BlocksStay]
  loader hl := h'.loader (h.loader hl)
  link := h.link.trans h'.link

/-- A record handed on, and a change of a condition, reach the transmitter and the report unit. -/
theorem pushRecord_beside (r : Record) : BesideLabels s (pushRecord s r) :=
  ⟨by simp [BlocksStay], by simp, pushRecord_linkKeeps (.refl _) r⟩

theorem exec_beside {c : Instr} (hc : reachesLabels c = false) (h : exec c s = .next t) : BesideLabels s t := by
  cases c <;> cases hc
  case slwHoldExpiry =>
    cases h
    split
    · exact ⟨by simp [BlocksStay], by simp, (driveSlw_onlyTx s).keeps⟩
    · exact .refl s
  case query =>
    simp only [exec, execQuery] at h
    split at h <;> cases h
    · exact popCommand_beside.trans (pushRecord_beside _)
    · exact .refl s
  case clear =>
    simp only [exec, execClear] at h
    split at h <;> cases h
    · exact popCommand_beside.trans
        ⟨by simp [BlocksStay], by simp, clearSticky_linkKeeps (clearCounts_linkKeeps (.refl _))⟩
    · exact .refl s
  case minimumRunComplete =>
    simp only [exec, execMinimumRunComplete] at h
    split at h <;> cases h
    · exact setStore_beside _
    all_goals exact .refl s
  case suspendComplete =>
    simp only [exec, execSuspendComplete] at h
    split at h <;> cases h
    · exact ⟨by simp [BlocksStay], fun hl => serveReads_loader_of_none (s := s.setStore _) hl,
        by simpa using Link.Keeps.refl s.link⟩
    all_goals exact .refl s
  case storeBegin => cases h; exact takeStoreHead_beside _
  case storeData => cases h; exact takeStoreHead_beside _
  case storeEnd => cases h; exact takeStoreHead_beside _
  case storeDelete => cases h; exact takeStoreHead_beside _
  case sectorEraseComplete => exact completeOp_beside h
  case lineProgramComplete => exact completeOp_beside h
  case markProgramComplete => exact completeOp_beside h
  case operationFailed => exact execOperationFailed_beside h
  case storeReadRequest => exact execStoreReadRequest_beside h
  -- what is left belongs to the receiver and the transmitter
  all_goals
    cases h
    refine ⟨by simp [BlocksStay], by simp, ?_⟩
  case frameReceiveError e => exact receiveError_linkKeeps e
  case lineQuiet => exact lineQuiet_linkKeeps
  case transmitOpportunity => exact transmitOpportunity_linkKeeps
  case collision sinceEdge => exact collide_linkKeeps (Nat.le_trans (Nat.le_of_lt sinceEdge.isLt) (by decide))
  case jamEnd held => exact jamEnd_linkKeeps held
  case backoffEnd => exact backoffEnd_linkKeeps
  case frameSent => exact frameSent_linkKeeps
  case frameBegins => exact frameBegins_linkKeeps

end Beside

end Sys2Proof.Machine

/-! ### The parts of a SETUP (R169, R170) -/

namespace Sys2Proof.Machine

/-- The state in which a SETUP has given its values, the station's state and the peer tables. -/
def State.configured (s : State) (v : Setup) : State :=
  { s with setup := v, station := stationFor s.number v.n,
           peers := if stationFor s.number v.n = .active then emptyPeers v.n s.number else s.peers }

/-- The state in which the condition slot has been examined and Warm evaluated besides. -/
def State.setupWarmed (s : State) (v : Setup) : State :=
  if v.tSlow ≤ s.thermal.t then setWarm (examineSlot (s.configured v)) true else examineSlot (s.configured v)

section Setup
variable (s : State) (v : Setup)

theorem examineSlot_onlyTx : s.link.OnlyTx (examineSlot s).link := by
  unfold examineSlot
  split <;> rfl

@[simp] theorem setupWarmed_frame : (s.setupWarmed v).station = stationFor s.number v.n
    ∧ (s.setupWarmed v).number = s.number ∧ (s.setupWarmed v).setup = v ∧ (s.setupWarmed v).seq = s.seq
    ∧ (s.setupWarmed v).ctxA = s.ctxA ∧ (s.setupWarmed v).ctxB = s.ctxB ∧ (s.setupWarmed v).loader = s.loader
    ∧ (s.setupWarmed v).raster = s.raster ∧ (s.setupWarmed v).ring = s.ring ∧ (s.setupWarmed v).timer = s.timer
    ∧ (s.setupWarmed v).plan = s.plan ∧ (s.setupWarmed v).head = s.head ∧ (s.setupWarmed v).lines = s.lines
    ∧ (s.setupWarmed v).peers = (if stationFor s.number v.n = .active then emptyPeers v.n s.number else s.peers)
    ∧ (s.setupWarmed v).store = s.store ∧ (s.setupWarmed v).freeCount = s.freeCount
    ∧ (s.setupWarmed v).pending = s.pending := by
  unfold State.setupWarmed
  split <;> simp [State.configured]

theorem setupWarmed_thermal : (s.setupWarmed v).thermal
    = { s.thermal with warm := decide (v.tSlow ≤ s.thermal.t) || s.thermal.warm } := by
  unfold State.setupWarmed
  split <;> rename_i hslow <;> simp [setWarm_thermal, State.configured, hslow]

theorem setupWarmed_onlyTx : s.link.OnlyTx (s.setupWarmed v).link := by
  have hslot : s.link.OnlyTx (examineSlot (s.configured v)).link := examineSlot_onlyTx (s.configured v)
  unfold State.setupWarmed
  split
  · exact hslot.trans (setCond_onlyTx _ _ _)
  · exact hslot

/-- A SETUP: its values, the slot and Warm, then Hot in ACTIVE, then the lines. -/
theorem takeSetup_eq : takeSetup s v = driveLines
    (if stationFor s.number v.n = .active ∧ v.tStop ≤ s.thermal.t then enterHot (s.setupWarmed v)
      else s.setupWarmed v) := by
  have hconfigured : (if stationFor s.number v.n = .active
      then ((s.setSetup v).setStation (stationFor s.number v.n)).setPeers (emptyPeers v.n s.number)
      else (s.setSetup v).setStation (stationFor s.number v.n)) = s.configured v := by
    split <;> rename_i hact <;> simp only [State.configured, hact, if_true, if_false] <;> rfl
  have hslot : (examineSlot (s.configured v)).thermal.t = s.thermal.t := by simp [State.configured]
  have hwarmed : (if v.tSlow ≤ (examineSlot (s.configured v)).thermal.t
      then setWarm (examineSlot (s.configured v)) true else examineSlot (s.configured v)) = s.setupWarmed v := by
    rw [State.setupWarmed, hslot]
  have hhot : ∀ w : State, w = s.setupWarmed v →
      driveLines (if w.station = .active ∧ v.tStop ≤ w.thermal.t then enterHot w else w) = driveLines
        (if stationFor s.number v.n = .active ∧ v.tStop ≤ s.thermal.t then enterHot (s.setupWarmed v)
          else s.setupWarmed v) := by
    rintro _ rfl
    simp [setupWarmed_thermal]
  refine hhot _ ?_
  rw [← hwarmed, ← hconfigured]
  rfl

end Setup

end Sys2Proof.Machine

/-! ### The head lines after every step, and the blocks that stand idle outside ACTIVE (O12) -/

namespace Sys2Proof.Machine

/-! #### The lines of the step in progress (R119, R125) -/

/-- From `s` to `t` the plan in flight and the head lines stay. -/
def FlightStays (s t : State) : Prop := t.plan = s.plan ∧ t.head = s.head

section Strobe
variable {s t : State}

theorem FlightStays.strobeOk (e : FlightStays s t) (h : s.StrobeOk) : t.StrobeOk := by
  obtain ⟨hplan, hhead⟩ := e
  unfold State.StrobeOk at *
  rwa [hplan, hhead]

theorem strobeOk_of_plan {p : Plan} (hplan : s.plan = some p) (hhead : s.head = p.lines) : s.StrobeOk := by
  unfold State.StrobeOk
  rw [hplan]
  exact hhead

theorem strobeOk_of_none (hplan : s.plan = none) (hhead : s.head = HeadLines.idle) : s.StrobeOk := by
  unfold State.StrobeOk
  rw [hplan]
  exact hhead

theorem State.StrobeOk.ite {p : Prop} [Decidable p] {u v : State} (hu : u.StrobeOk) (hv : v.StrobeOk) :
    (if p then u else v).StrobeOk := by
  split
  · exact hu
  · exact hv

/-- A step of a plan that begins drives its lines, whatever they were. -/
theorem drivePlan_strobeOk (s : State) (p : Plan) : (drivePlan s p).StrobeOk := strobeOk_of_plan rfl rfl

/-- A row that ends leaves no plan and the lines idle. -/
theorem endFlight_strobeOk (s : State) (p : Plan) (trimmed short : Bool) : (endFlight s p trimmed short).StrobeOk :=
  strobeOk_of_none (by simp [endFlight_eq]) (by simp [endFlight_eq])

/-- The pulse that a mark leaves running keeps its lines (R128). -/
theorem stopRow_strobeOk (h : s.StrobeOk) : (stopRow s).StrobeOk := by
  cases hp : s.plan with
  | none => rwa [stopRow_of_none hp]
  | some p =>
    by_cases hstage : p.step.stage = .strobe
    · have hhead : s.head = p.lines := by simpa [State.StrobeOk, hp] using h
      rw [stopRow_of_strobe hp hstage]
      exact strobeOk_of_plan rfl hhead
    · rw [stopRow_of_load hp hstage, ← endFlight_eq]
      exact endFlight_strobeOk _ _ _ _

theorem settle_strobeOk (h : s.StrobeOk) : (settle s).StrobeOk := FlightStays.strobeOk (by simp [FlightStays]) h

theorem afterMark_strobeOk (h : s.StrobeOk) (seq : Nat) : (afterMark s seq).StrobeOk := by
  have hload : (stopLoadOf s seq).StrobeOk := FlightStays.strobeOk (by simp [FlightStays]) h
  unfold afterMark stopRowOf
  split
  · exact .ite (stopRow_strobeOk hload) hload
  · exact hload

theorem afterPulse_strobeOk (s : State) (p : Plan) : (afterPulse s p).StrobeOk := by
  unfold afterPulse
  split
  · exact drivePlan_strobeOk _ _
  · exact settle_strobeOk (endFlight_strobeOk _ _ _ _)

theorem takeCancel_strobeOk (h : s.StrobeOk) (seq : Nat) : (takeCancel s seq).StrobeOk :=
  .ite (settle_strobeOk (afterMark_strobeOk (FlightStays.strobeOk (by simp [FlightStays]) h) seq)) h

theorem takeCancelAll_strobeOk (h : s.StrobeOk) : (takeCancelAll s).StrobeOk := by
  unfold takeCancelAll
  dsimp only
  split
  · refine settle_strobeOk (stopRow_strobeOk (FlightStays.strobeOk ?_ h))
    split <;> simp [FlightStays]
  · exact h

theorem takeVoid_strobeOk (h : s.StrobeOk) (seq : Nat) : (takeVoid s seq).StrobeOk :=
  .ite (.ite (settle_strobeOk (afterMark_strobeOk (FlightStays.strobeOk (by simp [FlightStays]) h) seq)) (.ite h h)) h

/-! The row pulse: the cut ends the row in flight, and the pulse's own row begins with its first load (R120, R127). -/

theorem cutFlight_strobeOk (h : s.StrobeOk) : (cutFlight s).StrobeOk := by
  cases hp : s.plan with
  | none => rwa [cutFlight_of_none hp]
  | some p => exact strobeOk_of_none (by simp [cutFlight_of_plan hp]) (by simp [cutFlight_of_plan hp])

theorem handRow_strobeOk (h : s.StrobeOk) : (handRow s).StrobeOk := by
  rcases handRow_cases s with hhand | ⟨i, hrun, -, hhand⟩
  · exact FlightStays.strobeOk (by simp [FlightStays, hhand]) h
  · rcases takeRow_cases hrun with ⟨ring, y, -, htake⟩ | ⟨x, p, -, htake⟩
    · exact FlightStays.strobeOk (by simp [FlightStays, hhand, htake]) h
    · exact strobeOk_of_plan (by rw [hhand, htake, beginFiring_plan]) (by rw [hhand, htake, beginFiring_head])

theorem rowPulse_strobeOk (h : s.StrobeOk) (dt : Nat) :
    (afterRow (handRow (cutFlight (pulseBegun dt s)))).StrobeOk := by
  have hbegun : (pulseBegun dt s).StrobeOk := FlightStays.strobeOk (by simp [FlightStays]) h
  exact FlightStays.strobeOk (by simp [FlightStays]) (handRow_strobeOk (cutFlight_strobeOk hbegun))

/-! The entry into Hot, and the frames that act on arrival (R13, R131). -/

theorem enterHot_strobeOk (h : s.StrobeOk) : (enterHot s).StrobeOk :=
  settle_strobeOk (stopRow_strobeOk (FlightStays.strobeOk (by simp [FlightStays]) h))

theorem takeReading_strobeOk (h : s.StrobeOk) (reading : Int) : (takeReading s reading).StrobeOk := by
  have hwarm : (evalWarm (s.withReading reading)).StrobeOk :=
    FlightStays.strobeOk (by simp [FlightStays, State.withReading]) h
  have hhot : (evalHot (evalWarm (s.withReading reading))).StrobeOk :=
    .ite (.ite (FlightStays.strobeOk (by simp [FlightStays]) hwarm) hwarm) (.ite (enterHot_strobeOk hwarm) hwarm)
  have hlines : ∀ u : State, u.StrobeOk → (driveLines u).StrobeOk := fun u =>
    FlightStays.strobeOk (by simp [FlightStays])
  cases hs : s.station with
  | starting => rw [takeReading_of_starting_unset (.inl hs)]; exact h
  | unset => rw [takeReading_of_starting_unset (.inr hs)]; exact h
  | active => rw [takeReading_of_active hs]; exact hlines _ hhot
  | outside => rw [takeReading_of_outside hs]; exact hlines _ hwarm

theorem takeSetup_strobeOk (h : s.StrobeOk) (v : Setup) : (takeSetup s v).StrobeOk := by
  have hwarmed : (s.setupWarmed v).StrobeOk := FlightStays.strobeOk (by simp [FlightStays]) h
  have hlines : ∀ u : State, u.StrobeOk → (driveLines u).StrobeOk := fun u =>
    FlightStays.strobeOk (by simp [FlightStays])
  rw [takeSetup_eq]
  exact hlines _ (.ite (enterHot_strobeOk hwarmed) hwarmed)

theorem acceptFrame_strobeOk (h : s.StrobeOk) (f : RxFrame) : (acceptFrame s f).StrobeOk := by
  have hrx : (setReceiver s .ready (frameEndQuiet f)).StrobeOk := h
  have hbad : (badFrame (setReceiver s .ready (frameEndQuiet f))).StrobeOk :=
    FlightStays.strobeOk (by simp [FlightStays]) hrx
  have hroute : ∀ source p, (route (setReceiver s .ready (frameEndQuiet f)) source p).StrobeOk := fun source p => by
    cases p with
    | void seq => exact takeVoid_strobeOk hrx seq
    | command | store | demand => exact FlightStays.strobeOk (by simp [FlightStays, route]) hrx
    | ignored => exact hrx
  unfold acceptFrame acceptChecked
  dsimp only
  refine .ite (.ite (.ite ?_ hrx) hbad) h
  split
  · exact hbad
  · exact .ite hrx (hroute _ _)

/-! Every command and every step. -/

/-- The steps of a plan: each drives the lines of the next, or ends the row. -/
theorem execPlan_strobeOk {c : Instr} (hs : s.StrobeOk) (hc : c = .dataLoadComplete ∨ c = .latchComplete
    ∨ c = .mainPulseComplete ∨ c = .boostPulseComplete) (h : exec c s = .next t) : t.StrobeOk := by
  cases hp : s.plan with
  | none =>
    rcases hc with rfl | rfl | rfl | rfl <;>
      simp only [exec, execDataLoadComplete, execLatchComplete, execMainPulseComplete, execBoostPulseComplete,
        hp] at h <;>
      cases h <;> exact hs
  | some p =>
    rcases hc with rfl | rfl | rfl | rfl <;>
      simp only [exec, execDataLoadComplete, execLatchComplete, execMainPulseComplete, execBoostPulseComplete,
        hp] at h <;>
      split at h <;> cases h
    · exact drivePlan_strobeOk _ _
    · exact hs
    · exact drivePlan_strobeOk _ _
    · exact hs
    · exact afterPulse_strobeOk _ _
    · exact hs
    · exact afterPulse_strobeOk _ _
    · exact hs

/-- The frames at the head of the command queue that the setup logic and the sequence unit take. -/
theorem execHead_strobeOk {c : Instr} (hs : s.StrobeOk) (hc : c = .setup ∨ c = .job ∨ c = .cancel ∨ c = .cancelAll)
    (h : exec c s = .next t) : t.StrobeOk := by
  have hpop : (popCommand s).StrobeOk := hs
  rcases hc with rfl | rfl | rfl | rfl <;> simp only [exec, execSetup, execJob, execCancel, execCancelAll] at h <;>
    split at h
  · split at h <;> cases h
    · exact takeSetup_strobeOk hpop _
    · exact hpop
  · cases h; exact hs
  · cases h; exact FlightStays.strobeOk (by simp [FlightStays]) hpop
  · cases h; exact hs
  · cases h; exact hs.ite (takeCancel_strobeOk hpop _)
  · cases h; exact hs
  · cases h; exact (takeCancelAll_strobeOk hpop).ite hs
  · cases h; exact hs

theorem BesideLabels.flightStays (h : BesideLabels s t) : FlightStays s t := by
  obtain ⟨-, -, -, -, -, -, -, -, hplan, hhead, -⟩ := h.blocks
  exact ⟨hplan, hhead⟩

theorem exec_strobeOk {c : Instr} (hs : s.StrobeOk) (h : exec c s = .next t) : t.StrobeOk := by
  cases c
  case coldStart => cases h; exact strobeOk_of_none rfl rfl
  case scanComplete => cases h; exact .ite (FlightStays.strobeOk (by simp [FlightStays]) hs) hs
  case rowPulse dt =>
    by_cases hact : s.station = .active
    · cases (exec_rowPulse_active hact dt).symm.trans h
      exact rowPulse_strobeOk hs dt
    · cases (exec_rowPulse_inactive hact dt).symm.trans h
      exact FlightStays.strobeOk (by simp [FlightStays]) hs
  case topOfForm => cases h; exact FlightStays.strobeOk (by simp [FlightStays]) hs
  case frameAccepted => cases h; exact acceptFrame_strobeOk hs _
  case demand => cases h; exact acceptFrame_strobeOk hs _
  case void => cases h; exact acceptFrame_strobeOk hs _
  case setup => exact execHead_strobeOk hs (by simp) h
  case job => exact execHead_strobeOk hs (by simp) h
  case cancel => exact execHead_strobeOk hs (by simp) h
  case cancelAll => exact execHead_strobeOk hs (by simp) h
  case loadComplete =>
    simp only [exec, execLoadComplete] at h
    split at h
    · cases h; exact hs
    · split at h <;> cases h
      · exact FlightStays.strobeOk (by simp [FlightStays]) hs
      · exact hs
  case renderComplete =>
    simp only [exec, execRenderComplete] at h
    split at h
    · cases h; exact hs
    · split at h <;> cases h
      · exact FlightStays.strobeOk (by simp [FlightStays]) hs
      · exact hs
  case dataLoadComplete => exact execPlan_strobeOk hs (by simp) h
  case latchComplete => exact execPlan_strobeOk hs (by simp) h
  case mainPulseComplete => exact execPlan_strobeOk hs (by simp) h
  case boostPulseComplete => exact execPlan_strobeOk hs (by simp) h
  case conversionComplete => cases h; exact takeReading_strobeOk hs _
  all_goals exact (exec_beside rfl h).flightStays.strobeOk hs

theorem step_strobeOk (hs : s.StrobeOk) (h : step s = .next t) : t.StrobeOk := by
  unfold step at h
  split at h
  · exact exec_strobeOk (s := s.setPending _) (by exact hs) h
  · cases h
    exact FlightStays.strobeOk (by simp [FlightStays]) hs

end Strobe

/-! #### The blocks that serve labels, outside ACTIVE (R168) -/

/-- No label is held, no plan is in flight, the VOID queue is empty, Hot is clear, and the blocks that serve labels are
as a cold start leaves them. -/
def State.LabelsIdle (s : State) : Prop :=
  s.seq = { lc := 0, queue := [], preVoid := 0 } ∧ s.ctxA = Context.free ∧ s.ctxB = Context.free ∧ s.loader = none
  ∧ s.raster = Raster.reset ∧ s.ring = Ring.empty ∧ s.plan = none ∧ s.peers = [] ∧ s.link.LabelFree
  ∧ s.thermal.hot = false ∧ s.thermal.hold = 0

theorem State.inertOk_iff (s : State) : s.InertOk
    ↔ (s.station ≠ .active → s.LabelsIdle) ∧ (s.station = .starting ∨ s.station = .unset → s.thermal.warm = false) := by
  simp only [State.InertOk, State.LabelsIdle, Link.LabelFree, and_assoc]

section Inert
variable {s t : State}

theorem inertOk_of_active (h : s.station = .active) : s.InertOk := by simp [State.InertOk, h]

/-- Blocks that stay idle keep the station inert when its state, Warm, Hot and the hold count stay too. -/
theorem BesideLabels.inertOk (h : BesideLabels s t) (hs : s.InertOk) : t.InertOk := by
  obtain ⟨⟨hstation, -, hseq, ha, hb, hraster, hring, -, hplan, -, hthermal, hpeers⟩, hloader, hlink⟩ := h
  rw [State.inertOk_iff] at hs ⊢
  obtain ⟨hidle, hwarm⟩ := hs
  rw [hstation, hthermal]
  refine ⟨fun hact => ?_, hwarm⟩
  obtain ⟨sseq, sa, sb, sloader, sraster, sring, splan, speers, slink, shot⟩ := hidle hact
  exact ⟨hseq.trans sseq, ha.trans sa, hb.trans sb, hloader sloader, hraster.trans sraster, hring.trans sring,
    hplan.trans splan, hpeers.trans speers, hlink.2 slink, by rwa [hthermal]⟩

/-- A new state of the station and a new Warm keep idle blocks idle. -/
theorem State.LabelsIdle.congr (h : s.LabelsIdle) (hseq : t.seq = s.seq) (ha : t.ctxA = s.ctxA) (hb : t.ctxB = s.ctxB)
    (hloader : t.loader = s.loader) (hraster : t.raster = s.raster) (hring : t.ring = s.ring) (hplan : t.plan = s.plan)
    (hpeers : t.peers = s.peers) (hlink : s.link.Keeps t.link) (hhot : t.thermal.hot = s.thermal.hot)
    (hhold : t.thermal.hold = s.thermal.hold) : t.LabelsIdle := by
  obtain ⟨sseq, sa, sb, sloader, sraster, sring, splan, speers, slink, shot, shold⟩ := h
  exact ⟨hseq.trans sseq, ha.trans sa, hb.trans sb, hloader.trans sloader, hraster.trans sraster, hring.trans sring,
    hplan.trans splan, hpeers.trans speers, hlink.2 slink, hhot.trans shot, hhold.trans shold⟩

/-! Outside ACTIVE the commands that may reach the labels reach none (R3, R13, R15, R26, R109, R168). -/

theorem acceptFrame_beside (hact : s.station ≠ .active) (f : RxFrame) : BesideLabels s (acceptFrame s f) := by
  have hrx : BesideLabels s (setReceiver s .ready (frameEndQuiet f)) :=
    ⟨by simp [BlocksStay], by simp, setReceiver_linkKeeps (.refl _) _ (frameEndQuiet_le f)⟩
  have hbad : BesideLabels s (badFrame (setReceiver s .ready (frameEndQuiet f))) :=
    hrx.trans ⟨by simp [BlocksStay], by simp, badFrame_linkKeeps (.refl _)⟩
  have hroute : ∀ source p, BesideLabels s (route (setReceiver s .ready (frameEndQuiet f)) source p) := fun source p =>
    hrx.trans <| by
      have hact' : (setReceiver s .ready (frameEndQuiet f)).station ≠ .active := hact
      cases p with
      | command => exact ⟨by simp [BlocksStay, route], by simp [route], enqueueCommand_linkKeeps (.refl _) _⟩
      | store => exact ⟨by simp [BlocksStay, route], by simp [route], enqueueStore_linkKeeps (.refl _) _⟩
      | demand => simp only [route, takeDemand, hact', if_false]; exact .refl _
      | void => simp only [route, takeVoid, hact', if_false]; exact .refl _
      | ignored => exact .refl _
  have hite : ∀ {p : Prop} [Decidable p] {u v : State}, BesideLabels s u → BesideLabels s v →
      BesideLabels s (if p then u else v) := fun hu hv => by split <;> assumption
  unfold acceptFrame acceptChecked
  dsimp only
  refine hite (hite (hite ?_ hrx) hbad) (.refl s)
  split
  · exact hbad
  · exact hite hrx (hroute _ _)

theorem takeJob_beside (hact : s.station ≠ .active) (seq form darkness : Nat) (entries : List Field) :
    BesideLabels s (takeJob s seq form darkness entries) := by
  unfold takeJob
  split
  · exact .refl s
  · exact .refl s
  · exact pushRecord_beside _
  · exact absurd ‹_› hact

theorem execQueued_beside {c : Instr} (hact : s.station ≠ .active) (hc : c = .job ∨ c = .cancel ∨ c = .cancelAll)
    (h : exec c s = .next t) : BesideLabels s t := by
  have hpop : (popCommand s).station ≠ .active := by simpa using hact
  rcases hc with rfl | rfl | rfl <;> simp only [exec, execJob, execCancel, execCancelAll] at h <;> split at h <;> cases h
  · exact popCommand_beside.trans (takeJob_beside hpop _ _ _ _)
  · exact .refl s
  · simp only [takeCancel, hpop, false_and, if_false]
    split
    · exact .refl s
    · exact popCommand_beside
  · exact .refl s
  · simp only [takeCancelAll, hpop, if_false]
    split
    · exact popCommand_beside
    · exact .refl s
  · exact .refl s

/-- With no load, no render and no plan their ends find nothing. -/
theorem execEnds_of_idle {c : Instr} (hs : s.LabelsIdle) (hc : c = .loadComplete ∨ c = .renderComplete
    ∨ c = .dataLoadComplete ∨ c = .latchComplete ∨ c = .mainPulseComplete ∨ c = .boostPulseComplete) :
    exec c s = .next s := by
  obtain ⟨-, -, -, hloader, hraster, -, hplan, -⟩ := hs
  rcases hc with rfl | rfl | rfl | rfl | rfl | rfl <;>
    simp [exec, execLoadComplete, execRenderComplete, execDataLoadComplete, execLatchComplete, execMainPulseComplete,
      execBoostPulseComplete, hloader, hraster, hplan, Raster.reset]

/-- A SETUP in UNSET that leaves the station OUTSIDE brings no peer table and no Hot (R131, R170). -/
theorem takeSetup_inertOk (hidle : s.LabelsIdle) (v : Setup) : (takeSetup s v).InertOk := by
  by_cases hact : stationFor s.number v.n = .active
  · refine inertOk_of_active ?_
    rw [takeSetup_eq]
    split <;> simp [hact]
  · have hout : stationFor s.number v.n = .outside := by
      unfold stationFor at hact ⊢
      split <;> simp_all
    have heq : takeSetup s v = driveLines (s.setupWarmed v) := by simp [takeSetup_eq, hact]
    rw [heq, State.inertOk_iff]
    refine ⟨fun _ => hidle.congr ?_ ?_ ?_ ?_ ?_ ?_ ?_ ?_ ?_ ?_ ?_, by simp [hout]⟩
    case refine_9 => exact ((setupWarmed_onlyTx s v).trans (driveLines_onlyTx _)).keeps
    all_goals simp [hact, setupWarmed_thermal]

/-- Outside ACTIVE a reading moves T, and in OUTSIDE Warm with it (R130, R131). -/
theorem takeReading_inertOk (hact : s.station ≠ .active) (hs : s.InertOk) (reading : Int) :
    (takeReading s reading).InertOk := by
  rw [State.inertOk_iff] at hs
  obtain ⟨hidle, hwarm⟩ := hs
  cases hst : s.station with
  | starting =>
    rw [takeReading_of_starting_unset (.inl hst)]
    exact (State.inertOk_iff _).2 ⟨hidle, hwarm⟩
  | unset =>
    rw [takeReading_of_starting_unset (.inr hst)]
    exact (State.inertOk_iff _).2 ⟨hidle, hwarm⟩
  | active => exact absurd hst hact
  | outside =>
    have hstation : (takeReading s reading).station = .outside := by simp [hst]
    have hthermal := takeReading_outside_thermal hst reading
    rw [State.inertOk_iff, hstation]
    refine ⟨fun _ => (hidle hact).congr ?_ ?_ ?_ ?_ ?_ ?_ ?_ ?_ ?_ ?_ ?_, by simp⟩
    case refine_9 =>
      rw [takeReading_of_outside hst]
      exact ((evalWarm_onlyTx (s.withReading reading)).trans (driveLines_onlyTx _)).keeps
    case refine_10 => simp [hthermal, State.withReading]
    case refine_11 => simp [hthermal, State.withReading]
    all_goals simp [takeReading_of_outside hst, State.withReading]

/-- A cold start leaves every block idle, and Warm clear (R168). -/
theorem afterColdStart_inertOk (number : Nat) (memory : Memory) (sectors : List SectorState) (freeCount : Nat)
    (pending : List Instr) : (State.afterColdStart number memory sectors freeCount pending).InertOk := by
  simp [State.InertOk, State.afterColdStart, Link.reset]

/-- A station that is not ACTIVE is inert after every command, unless a SETUP makes it ACTIVE. -/
theorem exec_inertOk_of_inactive {c : Instr} (hact : s.station ≠ .active) (hs : s.InertOk) (h : exec c s = .next t) :
    t.InertOk := by
  have ⟨hidle, hwarm⟩ := (State.inertOk_iff s).1 hs
  have hends : exec c s = .next s → t.InertOk := fun hsame => by
    cases hsame.symm.trans h
    exact hs
  cases c
  case coldStart => cases h; exact afterColdStart_inertOk _ _ _ _ _
  case scanComplete =>
    cases h
    split
    · rename_i hstart
      exact (State.inertOk_iff _).2 ⟨fun _ => hidle hact, fun _ => hwarm (.inl hstart)⟩
    · exact hs
  case rowPulse dt =>
    cases (exec_rowPulse_inactive hact dt).symm.trans h
    rw [State.inertOk_iff]
    refine ⟨fun _ => (hidle hact).congr ?_ ?_ ?_ ?_ ?_ ?_ ?_ ?_ ?_ ?_ ?_, by simpa using hwarm⟩
    case refine_9 => exact passTime_linkKeeps dt s
    all_goals simp
  case topOfForm =>
    cases h
    rwa [takeTof, if_neg hact]
  case frameAccepted => cases h; exact (acceptFrame_beside hact _).inertOk hs
  case demand => cases h; exact (acceptFrame_beside hact _).inertOk hs
  case void => cases h; exact (acceptFrame_beside hact _).inertOk hs
  case setup =>
    simp only [exec, execSetup] at h
    split at h
    · split at h <;> cases h
      · have hpop : (popCommand s).LabelsIdle := hidle hact
        exact takeSetup_inertOk hpop _
      · exact popCommand_beside.inertOk hs
    · cases h
      exact hs
  case job => exact (execQueued_beside hact (by simp) h).inertOk hs
  case cancel => exact (execQueued_beside hact (by simp) h).inertOk hs
  case cancelAll => exact (execQueued_beside hact (by simp) h).inertOk hs
  case loadComplete => exact hends (execEnds_of_idle (hidle hact) (by simp))
  case renderComplete => exact hends (execEnds_of_idle (hidle hact) (by simp))
  case dataLoadComplete => exact hends (execEnds_of_idle (hidle hact) (by simp))
  case latchComplete => exact hends (execEnds_of_idle (hidle hact) (by simp))
  case mainPulseComplete => exact hends (execEnds_of_idle (hidle hact) (by simp))
  case boostPulseComplete => exact hends (execEnds_of_idle (hidle hact) (by simp))
  case conversionComplete reading => cases h; exact takeReading_inertOk hact hs reading
  all_goals exact (exec_beside rfl h).inertOk hs

/-! A station in ACTIVE stays there until a cold start (R168). -/

theorem exec_inertOk_of_active {c : Instr} (hact : s.station = .active) (h : exec c s = .next t) : t.InertOk := by
  cases c
  case coldStart => cases h; exact afterColdStart_inertOk _ _ _ _ _
  all_goals refine inertOk_of_active ?_
  case scanComplete => cases h; simp [hact]
  case rowPulse dt =>
    cases (exec_rowPulse_active hact dt).symm.trans h
    simp [hact]
  case topOfForm => cases h; simp [hact]
  case frameAccepted => cases h; simp [hact]
  case demand => cases h; simp [hact]
  case void => cases h; simp [hact]
  case setup =>
    simp only [exec, execSetup, hact] at h
    split at h <;> cases h <;> simp [hact]
  case conversionComplete => cases h; simp [hact]
  case job => exact (execTaken_signals (by simp) h).station.trans hact
  case cancel => exact (execTaken_signals (by simp) h).station.trans hact
  case cancelAll => exact (execTaken_signals (by simp) h).station.trans hact
  case loadComplete => exact (execTaken_signals (by simp) h).station.trans hact
  case renderComplete =>
    simp only [exec, execRenderComplete] at h
    split at h
    · cases h; exact hact
    · split at h <;> cases h <;> simp [hact]
  case dataLoadComplete => exact (execPlan_signals (by simp) h).station.trans hact
  case latchComplete => exact (execPlan_signals (by simp) h).station.trans hact
  case mainPulseComplete => exact (execPlan_signals (by simp) h).station.trans hact
  case boostPulseComplete => exact (execPlan_signals (by simp) h).station.trans hact
  all_goals
    obtain ⟨hstation, -⟩ := (exec_beside rfl h).blocks
    exact hstation.trans hact

theorem exec_inertOk {c : Instr} (hs : s.InertOk) (h : exec c s = .next t) : t.InertOk := by
  by_cases hact : s.station = .active
  · exact exec_inertOk_of_active hact h
  · exact exec_inertOk_of_inactive hact hs h

theorem step_inertOk (hs : s.InertOk) (h : step s = .next t) : t.InertOk := by
  unfold step at h
  split at h
  · exact exec_inertOk (s := s.setPending _) (by exact hs) h
  · cases h
    rw [State.inertOk_iff] at hs ⊢
    obtain ⟨hidle, hwarm⟩ := hs
    refine ⟨fun hact => (hidle (by simpa using hact)).congr ?_ ?_ ?_ ?_ ?_ ?_ ?_ ?_ ?_ ?_ ?_, by simpa using hwarm⟩
    case refine_9 => exact passTime_linkKeeps 1 s
    all_goals simp

end Inert

/-- Settles O12: the lines follow the step in progress, and outside ACTIVE nothing reaches the idle blocks. -/
theorem stepKeepsStrobe : Obligations.StepKeepsStrobe := ⟨fun _ _ => step_strobeOk, fun _ _ => step_inertOk⟩

end Sys2Proof.Machine

/-! ### The ranges of counts and measured values after every step (O13) -/

namespace Sys2Proof.Machine

/-! #### The four blocks that hold them -/

def RowTimer.InRange (t : RowTimer) : Prop := 1 ≤ t.tPred ∧ t.tPred ≤ 65535 ∧ t.elapsed ≤ 65535

def Thermal.InRange (t : Thermal) : Prop := (-20 ≤ t.t ∧ t.t ≤ 100) ∧ t.hold ≤ 32

theorem State.rangesOk_iff (s : State) :
    s.RangesOk ↔ s.number ≤ 3 ∧ s.timer.InRange ∧ s.thermal.InRange ∧ s.link.InRange := by
  simp only [State.RangesOk, RowTimer.InRange, Thermal.InRange, Link.InRange, Counts.InRange, and_assoc]

/-- From `s` to `t` the station number, the row timer and the measured values stay, and the link keeps its ranges. -/
structure RangesStay (s t : State) : Prop where
  number  : t.number = s.number
  timer   : t.timer = s.timer
  thermal : t.thermal.t = s.thermal.t ∧ t.thermal.hold = s.thermal.hold
  link    : s.link.InRange → t.link.InRange

section Ranges
variable {s t : State}

theorem RangesStay.rangesOk (h : RangesStay s t) (hs : s.RangesOk) : t.RangesOk := by
  rw [State.rangesOk_iff] at hs ⊢
  obtain ⟨hnumber, htimer, hthermal, hlink⟩ := hs
  obtain ⟨htemp, hhold⟩ := h.thermal
  exact ⟨h.number ▸ hnumber, h.timer ▸ htimer, by rwa [Thermal.InRange, htemp, hhold], h.link hlink⟩

theorem BesideLabels.rangesStay (h : BesideLabels s t) : RangesStay s t := by
  obtain ⟨-, hnumber, -, -, -, -, -, htimer, -, -, hthermal, -⟩ := h.blocks
  exact ⟨hnumber, htimer, by rw [hthermal]; exact ⟨rfl, rfl⟩, h.link.1⟩

theorem RangesStay.refl (s : State) : RangesStay s s := (BesideLabels.refl s).rangesStay

/-! #### The VOIDs that an own cause sends, and the count of those dropped (R12, R139) -/

theorem pushVoid_inRange (h : s.link.InRange) (f : VoidFrame) : (pushVoid s f).link.InRange := by
  unfold pushVoid
  split
  · exact h
  · exact (countDropped_linkKeeps (.refl _)).1 h

theorem ownVoid_inRange (h : s.link.InRange) (seq : Nat) (reason : Reason) : (ownVoid s seq reason).link.InRange := by
  unfold ownVoid
  split
  · exact h
  · exact pushVoid_inRange (by simpa using h) _

theorem addPlaceholders_inRange (n seq : Nat) (h : s.link.InRange) : (addPlaceholders n seq s).link.InRange := by
  induction n generalizing seq s with
  | zero => exact h
  | succ n ih =>
    have hqueued : ∀ q, (s.setSeq q).link.InRange := fun _ => h
    unfold addPlaceholders
    split
    · refine ih _ ?_
      unfold addPlaceholder
      split
      · exact hqueued _
      · exact pushVoid_inRange (hqueued _) _
    · exact h

theorem endRow_inRange (h : s.link.InRange) (seq : Nat) (trimmed miss short : Bool) :
    (endRow s seq trimmed miss short).link.InRange := by
  unfold endRow
  split
  · exact h
  · rename_i i _
    have hset : (s.setCtx i ((s.ctx i).rowEnded trimmed miss)).link.InRange := by simpa using h
    cases short
    · exact (completeIfEnding_onlyTx _ i).inRange hset
    · exact (completeIfEnding_onlyTx _ i).inRange (ownVoid_inRange hset seq .firedShort)

theorem cutFlight_inRange (h : s.link.InRange) : (cutFlight s).link.InRange := by
  cases hp : s.plan with
  | none => rwa [cutFlight_of_none hp]
  | some p =>
    have hover : (flightOver s p).link.InRange := by simpa using h
    simpa [cutFlight_of_plan hp] using endRow_inRange hover p.seq (s.cutTrimmed p) p.miss (s.cutShort p)

theorem handRow_inRange (h : s.link.InRange) : (handRow s).link.InRange := by
  rcases handRow_cases s with hhand | ⟨i, hrun, -, hhand⟩
  · rw [hhand]
    exact h
  · rcases takeRow_cases hrun with ⟨ring, y, -, htake⟩ | ⟨x, p, -, htake⟩
    · rw [hhand, htake]
      refine endRow_inRange ?_ _ _ _ _
      unfold rowMarked
      split
      · exact ownVoid_inRange (by simpa using h) _ _
      · simpa using h
    · rw [hhand, htake]
      simpa using h

/-- A label that starts sends one VOID at most, after the seq has been consumed (R27 to R29). -/
theorem startLabel_inRange (h : s.link.InRange) : (startLabel s).link.InRange := by
  have hmove : ∀ (u : State) i, u.link.InRange → (moveToStarted u i).link.InRange := fun u i hu => by simpa using hu
  have hconsumed : ∀ seq i c, ((s.setSeq (s.seq.consume seq)).setCtx i c).link.InRange := fun _ _ _ => by simpa using h
  rcases startLabel_cases s with ⟨seq, heq⟩ | ⟨e, -, i, -, -, heq⟩ | ⟨e, -, i, -, -, heq⟩ | ⟨e, -, i, -, heq⟩
    | ⟨i, -, heq⟩
  · rw [heq]
    exact h
  · rw [heq]
    refine hmove _ i ?_
    unfold startArmed
    dsimp only
    split
    · exact ownVoid_inRange (hconsumed _ _ _) _ _
    · exact hconsumed _ _ _
  · rw [heq]
    exact hmove _ i (ownVoid_inRange (by simpa using h) _ _)
  · rw [heq]
    exact hmove _ i (ownVoid_inRange (hconsumed _ _ _) _ _)
  · rw [heq]
    refine hmove _ i ?_
    unfold startEmpty
    dsimp only
    split
    · exact hconsumed _ _ _
    · exact ownVoid_inRange (hconsumed _ _ _) _ _

theorem voidAllHot_inRange (qs : List Nat) (h : s.link.InRange) : (voidAllHot s qs).link.InRange := by
  induction qs generalizing s with
  | nil => exact h
  | cons q qs ih => exact ih (ownVoid_inRange h q .hot)

theorem enterHot_inRange (h : s.link.InRange) : (enterHot s).link.InRange := by
  have hhot : (setHot s true).link.InRange := (setCond_onlyTx _ _ _).inRange h
  have hstop := (stopRow_onlyTx _).inRange (voidAllHot_inRange (setHot s true).hotSeqs hhot)
  simpa [enterHot_eq, hotEntered] using hstop

theorem endLoad_inRange (h : s.link.InRange) (l : Load) : (endLoad s l).link.InRange := by
  have hended : ((s.setLoader none).setStore s.store.releaseLoader).link.InRange := h
  unfold endLoad
  dsimp only
  split
  · rwa [State.setCtx_link]
  · exact ownVoid_inRange hended _ _
  · exact hended
  · exact hended

/-! #### The events of the labels -/

theorem takeJob_inRange (h : s.link.InRange) (seq form darkness : Nat) (entries : List Field) :
    (takeJob s seq form darkness entries).link.InRange := by
  have hstale : (countStale s).link.InRange := (countStale_linkKeeps (.refl _)).1 h
  have happend : ∀ (u : State) e, u.link.InRange → (settle (appendOrRefuse u e)).link.InRange := fun u e hu => by
    simpa using (appendOrRefuse_onlyTx u e).inRange hu
  have hclassify : ∀ e, (classifyJob s e).link.InRange := fun e => by
    unfold classifyJob
    dsimp only
    split
    · simpa using h
    · split
      · exact happend s e h
      · split
        · exact happend _ e (addPlaceholders_inRange _ _ h)
        · exact hstale
  unfold takeJob
  split
  · exact h
  · exact h
  · exact (pushRecord_onlyTx s _).inRange h
  · split
    · exact hstale
    · exact hclassify _

/-- What a mark reaches hands on a record at most. -/
theorem settle_afterMark_inRange {u : State} (hu : u.link.InRange) (seq : Nat) :
    (settle (afterMark u seq)).link.InRange := by
  simpa using (afterMark_onlyTx u seq).inRange hu

theorem takeCancel_inRange (h : s.link.InRange) (seq : Nat) : (takeCancel s seq).link.InRange := by
  unfold takeCancel
  split
  · exact settle_afterMark_inRange (by simpa using h) seq
  · exact h

theorem takeCancelAll_inRange (h : s.link.InRange) : (takeCancelAll s).link.InRange := by
  have hstop : ∀ u : State, u.link.InRange → (settle (stopRow u)).link.InRange := fun u hu => by
    simpa using (stopRow_onlyTx u).inRange hu
  unfold takeCancelAll
  dsimp only
  split
  · refine hstop _ ?_
    split <;> simpa using h
  · exact h

theorem takeVoid_inRange (h : s.link.InRange) (seq : Nat) : (takeVoid s seq).link.InRange := by
  unfold takeVoid
  split
  · split
    · exact settle_afterMark_inRange (by simpa using h) seq
    · split <;> exact h
  · exact h

theorem takeTof_inRange (h : s.link.InRange) : (takeTof s).link.InRange := by
  unfold takeTof
  split
  · split
    · exact (purgeStale_onlyDemand _).inRange ((setCond_onlyTx _ _ _).inRange h)
    · have hstart := startLabel_inRange ((endRunning_onlyTx s).inRange h)
      exact (afterStart_onlyDemand _).inRange hstart
  · exact h

theorem handDemand_onlyDemand (s : State) (e : DemandEntry) : s.link.OnlyDemand (handDemand s e).link := by
  have happend : s.link.OnlyDemand (appendBacklog s e).link := by
    unfold appendBacklog
    split <;> rfl
  unfold handDemand
  split
  · split
    · rfl
    · exact happend.trans (formDemand_onlyDemand _)
  · split
    · rfl
    · exact happend

theorem endRender_inRange (h : s.link.InRange) (r : Render) : (endRender s r).link.InRange := by
  unfold endRender
  dsimp only
  split
  · rw [State.setStore_link, keepRender_link]
    exact (handDemand_onlyDemand _ _).inRange h
  · exact h

theorem acceptFrame_inRange (h : s.link.InRange) (f : RxFrame) : (acceptFrame s f).link.InRange := by
  have hrx : (setReceiver s .ready (frameEndQuiet f)).link.InRange := h.withQuiet (frameEndQuiet_le f)
  have hbad : (badFrame (setReceiver s .ready (frameEndQuiet f))).link.InRange := (badFrame_linkKeeps (.refl _)).1 hrx
  have hroute : ∀ source p, (route (setReceiver s .ready (frameEndQuiet f)) source p).link.InRange := fun source p => by
    cases p with
    | command => exact (enqueueCommand_linkKeeps (.refl _) _).1 hrx
    | store => exact (enqueueStore_linkKeeps (.refl _) _).1 hrx
    | demand => simpa [route] using hrx
    | void => exact takeVoid_inRange hrx _
    | ignored => exact hrx
  unfold acceptFrame acceptChecked
  dsimp only
  split
  · split
    · split
      · split
        · exact hbad
        · split
          · exact hrx
          · exact hroute _ _
      · exact hrx
    · exact hbad
  · exact h

/-! #### The events that move the measured values: readings, SETUP and row pulses (R118, R129, R133) -/

theorem evalHot_inRange (h : s.link.InRange) : (evalHot s).link.InRange := by
  have hset : ∀ v, (setHot s v).link.InRange := fun v => (setCond_onlyTx _ _ _).inRange h
  unfold evalHot
  split
  · split
    · exact hset _
    · exact h
  · split
    · exact enterHot_inRange h
    · exact h

theorem takeReading_inRange (h : s.link.InRange) (reading : Int) : (takeReading s reading).link.InRange := by
  have hread : (s.withReading reading).link.InRange := h
  have hwarm := (evalWarm_onlyTx (s.withReading reading)).inRange hread
  cases hs : s.station with
  | starting => rwa [takeReading_of_starting_unset (.inl hs)]
  | unset => rwa [takeReading_of_starting_unset (.inr hs)]
  | active =>
    rw [takeReading_of_active hs]
    exact (driveLines_onlyTx _).inRange (evalHot_inRange hwarm)
  | outside =>
    rw [takeReading_of_outside hs]
    exact (driveLines_onlyTx _).inRange hwarm

/-- In every state of the station T takes the reading within its limits, and the hold count stays (R129). -/
theorem takeReading_measured (s : State) (reading : Int) :
    (takeReading s reading).thermal.t = max (-20) (min 100 reading)
    ∧ (takeReading s reading).thermal.hold = s.thermal.hold := by
  cases hs : s.station with
  | starting => rw [takeReading_of_starting_unset (.inl hs)]; exact ⟨rfl, rfl⟩
  | unset => rw [takeReading_of_starting_unset (.inr hs)]; exact ⟨rfl, rfl⟩
  | active => rw [takeReading_active_thermal hs]; exact ⟨rfl, rfl⟩
  | outside => rw [takeReading_outside_thermal hs]; exact ⟨rfl, rfl⟩

theorem takeReading_rangesOk (hs : s.RangesOk) (reading : Int) : (takeReading s reading).RangesOk := by
  rw [State.rangesOk_iff] at hs ⊢
  obtain ⟨hnumber, htimer, ⟨-, hhold⟩, hlink⟩ := hs
  obtain ⟨htemp, hkept⟩ := takeReading_measured s reading
  refine ⟨by simpa using hnumber, by simpa using htimer, ⟨?_, by rwa [hkept]⟩, takeReading_inRange hlink reading⟩
  rw [htemp]
  omega

theorem enterHot_thermal (s : State) : (enterHot s).thermal = { s.thermal with hot := true } := by
  rw [enterHot_eq, hotEntered_thermal, setHot_thermal]

theorem takeSetup_rangesStay (s : State) (v : Setup) : RangesStay s (takeSetup s v) := by
  have hwarmed : s.link.InRange → (s.setupWarmed v).link.InRange := (setupWarmed_onlyTx s v).inRange
  have hlines : ∀ u : State, (driveLines u).thermal = u.thermal := by simp
  refine ⟨by simp, by simp, ?_, fun h => ?_⟩ <;> rw [takeSetup_eq]
  · rw [hlines]
    split <;> simp [enterHot_thermal, setupWarmed_thermal]
  · refine (driveLines_onlyTx _).inRange ?_
    split
    · exact enterHot_inRange (hwarmed h)
    · exact hwarmed h

theorem passTime_timer (dt : Nat) (s : State) : (passTime dt s).timer = s.timer.advance dt := by
  unfold passTime
  dsimp only
  split <;> rfl

theorem advance_inRange {t : RowTimer} (h : t.InRange) (dt : Nat) : (t.advance dt).InRange := by
  obtain ⟨hone, hpred, helapsed⟩ := h
  unfold RowTimer.advance
  split
  · exact ⟨hone, hpred, Nat.min_le_left _ _⟩
  · exact ⟨hone, hpred, helapsed⟩

/-- The edge of RWP leaves T_pred between 1 and 65535 (R118). -/
theorem edge_inRange {t : RowTimer} (h : t.InRange) : t.edge.InRange := by
  obtain ⟨hone, hpred, helapsed⟩ := h
  unfold RowTimer.edge
  split
  · exact ⟨Nat.le_max_left _ _, max_le (by decide) helapsed, Nat.zero_le _⟩
  · exact ⟨hone, hpred, Nat.zero_le _⟩

theorem passTime_rangesOk (hs : s.RangesOk) (dt : Nat) : (passTime dt s).RangesOk := by
  rw [State.rangesOk_iff] at hs ⊢
  obtain ⟨hnumber, htimer, hthermal, hlink⟩ := hs
  exact ⟨by simpa using hnumber, by simpa [passTime_timer] using advance_inRange htimer dt, by simpa using hthermal,
    (passTime_linkKeeps dt s).1 hlink⟩

theorem setEdge_rangesOk (hs : s.RangesOk) : (s.setTimer s.timer.edge).RangesOk := by
  rw [State.rangesOk_iff] at hs ⊢
  obtain ⟨hnumber, htimer, hrest⟩ := hs
  exact ⟨hnumber, edge_inRange htimer, hrest⟩

/-- A row's events move the hold count alone of the monitor, and reload it with 32 at most (R133). -/
theorem RowFrame.thermal_inRange (h : RowFrame s t) (hhold : t.thermal.hold ≤ 32) (hs : s.thermal.InRange) :
    t.thermal.InRange := by
  obtain ⟨htemp, -⟩ := hs
  rw [h.thermal]
  exact ⟨htemp, hhold⟩

theorem cutFlight_thermal (h : s.thermal.InRange) : (cutFlight s).thermal.InRange := by
  have ⟨_, hhold⟩ := h
  refine (cutFlight_rowFrame s).thermal_inRange ?_ h
  cases hp : s.plan with
  | none => rwa [cutFlight_of_none hp]
  | some p =>
    rw [cutFlight_hold hp]
    split <;> omega

theorem handRow_thermal (hp : s.plan = none) (h : s.thermal.InRange) : (handRow s).thermal.InRange := by
  have ⟨_, hhold⟩ := h
  refine (handRow_rowFrame s).thermal_inRange ?_ h
  rw [handRow_hold hp]
  split <;> omega

theorem pulseActive_rangesOk (hs : s.RangesOk) : (pulseActive s).RangesOk := by
  rw [State.rangesOk_iff] at hs ⊢
  obtain ⟨hnumber, htimer, ⟨htemp, hhold⟩, hlink⟩ := hs
  have hdecreased : (decreaseHold s).thermal.InRange := ⟨htemp, Nat.le_trans (Nat.sub_le _ _) hhold⟩
  have hplan : (cutFlight (decreaseHold s)).plan = none := by
    cases hp : (decreaseHold s).plan with
    | none => rwa [cutFlight_of_none hp]
    | some p => simp [cutFlight_of_plan hp]
  have hthermal := handRow_thermal hplan (cutFlight_thermal hdecreased)
  have hrow := handRow_inRange (cutFlight_inRange (s := decreaseHold s) hlink)
  exact ⟨by simpa using hnumber, by simpa using htimer, by simpa [pulseActive] using hthermal,
    (afterRow_onlyDemand _).inRange hrow⟩

/-! #### Every command and every step -/

theorem strapNumber_le (sid1 sid0 : Bool) : strapNumber sid1 sid0 ≤ 3 := by
  cases sid1 <;> cases sid0 <;> decide

/-- A cold start sets the random source from the station number, and clears the rest (R142, R168). -/
theorem afterColdStart_rangesOk {number : Nat} (h : number ≤ 3) (memory : Memory) (sectors : List SectorState)
    (freeCount : Nat) (pending : List Instr) :
    (State.afterColdStart number memory sectors freeCount pending).RangesOk := by
  simp only [State.rangesOk_iff, State.afterColdStart, Link.reset, RowTimer.InRange, Thermal.InRange, Link.InRange,
    Counts.InRange, Counts.zero]
  omega

/-- The frames at the head of the command queue that the setup logic and the sequence unit take. -/
theorem execHead_rangesStay {c : Instr} (hc : c = .setup ∨ c = .job ∨ c = .cancel ∨ c = .cancelAll)
    (h : exec c s = .next t) : RangesStay s t := by
  have hpop : ∀ u, RangesStay (popCommand s) u → RangesStay s u := fun u hu => ⟨hu.number, hu.timer, hu.thermal, hu.link⟩
  have hsame : RangesStay s (popCommand s) := hpop _ (.refl _)
  rcases hc with rfl | rfl | rfl | rfl <;> simp only [exec, execSetup, execJob, execCancel, execCancelAll] at h <;>
    split at h
  · split at h <;> cases h
    · exact hpop _ (takeSetup_rangesStay _ _)
    · exact hsame
  · cases h; exact .refl s
  · cases h; exact hpop _ ⟨by simp, by simp, by simp, fun hl => takeJob_inRange hl _ _ _ _⟩
  · cases h; exact .refl s
  · cases h
    split
    · exact .refl s
    · exact hpop _ ⟨by simp, by simp, by simp, fun hl => takeCancel_inRange hl _⟩
  · cases h; exact .refl s
  · cases h
    split
    · exact hpop _ ⟨by simp, by simp, by simp, takeCancelAll_inRange⟩
    · exact .refl s
  · cases h; exact .refl s

/-- The steps of a plan, and the row's end after its last pulse. -/
theorem execPlan_rangesStay {c : Instr} (hc : c = .dataLoadComplete ∨ c = .latchComplete ∨ c = .mainPulseComplete
    ∨ c = .boostPulseComplete) (h : exec c s = .next t) : RangesStay s t := by
  have hdrive : ∀ p, RangesStay s (drivePlan s p) := fun p => ⟨by simp, by simp, by simp, by simp⟩
  have hpulse : ∀ p, RangesStay s (afterPulse s p) := fun p => by
    refine ⟨by simp, by simp, by simp, fun hl => ?_⟩
    unfold afterPulse
    split
    · exact hl
    · simpa using (endFlight_onlyTx s p (decide (1 ≤ p.trim))).inRange hl
  rcases hc with rfl | rfl | rfl | rfl <;>
    simp only [exec, execDataLoadComplete, execLatchComplete, execMainPulseComplete, execBoostPulseComplete] at h <;>
    split at h
  · split at h <;> cases h
    · exact hdrive _
    · exact .refl s
  · cases h; exact .refl s
  · split at h <;> cases h
    · exact hdrive _
    · exact .refl s
  · cases h; exact .refl s
  · split at h <;> cases h
    · exact hpulse _
    · exact .refl s
  · cases h; exact .refl s
  · split at h <;> cases h
    · exact hpulse _
    · exact .refl s
  · cases h; exact .refl s

theorem exec_rangesOk {c : Instr} (hs : s.RangesOk) (h : exec c s = .next t) : t.RangesOk := by
  cases c
  case coldStart sid1 sid0 => cases h; exact afterColdStart_rangesOk (strapNumber_le sid1 sid0) _ _ _ _
  case rowPulse dt =>
    have hedge := setEdge_rangesOk (passTime_rangesOk hs dt)
    simp only [exec, execRowPulse] at h
    split at h <;> cases h
    · exact pulseActive_rangesOk hedge
    · exact hedge
  case conversionComplete => cases h; exact takeReading_rangesOk hs _
  all_goals refine RangesStay.rangesOk ?_ hs
  case scanComplete =>
    cases h
    split
    · exact ⟨by simp, by simp, by simp, by simp⟩
    · exact .refl s
  case topOfForm => cases h; exact ⟨by simp, by simp, by simp, takeTof_inRange⟩
  case frameAccepted => cases h; exact ⟨by simp, by simp, by simp, fun hl => acceptFrame_inRange hl _⟩
  case demand => cases h; exact ⟨by simp, by simp, by simp, fun hl => acceptFrame_inRange hl _⟩
  case void => cases h; exact ⟨by simp, by simp, by simp, fun hl => acceptFrame_inRange hl _⟩
  case setup => exact execHead_rangesStay (by simp) h
  case job => exact execHead_rangesStay (by simp) h
  case cancel => exact execHead_rangesStay (by simp) h
  case cancelAll => exact execHead_rangesStay (by simp) h
  case loadComplete =>
    simp only [exec, execLoadComplete] at h
    split at h
    · cases h; exact .refl s
    · split at h <;> cases h
      · exact ⟨by simp, by simp, by simp, fun hl => by simpa using endLoad_inRange hl _⟩
      · exact .refl s
  case renderComplete =>
    simp only [exec, execRenderComplete] at h
    split at h
    · cases h; exact .refl s
    · split at h <;> cases h
      · exact ⟨by simp, by simp, by simp, fun hl => by simpa using endRender_inRange hl _⟩
      · exact .refl s
  case dataLoadComplete => exact execPlan_rangesStay (by simp) h
  case latchComplete => exact execPlan_rangesStay (by simp) h
  case mainPulseComplete => exact execPlan_rangesStay (by simp) h
  case boostPulseComplete => exact execPlan_rangesStay (by simp) h
  all_goals exact (exec_beside rfl h).rangesStay

theorem step_rangesOk (hs : s.RangesOk) (h : step s = .next t) : t.RangesOk := by
  unfold step at h
  split at h
  · exact exec_rangesOk (s := s.setPending _) (by exact hs) h
  · cases h
    exact passTime_rangesOk hs 1

end Ranges

/-- Settles O13: each block keeps the ranges of its own values. -/
theorem stepKeepsRanges : Obligations.StepKeepsRanges := fun _ _ => step_rangesOk

end Sys2Proof.Machine

/-! ### Trim levels (O24) -/

namespace Sys2Proof.Machine

theorem Boost.removedAt_mono {j k : Nat} (h : j ≤ k) {kind : Boost} (hr : kind.removedAt j = true) :
    kind.removedAt k = true := by
  cases kind <;> simp only [Boost.removedAt, decide_eq_true_eq] at hr ⊢ <;> omega

theorem Boost.not_removedAt (level : Nat) (kind : Boost) :
    (!kind.removedAt level) = (match kind with
      | .c => decide (level = 0)
      | .b => decide (level ≤ 1)
      | .a => decide (level ≤ 2)) := by
  cases kind <;> simp only [Boost.removedAt, ← decide_not, decide_eq_decide] <;> omega

@[simp] theorem Phase.trimTo_main (level : Nat) (p : Phase) : (p.trimTo level).main = p.main := rfl

@[simp] theorem Phase.trimTo_zero (p : Phase) : p.trimTo 0 = p := by
  have kept : ∀ b : BoostData, (!b.boost.removedAt 0) = true := fun x => by
    cases h : x.boost <;> simp [Boost.removedAt]
  simp [Phase.trimTo, kept]

@[simp] theorem trimTo_zero (ps : List Phase) : trimTo 0 ps = ps := by
  rw [trimTo, funext Phase.trimTo_zero, List.map_id']

/-- A boost that a level removes, each later level removes too. -/
theorem Phase.trimTo_boosts_sublist {j k : Nat} (h : j ≤ k) (p : Phase) :
    ((p.trimTo k).boosts).Sublist (p.trimTo j).boosts := by
  refine List.monotone_filter_right _ fun x hx => ?_
  simp only [Bool.not_eq_true'] at hx ⊢
  exact Bool.eq_false_iff.2 fun hr => Bool.eq_false_iff.1 hx (Boost.removedAt_mono h hr)

theorem Phase.time_trimTo_le {j k : Nat} (h : j ≤ k) (w0 : Nat) (p : Phase) :
    (p.trimTo k).time w0 ≤ (p.trimTo j).time w0 :=
  Nat.add_le_add_left (((trimTo_boosts_sublist h p).map _).sum_le_sum fun _ _ => Nat.zero_le _) _

theorem planTime_trimTo_le {j k : Nat} (h : j ≤ k) (w0 : Nat) (ps : List Phase) :
    planTime w0 (trimTo k ps) ≤ planTime w0 (trimTo j ps) := by
  simp only [planTime, trimTo, List.map_map]
  exact List.sum_le_sum fun p _ => Phase.time_trimTo_le h w0 p

/-- The trim level is the first at which the plan fits, because the levels are tried in order. -/
theorem trimLevel_eq_iff (w0 tAv : Nat) (ps : List Phase) {k : Nat} (hk : k < 3) :
    trimLevel w0 tAv ps = k ↔
      planTime w0 (trimTo k ps) ≤ tAv ∧ ∀ j, j < k → tAv < planTime w0 (trimTo j ps) := by
  unfold trimLevel
  interval_cases k <;> simp only [Nat.forall_lt_succ_right, trimTo_zero] <;> split_ifs <;> simp_all

theorem trimLevel_le (w0 tAv : Nat) (ps : List Phase) : trimLevel w0 tAv ps ≤ 3 := by
  unfold trimLevel
  split_ifs <;> decide

/-- Settles O24, level by level: a boost removed at one level is removed at each later one, so the plan time falls. -/
theorem trimLevels : Obligations.TrimLevels := by
  intro w0 tPred ps
  refine ⟨rfl, rfl, trimLevel_le .., fun k hk => trimLevel_eq_iff w0 _ ps hk, trimTo_zero ps,
    fun level => ⟨?_, ?_, ?_⟩⟩
  · simp [trimTo]
  · simp only [trimTo, List.map_map]
    refine List.map_congr_left fun ph _ => List.filter_congr fun x _ => ?_
    exact (Boost.not_removedAt level x.boost).trans (by cases x.boost <;> rfl)
  · exact planTime_trimTo_le (Nat.le_succ level) w0 ps

end Sys2Proof.Machine

/-! ### A step of the unit (O1) -/

namespace Sys2Proof.Machine

theorem tick_timer (s : State) : (tick s).timer = { s.timer with
    elapsed := if s.timer.seen then min 65535 (s.timer.elapsed + 1) else s.timer.elapsed } := by
  rw [tick, passTime_timer, RowTimer.advance]
  split_ifs <;> rfl

/-- The quiet count moves while neither the transmitter drives the line nor the receiver takes a frame (R136). -/
theorem tick_quiet (s : State) : (tick s).link.quiet =
    if s.link.tx.state ≠ .sending ∧ s.link.tx.state ≠ .jamming ∧ s.link.receiver ≠ .receiving then
      if s.link.quiet < 16 ∧ s.link.held = false then min 15 (s.link.quiet + 2) else min 24 (s.link.quiet + 2)
    else s.link.quiet := by
  rw [tick, passTime_quiet, ← ite_not]
  simp only [not_or, ne_eq, Nat.mul_one]

/-- Settles O1: a waiting command is run, and otherwise `tick` moves its two counts. -/
theorem stepTakesFront : Obligations.StepTakesFront := by
  refine ⟨fun c rest s h => by rw [step, h], fun s h => ?_⟩
  have hstep : step s = .next (tick s) := by rw [step, h]
  have hlink : (tick s).link = { s.link with quiet := (tick s).link.quiet } := passTime_link 1 s
  dsimp only
  rw [hstep, ← tick_timer, ← tick_quiet, ← hlink]
  exact congrArg _ (by apply State.ext <;> simp [tick])

end Sys2Proof.Machine

/-! ### The steps of a plan (O48) -/

namespace Sys2Proof.Machine

theorem drivePlan_eq (s : State) (p : Plan) : drivePlan s p = { s with plan := some p, head := p.lines } := rfl

theorem Plan.nextPulse_of_phase {p : Plan} {ph : Phase} (hph : p.phases[p.step.phase]? = some ph) :
    p.nextPulse p.step =
      if (p.step.boost.map fun k => k + 1).getD 0 < ph.boosts.length then
        some { phase := p.step.phase, boost := some ((p.step.boost.map fun k => k + 1).getD 0), stage := .load }
      else if p.step.phase + 1 < p.phases.length then
        some { phase := p.step.phase + 1, boost := none, stage := .load }
      else none := by
  unfold Plan.nextPulse
  rw [hph]
  cases p.step.boost <;> rfl

/-- The pulse after this one is the phase's next boost. -/
theorem Plan.nextPulse_boost {p : Plan} {ph : Phase} {x : BoostData} {k : Nat} (hph : p.phases[p.step.phase]? = some ph)
    (hk : (p.step.boost.map fun k => k + 1).getD 0 = k) (hx : ph.boosts[k]? = some x) :
    p.nextPulse p.step = some { phase := p.step.phase, boost := some k, stage := .load } := by
  obtain ⟨hlt, -⟩ := List.getElem?_eq_some_iff.1 hx
  rw [nextPulse_of_phase hph, hk, if_pos hlt]

/-- The pulse after this one is the next phase's main pulse. -/
theorem Plan.nextPulse_main {p : Plan} {ph next : Phase} (hph : p.phases[p.step.phase]? = some ph)
    (hlast : ph.boosts.length ≤ (p.step.boost.map fun k => k + 1).getD 0)
    (hnext : p.phases[p.step.phase + 1]? = some next) :
    p.nextPulse p.step = some { phase := p.step.phase + 1, boost := none, stage := .load } := by
  obtain ⟨hlt, -⟩ := List.getElem?_eq_some_iff.1 hnext
  rw [nextPulse_of_phase hph, if_neg hlast.not_gt, if_pos hlt]

/-- A pulse that is not the plan's last begins the load of the next data set. -/
theorem afterPulse_of_next {s : State} {p : Plan} {st : FiringStep} (hrun : p.stopping = false)
    (hnext : p.nextPulse p.step = some st) : afterPulse s p = drivePlan s { p with step := st } := by
  unfold afterPulse
  rw [hrun, hnext]

theorem Plan.lines_load {p : Plan} (h : p.step.stage = .load) :
    p.lines = { shifting := some (p.dataOf p.step), hlt := false, hsb := false } := by
  rw [Plan.lines, h]

/-- A plan loads its current data set at the step that follows a pulse. -/
theorem afterPulse_loads {s : State} {p : Plan} {st : FiringStep} (hrun : p.stopping = false)
    (hnext : p.nextPulse p.step = some st) (hload : st.stage = .load) :
    afterPulse s p = { s with
      plan := some { p with step := st },
      head := { shifting := some (p.dataOf st), hlt := false, hsb := false } } := by
  rw [afterPulse_of_next hrun hnext, drivePlan_eq, Plan.lines_load hload]
  rfl

/-- Settles O48, by the stage of the step: the pulse's successor is `Plan.nextPulse`. -/
theorem planGoesOn : Obligations.PlanGoesOn := by
  intro s p hp
  refine ⟨fun h => ?_, fun h => ?_, fun st ph data hstage hrun hph hnext => ?_⟩
  · simp [exec, execDataLoadComplete, hp, h, drivePlan_eq, Plan.lines]
  · simp [exec, execLatchComplete, hp, h, drivePlan_eq, Plan.lines]
  have hgoes : p.nextPulse p.step = some st ∧ st.stage = .load ∧ p.dataOf st = data := by
    obtain ⟨x, hx, rfl, rfl⟩ | ⟨hlast, next, hphase, rfl, rfl⟩ := hnext
    · exact ⟨Plan.nextPulse_boost hph rfl hx, rfl, by simp [Plan.dataOf, hph, hx]⟩
    · exact ⟨Plan.nextPulse_main hph hlast hphase, rfl, by simp [Plan.dataOf, hphase]⟩
  obtain ⟨hst, hload, hdata⟩ := hgoes
  have hafter : ∀ fired, afterPulse s { p with fired := fired } = { s with
      plan := some { p with step := st, fired := fired },
      head := { shifting := some data, hlt := false, hsb := false } } := fun fired => by
    rw [← hdata]
    exact afterPulse_loads (p := { p with fired := fired }) hrun hst hload
  refine ⟨fun hmain => ?_, fun hboost => ?_⟩
  · rw [exec_pulseComplete hp hstage (Or.inl ⟨hmain, rfl, rfl⟩), hafter, hph]
    rfl
  · rw [exec_pulseComplete hp hstage (Or.inr ⟨hboost, rfl, rfl⟩), hafter]

end Sys2Proof.Machine

/-! ### SETUP (O51) -/

namespace Sys2Proof.Machine

/-! #### Hot with no label under the head -/

section NoLabels
variable {s : State} (hctx : ∀ i, s.ctx i = Context.free)
include hctx

theorem nextCtx_of_free : s.nextCtx = none := by
  refine State.findCtx_eq_none.2 fun i => ?_
  rw [hctx i]
  rfl

/-- A position on a Free record has no row to pass, no lists to build and no render to begin. -/
theorem advanceRaster_of_free : advanceRaster s = s := by
  cases hr : s.raster.rendering with
  | some r => exact advanceRaster_of_rendering hr
  | none =>
    cases hp : s.raster.position with
    | none => exact advanceRaster_of_none hr hp (takePosition_of_no_next hp (nextCtx_of_free hctx))
    | some p =>
      have hpass : passRows s = s := by simp [passRows, hp, hctx, Context.isRunningLabel, Context.free]
      have hlists : buildLists s = s := by simp [buildLists, hp, hctx, Context.drawn, Context.free]
      have hrender : tryRender s = s := by
        simp [tryRender, hp, State.mayBeginRender, hctx, Context.isRunning, Context.isNext, Context.free]
      rw [advanceRaster_of_idle hr, takePosition_of_some hp, hpass, hlists, hrender]

theorem voidHot_of_free {st : CtxState} (hst : st ≠ .free) (i : CtxId) : voidHot st s i = s := by
  rw [voidHot, hctx i, if_neg]
  exact hst.symm

/-- With no label held and nothing in flight, entry into Hot is the change of the condition alone. -/
theorem enterHot_of_free (hqueue : s.seq.queue = []) (hplan : s.plan = none) : enterHot s = setHot s true := by
  have hfree : ∀ i, (setHot s true).ctx i = Context.free := fun i => by rw [setHot_ctx, hctx i]
  have hvoid : voidRunningHot (setHot s true) = setHot s true := by
    simp [voidRunningHot, voidHot_of_free hfree]
  rw [enterHot, hvoid, stopRow_of_none (by simp [hplan]), settle, arm_of_empty (by simp [hqueue]),
    advanceRaster_of_free hfree]

end NoLabels

/-! #### The values, the slot, Warm and Hot -/

/-- The state in which Hot has been evaluated besides, with no label held. -/
def State.setupHeated (s : State) (v : Setup) : State :=
  if stationFor s.number v.n = .active ∧ v.tStop ≤ s.thermal.t then setHot (s.setupWarmed v) true
  else s.setupWarmed v

section Setup
variable (s : State) (v : Setup)

theorem takeSetup_of_free (hctx : ∀ i, s.ctx i = Context.free) (hqueue : s.seq.queue = []) (hplan : s.plan = none) :
    takeSetup s v = driveLines (s.setupHeated v) := by
  have hwarmed : ∀ i, (s.setupWarmed v).ctx i = Context.free := fun i => by
    have := hctx i
    cases i <;> simpa [State.ctx] using this
  rw [takeSetup_eq, State.setupHeated, enterHot_of_free hwarmed (by simp [hqueue]) (by simp [hplan])]

@[simp] theorem setupHeated_frame : (s.setupHeated v).station = stationFor s.number v.n
    ∧ (s.setupHeated v).number = s.number ∧ (s.setupHeated v).setup = v ∧ (s.setupHeated v).seq = s.seq
    ∧ (s.setupHeated v).ctxA = s.ctxA ∧ (s.setupHeated v).ctxB = s.ctxB ∧ (s.setupHeated v).loader = s.loader
    ∧ (s.setupHeated v).raster = s.raster ∧ (s.setupHeated v).ring = s.ring ∧ (s.setupHeated v).timer = s.timer
    ∧ (s.setupHeated v).plan = s.plan ∧ (s.setupHeated v).head = s.head ∧ (s.setupHeated v).lines = s.lines
    ∧ (s.setupHeated v).peers = (if stationFor s.number v.n = .active then emptyPeers v.n s.number else s.peers)
    ∧ (s.setupHeated v).store = s.store ∧ (s.setupHeated v).freeCount = s.freeCount
    ∧ (s.setupHeated v).pending = s.pending := by
  unfold State.setupHeated
  split <;> simp

theorem setupHeated_thermal : (s.setupHeated v).thermal = { s.thermal with
    warm := decide (v.tSlow ≤ s.thermal.t) || s.thermal.warm
    hot := (decide (stationFor s.number v.n = .active) && decide (v.tStop ≤ s.thermal.t)) || s.thermal.hot } := by
  unfold State.setupHeated
  split <;> rename_i hhot
  · simp [setHot_thermal, setupWarmed_thermal, hhot]
  · have hcold : (decide (stationFor s.number v.n = .active) && decide (v.tStop ≤ s.thermal.t)) = false := by
      simpa using hhot
    rw [setupWarmed_thermal, hcold, Bool.false_or]

theorem setupHeated_onlyTx : s.link.OnlyTx (s.setupHeated v).link := by
  have hwarmed := setupWarmed_onlyTx s v
  unfold State.setupHeated
  split
  · exact hwarmed.trans (setCond_onlyTx _ _ _)
  · exact hwarmed

/-! #### The conditions (R173) -/

theorem examineSlot_changesLatched : ChangesLatched s (examineSlot s) := by
  unfold examineSlot
  split
  · exact .of_report rfl rfl
  · exact ⟨rfl, fun _ => id, fun _ => rfl, fun _ h => absurd rfl h⟩

theorem examineSlot_pending (h : s.report.latches &&& s.setup.mask ≠ 0) : (examineSlot s).report.pending = true := by
  rw [examineSlot, if_neg h]
  rfl

/-- After the slot has been examined no change of a condition goes unlatched. -/
theorem setup_changesLatched : ChangesLatched (examineSlot (s.configured v)) (driveLines (s.setupHeated v)) := by
  have hwarmed : ChangesLatched (examineSlot (s.configured v)) (s.setupWarmed v) := by
    unfold State.setupWarmed
    split
    · exact setWarm_changesLatched _ true
    · exact .of_report rfl rfl
  have hheated : ChangesLatched (s.setupWarmed v) (s.setupHeated v) := by
    unfold State.setupHeated
    split
    · exact setHot_changesLatched _ true
    · exact .of_report rfl rfl
  exact (hwarmed.trans hheated).trans (driveLines_changesLatched _)

/-- A changed latch that the new mask has makes the slot pending. -/
theorem setup_pending (h : s.report.latches &&& v.mask ≠ 0) :
    (driveLines (s.setupHeated v)).report.pending = true :=
  (setup_changesLatched s v).pending (examineSlot_pending (s.configured v) h)

theorem setup_changed (c : Cond)
    (h : c.isIn (driveLines (s.setupHeated v)).report.values ≠ c.isIn s.report.values) :
    c.isIn (driveLines (s.setupHeated v)).report.latches = true
    ∧ (c.isIn v.mask = true → (driveLines (s.setupHeated v)).report.pending = true) :=
  ((examineSlot_changesLatched (s.configured v)).trans (setup_changesLatched s v)).changed c h

/-! #### The values (R169) -/

theorem clamp_zero (hi x : Nat) : clamp 0 hi x = min hi x := by
  rw [clamp, Nat.zero_max]

theorem Setup.ofFrame_eq (n p bm ka kb kc tSlow tStop mask : Nat) : Setup.ofFrame n p bm ka kb kc tSlow tStop mask =
    { n := max 1 (min 4 n), p := max 256 (min 2560 p), bm := max 100 (min 1500 bm),
      ka := min 63 ka, kb := min 63 kb, kc := min 63 kc,
      tSlow := (max 30 (min 85 tSlow) : Nat),
      tStop := (max (max 30 (min 85 tSlow) + 5) (min 90 tStop) : Nat), mask := BitVec.ofNat 7 mask } := by
  simp only [Setup.ofFrame, clamp_zero]
  rfl

end Setup

/-- Outside a label RDY is driven by the station's state alone. -/
theorem rdyCondition_of_free {s : State} (hctx : ∀ i, s.ctx i = Context.free) :
    s.rdyCondition = decide (s.station = .outside) := by
  have ha : s.ctxA = Context.free := hctx .a
  have hb : s.ctxB = Context.free := hctx .b
  simp [State.rdyCondition, ha, hb, Context.free]

theorem exec_setup {s : State} {n p bm ka kb kc tSlow tStop mask : Nat} {rest : List CommandFrame}
    (hq : s.link.commandQueue = .setup n p bm ka kb kc tSlow tStop mask :: rest) (hs : s.station ≠ .starting) :
    exec .setup s = .next (if s.station = .unset
      then takeSetup (popCommand s) (Setup.ofFrame n p bm ka kb kc tSlow tStop mask) else popCommand s) := by
  have hhead : s.commandHead = some (.setup n p bm ka kb kc tSlow tStop mask) := by
    rw [State.commandHead, if_neg hs, hq]
    rfl
  simp only [exec, execSetup, hhead]
  split <;> rfl

/-- What a SETUP does on a station that holds no label. -/
theorem takeSetup_setupTaken (s : State) (v : Setup) (hctx : ∀ i, s.ctx i = Context.free)
    (hqueue : s.seq.queue = []) (hplan : s.plan = none) (hwarm : s.thermal.warm = false)
    (hhot : s.thermal.hot = false) :
    (takeSetup s v).setup = v ∧ (takeSetup s v).station = stationFor s.number v.n
    ∧ (takeSetup s v).peers = (if stationFor s.number v.n = .active then emptyPeers v.n s.number else s.peers)
    ∧ (takeSetup s v).thermal = { s.thermal with
        warm := decide (v.tSlow ≤ s.thermal.t),
        hot := decide (stationFor s.number v.n = .active) && decide (v.tStop ≤ s.thermal.t) }
    ∧ (takeSetup s v).lines.rdyReleased = decide (stationFor s.number v.n = .outside)
    ∧ (takeSetup s v).lines.slwAsserted = (takeSetup s v).thermal.slwCondition
    ∧ (s.report.latches &&& v.mask ≠ 0 → (takeSetup s v).report.pending = true)
    ∧ (∀ c : Cond, c.isIn (takeSetup s v).report.values ≠ c.isIn s.report.values →
        c.isIn (takeSetup s v).report.latches = true
        ∧ (c.isIn v.mask = true → (takeSetup s v).report.pending = true))
    ∧ takeSetup s v = { s with
        station := (takeSetup s v).station, setup := (takeSetup s v).setup, thermal := (takeSetup s v).thermal,
        lines := (takeSetup s v).lines, link := { s.link with tx := (takeSetup s v).link.tx },
        peers := (takeSetup s v).peers, report := (takeSetup s v).report } := by
  have hheated : ∀ i, (s.setupHeated v).ctx i = Context.free := fun i => by
    have := hctx i
    cases i <;> simpa [State.ctx] using this
  have hlink : s.link.OnlyTx (driveLines (s.setupHeated v)).link :=
    (setupHeated_onlyTx s v).trans (driveLines_onlyTx _)
  rw [takeSetup_of_free s v hctx hqueue hplan]
  refine ⟨by simp, by simp, by simp, ?_, ?_, ?_, setup_pending s v, setup_changed s v, ?_⟩
  · simp [setupHeated_thermal, hwarm, hhot]
  · simp [driveLines, rdyCondition_of_free hheated]
  · simp [driveLines]
  · apply State.ext <;> simp
    exact hlink

/-- Settles O51: in UNSET by the parts of a SETUP, which the station takes holding no label. -/
theorem setupTaken : Obligations.SetupTaken := by
  intro s n p bm ka kb kc tSlow tStop mask rest hq
  have hpop : popCommand s = { s with link := { s.link with commandQueue := rest } } := by
    rw [popCommand, hq]
    rfl
  refine ⟨fun hs ha hb hqueue hplan hwarm hhot => ?_, fun hs => ?_⟩
  · obtain ⟨v, hv⟩ : ∃ v, v = Setup.ofFrame n p bm ka kb kc tSlow tStop mask := ⟨_, rfl⟩
    obtain ⟨u, hu⟩ : ∃ u, u = popCommand s := ⟨_, rfl⟩
    have hexec : exec .setup s = .next (takeSetup u v) := by
      rw [exec_setup hq (by simp [hs]), if_pos hs, hu, hv]
    rw [hpop] at hu
    have hctx : ∀ i, u.ctx i = Context.free := fun i => by
      rw [hu]
      cases i
      · exact ha
      · exact hb
    obtain ⟨hsetup, hstation, hpeers, hthermal, hrdy, hslw, hpending, hchanged, hrest⟩ :=
      takeSetup_setupTaken u v hctx (by rw [hu]; exact hqueue) (by rw [hu]; exact hplan) (by rw [hu]; exact hwarm)
        (by rw [hu]; exact hhot)
    refine ⟨_, hexec, by rw [hsetup, hv, Setup.ofFrame_eq], ?_, fun hout => ?_, fun hact => ?_,
      ?_, ?_, hslw, ?_, ?_, ?_⟩
    · rw [hstation, hsetup, stationFor, hu]
    · rw [hpeers, ← hstation, hout, hu]
      rfl
    · rw [hpeers, ← hstation, hact, hsetup, hu]
      rfl
    · rw [hthermal, hstation, hsetup, hu]
    · rw [hrdy, hstation]
    · rw [hsetup]
      rwa [hu] at hpending ⊢
    · rw [hsetup]
      rwa [hu] at hchanged ⊢
    · rw [hu] at hrest ⊢
      exact hrest
  · have hnot : s.station ≠ .starting ∧ s.station ≠ .unset := by rcases hs with hs | hs <;> simp [hs]
    obtain ⟨hstarted, hset⟩ := hnot
    rw [exec_setup hq hstarted, if_neg hset, hpop]

end Sys2Proof.Machine

/-! ### The ends and the begin of a reception (O54) -/

namespace Sys2Proof.Machine

theorem TxState.drives_iff (t : TxState) : t.drives = true ↔ t = .sending ∨ t = .jamming := by
  cases t <;> simp [TxState.drives]

theorem Link.canReceive_iff (l : Link) : l.canReceive = true ↔
    ¬(l.tx.state = .sending ∨ l.tx.state = .jamming) ∧ l.receiver = .receiving := by
  rw [Link.canReceive, Bool.and_eq_true, decide_eq_true_iff, ← TxState.drives_iff, Bool.not_eq_true,
    Bool.not_eq_true']

theorem Link.isQuiet_iff (l : Link) : l.isQuiet = true ↔ 16 ≤ l.quiet ∧ l.held = false := by
  simp [Link.isQuiet]

theorem badFrame_eq (s : State) : badFrame s = { s with link := { s.link with
    counts := if s.station = .starting then s.link.counts
              else { s.link.counts with badFrames := min (s.link.counts.badFrames + 1) 65535 } } } := by
  unfold badFrame
  split
  · rfl
  · rfl

section Receiver
variable {s : State}

theorem acceptFrame_of_not_receiving (h : ¬s.link.canReceive = true) (f : RxFrame) : acceptFrame s f = s :=
  if_neg fun hrec => h hrec.1

theorem receiveError_of_not_receiving (h : ¬s.link.canReceive = true) (e : RxError) : receiveError s e = s :=
  if_neg h

/-- A reception that ends early is a bad frame, but a stuff violation with the line dominant a collision's fragment,
after which the line is held (R136, R146). -/
theorem receiveError_of_receiving (h : s.link.canReceive = true) (e : RxError) : receiveError s e =
    if e = .stuffDominant then
      { s with link := { s.link with receiver := .ignoring, quiet := errorQuiet e, held := true } }
    else badFrame (setReceiver s .ignoring (errorQuiet e)) := by
  rw [receiveError, if_pos h]
  cases e with
  | stuffDominant => rfl
  | badDelimiter sinceEdge => rfl
  | stuffRecessive => rfl
  | lengthAbove480 sinceEdge => rfl

/-- An edge of a line that the station does not drive (R136, R146). -/
theorem frameBegins_of_not_driving (h : ¬s.link.tx.state.drives = true) : frameBegins s = { s with link := { s.link with
    receiver := if 16 ≤ s.link.quiet ∧ s.link.held = false then .receiving else s.link.receiver, quiet := 0,
    held := false } } := by
  rw [frameBegins, if_neg h]
  simp only [Link.isQuiet_iff]
  rfl

/-- The quiet line ends a reception as a bad frame (R136, R146). -/
theorem lineQuiet_of_not_driving (h : ¬s.link.tx.state.drives = true) : lineQuiet s = { s with link := { s.link with
    receiver := .ready, quiet := if s.link.held then 16 else max s.link.quiet 16, held := false,
    counts := if s.station ≠ .starting ∧ s.link.receiver = .receiving then
                { s.link.counts with badFrames := min (s.link.counts.badFrames + 1) 65535 }
              else s.link.counts } } := by
  rw [lineQuiet, if_neg h]
  by_cases hrec : s.link.receiver = .receiving
  · by_cases hs : s.station = .starting
    · simp [hrec, hs, badFrame_eq, State.setLink]
    · simp [hrec, hs, badFrame_eq, State.setLink]
  · simp [hrec, State.setLink]

end Receiver

/-- Settles O54: by what each of the receiver's three events makes of a line that the station does not drive. -/
theorem receiverEvents : Obligations.ReceiverEvents := by
  intro s driving
  have hdrives : s.link.tx.state.drives = true ↔ driving := s.link.tx.state.drives_iff
  refine ⟨fun e hfree hrec => ?_, fun hno => ?_, fun hfree => ?_, fun hdrive => ?_⟩
  · refine congrArg Host.Outcome.next ((receiveError_of_receiving (s.link.canReceive_iff.2 ⟨hfree, hrec⟩) e).trans ?_)
    by_cases he : e = .stuffDominant
    · simp [he, errorQuiet]
    · rw [if_neg he, badFrame_eq]
      simp only [he, decide_false, Bool.or_false, or_false]
      cases e <;> rfl
  · have hno' : ¬s.link.canReceive = true := by
      rw [s.link.canReceive_iff]
      tauto
    exact ⟨fun e => congrArg Host.Outcome.next (receiveError_of_not_receiving hno' e),
      fun f => congrArg Host.Outcome.next (acceptFrame_of_not_receiving hno' f)⟩
  · have hfree' := mt hdrives.1 hfree
    exact ⟨congrArg Host.Outcome.next (lineQuiet_of_not_driving hfree'),
      congrArg Host.Outcome.next (frameBegins_of_not_driving hfree')⟩
  · have hdrive' := hdrives.2 hdrive
    exact ⟨congrArg Host.Outcome.next (if_pos hdrive'), congrArg Host.Outcome.next (if_pos hdrive')⟩

end Sys2Proof.Machine

/-! ### QUERY, CLEAR and a change of a condition (O52) -/

namespace Sys2Proof.Machine

/-! #### Sets of conditions, by their conditions (table 12-4) -/

theorem CondSet.eq_of_isIn {a b : CondSet} (h : ∀ c : Cond, c.isIn a = c.isIn b) : a = b := by
  refine BitVec.eq_of_getLsbD_eq fun i hi => ?_
  obtain ⟨c, rfl⟩ : ∃ c : Cond, c.index = i := by
    interval_cases i
    exacts [⟨.warm, rfl⟩, ⟨.hot, rfl⟩, ⟨.slow, rfl⟩, ⟨.storeFault, rfl⟩, ⟨.framesDropped, rfl⟩, ⟨.reportsDropped, rfl⟩,
      ⟨.unexpectedTof, rfl⟩]
  exact h c

theorem CondSet.ne_zero_iff (m : CondSet) : m ≠ 0 ↔ ∃ c : Cond, c.isIn m = true := by
  refine ⟨fun h => ?_, fun ⟨c, hc⟩ h => ?_⟩
  · by_contra hno
    exact h (CondSet.eq_of_isIn fun c => by
      rw [Bool.eq_false_iff.2 fun hc => hno ⟨c, hc⟩]
      simp [Cond.isIn])
  · simp [h, Cond.isIn] at hc

theorem Cond.isIn_and (c : Cond) (a b : CondSet) : c.isIn (a &&& b) = (c.isIn a && c.isIn b) := by
  simp [Cond.isIn]

theorem Cond.isIn_or (c : Cond) (a b : CondSet) : c.isIn (a ||| b) = (c.isIn a || c.isIn b) := by
  simp [Cond.isIn]

/-- The condition stays set until CLEAR (11.4). -/
def Cond.isSticky : Cond → Bool
  | .storeFault | .framesDropped | .reportsDropped | .unexpectedTof => true
  | .warm | .hot | .slow => false

theorem Cond.isIn_sticky (c : Cond) : c.isIn 120#7 = c.isSticky := by cases c <;> rfl

theorem Cond.isIn_current (c : Cond) : c.isIn 7#7 = !c.isSticky := by cases c <;> rfl

/-! #### A change of a condition (R173, R174) -/

theorem Tx.wake_state (t : Tx) : t.wake.state = if t.state = .idle then .deferring else t.state := by
  unfold Tx.wake
  split <;> rfl

@[simp] theorem Tx.noteChange_attempts (t : Tx) (c : Cond) : (t.noteChange c).attempts = t.attempts := by
  unfold Tx.noteChange
  split <;> rfl

section Change
variable {s : State} {c : Cond} {v : Bool}

theorem setCond_of_same (h : c.isIn s.report.values = v) : setCond s c v = s := if_pos h

/-- The transmitter after a change: the change is noted with a condition record being attempted, and a pending slot
wakes the idle transmitter (R140, R174). -/
theorem setCond_tx_of_change (h : c.isIn s.report.values ≠ v) : (setCond s c v).link.tx =
    if (setCond s c v).report.pending then (s.link.tx.noteChange c).wake else s.link.tx.noteChange c := by
  simp only [setCond, if_neg h]
  rfl

theorem setCond_txState_of_change (h : c.isIn s.report.values ≠ v) : (setCond s c v).link.tx.state =
    if s.link.tx.state = .idle ∧ (setCond s c v).report.pending = true then .deferring else s.link.tx.state := by
  rw [setCond_tx_of_change h]
  by_cases hp : (setCond s c v).report.pending = true <;> simp [hp, Tx.wake_state]

theorem setCond_txAttempts_of_change (h : c.isIn s.report.values ≠ v) :
    (setCond s c v).link.tx.attempts = s.link.tx.attempts := by
  rw [setCond_tx_of_change h]
  split <;> simp

theorem setCond_txInHand_of_change (h : c.isIn s.report.values ≠ v) :
    (setCond s c v).link.tx.inHand = (s.link.tx.noteChange c).inHand := by
  rw [setCond_tx_of_change h]
  split <;> simp

theorem setCond_latched (s : State) (c d : Cond) (v : Bool) : d.isIn (setCond s c v).report.latches
    = (d.isIn s.report.latches || (decide (d = c) && decide (c.isIn s.report.values ≠ v))) := by
  rw [setCond_latches]
  split <;> simp [*]

end Change

/-! #### The sticky conditions cleared (R172) -/

theorem clearSticky_isIn (s : State) (c : Cond) :
    c.isIn (clearSticky s).report.values = (c.isIn s.report.values && !c.isSticky) := by
  cases c <;> simp [clearSticky, setCond_isIn_other, Cond.isSticky]

theorem clearSticky_latched (s : State) (c : Cond) : c.isIn (clearSticky s).report.latches
    = (c.isIn s.report.latches || (c.isIn s.report.values && c.isSticky)) := by
  cases c <;> simp [clearSticky, setCond_latched, setCond_isIn_other, Cond.isSticky]

theorem clearSticky_pending (s : State) : (clearSticky s).report.pending = true ↔
    s.report.pending = true ∨ ∃ c : Cond, c.isSticky = true ∧ c.isIn s.report.values = true ∧ c.isIn s.setup.mask = true := by
  have hsome : (∃ c : Cond, c.isSticky = true ∧ c.isIn s.report.values = true ∧ c.isIn s.setup.mask = true) ↔
      ∃ c ∈ [Cond.storeFault, .framesDropped, .reportsDropped, .unexpectedTof],
        c.isIn s.report.values = true ∧ c.isIn s.setup.mask = true :=
    exists_congr fun c => and_congr_left fun _ => by cases c <;> simp [Cond.isSticky]
  rw [hsome]
  simp [clearSticky, setCond_pending, setCond_isIn_other]
  tauto

theorem clearSticky_onlyTx (s : State) : s.link.OnlyTx (clearSticky s).link :=
  (((setCond_onlyTx s _ _).trans (setCond_onlyTx _ _ _)).trans (setCond_onlyTx _ _ _)).trans (setCond_onlyTx _ _ _)

@[simp] theorem clearSticky_queue (s : State) : (clearSticky s).report.queue = s.report.queue := by
  simp [clearSticky]

theorem clearSticky_eq_set (s : State) : clearSticky s = { s with
    link := { s.link with tx := (clearSticky s).link.tx }, report := (clearSticky s).report } := by
  ext1 <;> simp
  exact clearSticky_onlyTx s

/-! #### The commands QUERY and CLEAR -/

section Commands
variable {s : State} {rest : List CommandFrame}

theorem exec_query (hs : s.station ≠ .starting) (hq : s.link.commandQueue = .query :: rest) :
    exec .query s = .next (pushRecord { s with link := { s.link with commandQueue := rest } } (.ident s.ident)) := by
  simp [exec, execQuery, State.commandHead, hs, hq, popCommand_eq hq]
  rfl

theorem exec_clear (hs : s.station ≠ .starting) (hq : s.link.commandQueue = .clear :: rest) :
    exec .clear s = .next (clearSticky { s with link := { s.link with commandQueue := rest, counts := Counts.zero } }) := by
  simp [exec, execClear, State.commandHead, hs, hq, popCommand_eq hq, clearCounts, State.setLink]

end Commands

/-- Settles O52: by the branches of a change; QUERY hands one record, and CLEAR makes four changes. -/
theorem queryAndClear : Obligations.QueryAndClear := by
  refine ⟨fun s c v => ?_, fun s rest hs => ⟨fun hq => ?_, fun hq => ?_⟩⟩
  · refine ⟨setCond_of_same, fun hc => ⟨setCond_isIn_same s c v, ?_, fun d hd => ⟨setCond_isIn_other s c d v hd, ?_⟩, ?_,
      setCond_queue s c v, setCond_txState_of_change hc, setCond_txAttempts_of_change hc, ?_, setCond_eq_set s c v⟩⟩
    · simp [setCond_latched, hc]
    · simp [setCond_latched, hd]
    · simp [setCond_pending, hc]
    · rw [setCond_txInHand_of_change hc]
      unfold Tx.noteChange
      split <;> simp_all
  · let u : State := { s with link := { s.link with commandQueue := rest } }
    obtain ⟨hroom, hfull⟩ := pushRecord_placed u (.ident s.ident)
    refine ⟨pushRecord u (.ident s.ident), exec_query hs hq, ?_, fun hlen => ?_, hfull⟩
    · ext1 <;> simp [u]
      exact pushRecord_onlyTx u _
    · rw [pushRecord_of_room (s := u) hlen]
      rfl
  · let u : State := { s with link := { s.link with commandQueue := rest, counts := Counts.zero } }
    have hcounts : (clearSticky u).link.counts = Counts.zero := (clearSticky_onlyTx u).counts
    refine ⟨clearSticky u, exec_clear hs hq, ?_, hcounts, ?_, ?_, ?_, clearSticky_queue u⟩
    · rw [hcounts]
      exact clearSticky_eq_set u
    · exact CondSet.eq_of_isIn fun c => by rw [clearSticky_isIn, Cond.isIn_and, Cond.isIn_current]
    · exact CondSet.eq_of_isIn fun c => by
        rw [clearSticky_latched, Cond.isIn_or, Cond.isIn_and, Cond.isIn_sticky]
    · rw [Bool.eq_iff_iff, clearSticky_pending, Bool.or_eq_true, decide_eq_true_iff, CondSet.ne_zero_iff]
      simp only [Cond.isIn_and, Cond.isIn_sticky, Bool.and_eq_true]
      exact or_congr_right (exists_congr fun c => by tauto)

end Sys2Proof.Machine

/-! ### A complete frame is tested and routed (O53) -/

namespace Sys2Proof.Machine

section Routing
variable {s : State} {f : RxFrame}

theorem State.isFor_iff (s : State) (dest : Nat) : s.isFor dest = true ↔ dest = s.number ∨ dest = 15 := by
  rw [State.isFor, Bool.or_eq_true, decide_eq_true_iff, decide_eq_true_iff, Config.broadcastAddress]

theorem acceptFrame_of_long (h : 480 < f.payload.length) : acceptFrame s f = s :=
  if_neg fun hrec => Nat.not_le.2 h hrec.2

/-- Test 1 of R147. -/
theorem acceptFrame_of_bad_check (hrec : s.link.canReceive = true) (hlen : f.payload.length ≤ 480)
    (hcheck : f.check ≠ checkOf (checkedBytes f.address f.kind f.payload)) :
    acceptFrame s f = badFrame (setReceiver s .ready (frameEndQuiet f)) := by
  rw [acceptFrame, if_pos ⟨hrec, hlen⟩, if_neg hcheck]

/-- With the right check, the tests of R147 that are left. -/
theorem acceptFrame_of_good_check (hrec : s.link.canReceive = true) (hlen : f.payload.length ≤ 480)
    (hcheck : f.check = checkOf (checkedBytes f.address f.kind f.payload)) :
    acceptFrame s f = acceptChecked (setReceiver s .ready (frameEndQuiet f)) f.address f.kind f.payload := by
  rw [acceptFrame, if_pos ⟨hrec, hlen⟩, if_pos hcheck]

theorem acceptChecked_of_other {address : Byte} (h : ¬s.isFor (destOf address) = true) (kind : Byte) (p : List Byte) :
    acceptChecked s address kind p = s := if_neg h

theorem acceptChecked_of_bad_payload {address kind : Byte} {p : List Byte} (hfor : s.isFor (destOf address) = true)
    (hparse : parsePayload kind p = none) : acceptChecked s address kind p = badFrame s := by
  rw [acceptChecked, if_pos hfor, hparse]

theorem acceptChecked_of_payload {address kind : Byte} {p : List Byte} {x : Payload}
    (hfor : s.isFor (destOf address) = true) (hparse : parsePayload kind p = some x) :
    acceptChecked s address kind p = if s.station = .starting then s else route s (sourceOf address) x := by
  rw [acceptChecked, if_pos hfor, hparse]

theorem parsePayload_of_record {kind : Byte} (h : kind = 0x50#8 ∨ kind = 0x51#8) (p : List Byte) :
    parsePayload kind p = some .ignored := by
  rcases h with rfl | rfl <;> simp [parsePayload]

theorem enqueueCommand_of_room (h : s.link.commandQueue.length < 4) (c : CommandFrame) : enqueueCommand s c =
    { s with link := { s.link with commandQueue := s.link.commandQueue ++ [c] } } := if_pos h

theorem enqueueCommand_of_full (h : 4 ≤ s.link.commandQueue.length) (c : CommandFrame) :
    enqueueCommand s c = countDropped s := if_neg (Nat.not_lt.2 h)

theorem enqueueStore_of_room (h : s.link.storeQueue.length < 4) (c : StoreFrame) : enqueueStore s c =
    { s with link := { s.link with storeQueue := s.link.storeQueue ++ [c] } } := if_pos h

theorem enqueueStore_of_full (h : 4 ≤ s.link.storeQueue.length) (c : StoreFrame) :
    enqueueStore s c = countDropped s := if_neg (Nat.not_lt.2 h)

/-- A frame dropped is counted, and sets Frames dropped (R149). -/
theorem next_countDropped (u : State) : ∃ t, Host.Outcome.next (countDropped u) = (.next t : Host.Outcome State Fault Refusal)
    ∧ t = { u with report := t.report, link := { u.link with
        tx := t.link.tx, counts := { u.link.counts with dropped := min (u.link.counts.dropped + 1) 65535 } } }
    ∧ Cond.framesDropped.isIn t.report.values = true ∧ t.report.queue = u.report.queue := by
  refine ⟨_, rfl, ?_⟩
  rw [countDropped_eq]
  exact ⟨setCond_eq_set _ _ _, setCond_isIn_same _ _ _, setCond_queue _ _ _⟩

end Routing

/-- Settles O53: by the tests of R147 in their order, and the queue that takes the frame. -/
theorem framesRouted : Obligations.FramesRouted := by
  intro f s hrec
  refine ⟨fun hlong => congrArg Host.Outcome.next (acceptFrame_of_long hlong), fun hlen => ?_⟩
  intro quiet bad good mine
  have hquiet : setReceiver s .ready (frameEndQuiet f) = quiet := rfl
  have hbad : badFrame quiet = bad := by
    unfold badFrame
    rfl
  have hfor : quiet.isFor (destOf f.address) = true ↔ mine := State.isFor_iff quiet (destOf f.address)
  have hgood : good → acceptFrame s f = acceptChecked quiet f.address f.kind f.payload :=
    acceptFrame_of_good_check hrec hlen
  have hroute {x : Payload} (hg : good) (hm : mine) (hs : s.station ≠ .starting)
      (hparse : parsePayload f.kind f.payload = some x) :
      exec (.frameAccepted f) s = .next (route quiet (sourceOf f.address) x) :=
    congrArg Host.Outcome.next (acceptFrame_of_passes hrec hlen hg (hfor.2 hm) hparse hs)
  refine ⟨fun hg => congrArg Host.Outcome.next ?_, fun hg hm => congrArg Host.Outcome.next ?_,
    fun hg hm hparse => congrArg Host.Outcome.next ?_, fun hg hm hparse hs => congrArg Host.Outcome.next ?_,
    fun hg hm hkind => congrArg Host.Outcome.next ?_, fun c hg hm hs hparse => ?_, fun c hg hm hs hparse => ?_⟩
  · rw [acceptFrame_of_bad_check hrec hlen hg, hquiet, hbad]
  · rw [hgood hg, acceptChecked_of_other (mt hfor.1 hm)]
  · rw [hgood hg, acceptChecked_of_bad_payload (hfor.2 hm) hparse, hbad]
  · obtain ⟨x, hx⟩ := Option.ne_none_iff_exists'.1 hparse
    rw [hgood hg, acceptChecked_of_payload (hfor.2 hm) hx]
    exact if_pos hs
  · rw [hgood hg, acceptChecked_of_payload (hfor.2 hm) (parsePayload_of_record hkind _)]
    exact ite_self quiet
  · rw [hroute hg hm hs hparse]
    refine ⟨fun hroom => congrArg Host.Outcome.next (enqueueCommand_of_room (s := quiet) hroom c), fun hfull => ?_⟩
    rw [route, enqueueCommand_of_full (s := quiet) hfull]
    exact next_countDropped quiet
  · rw [hroute hg hm hs hparse]
    refine ⟨fun hroom => congrArg Host.Outcome.next (enqueueStore_of_room (s := quiet) hroom c), fun hfull => ?_⟩
    rw [route, enqueueStore_of_full (s := quiet) hfull]
    exact next_countDropped quiet

end Sys2Proof.Machine

/-! ### The stuffing of a frame's bits (O16) -/

namespace Sys2Proof.Machine

/-- The length of the run that a bit of level `b` ends (R135). -/
def nextRun (last : Bool) (run : Nat) (b : Bool) : Nat := if b = last then run + 1 else 1

theorem stuffFrom_cons_full {last b : Bool} {run : Nat} (h : nextRun last run b = 8) (bits : List Bool) :
    stuffFrom last run (b :: bits) = b :: (!b) :: stuffFrom (!b) 1 bits := if_pos h

theorem stuffFrom_cons_short {last b : Bool} {run : Nat} (h : nextRun last run b ≠ 8) (bits : List Bool) :
    stuffFrom last run (b :: bits) = b :: stuffFrom b (nextRun last run b) bits := if_neg h

theorem nextRun_le {last : Bool} {run : Nat} (h : run < 8) (b : Bool) : nextRun last run b ≤ 8 := by
  unfold nextRun
  split <;> omega

theorem nextRun_lt {last b : Bool} {run : Nat} (h : run < 8) (hb : nextRun last run b ≠ 8) : nextRun last run b < 8 :=
  Nat.lt_of_le_of_ne (nextRun_le h b) hb

/-- A level that begins a run is the first of it, whatever came before. -/
theorem cons_stuffFrom (last b : Bool) (bits : List Bool) : b :: stuffFrom b 1 bits = stuffFrom last 0 (b :: bits) := by
  have hrun : nextRun last 0 b = 1 := by simp [nextRun]
  rw [stuffFrom_cons_short (by simp [hrun]), hrun]

/-! #### The receiver recovers the bits (R146) -/

theorem unstuffFrom_cons_short {run : Nat} (h : run < 8) (last b : Bool) (out : List Bool) :
    unstuffFrom last run (b :: out) = (unstuffFrom b (nextRun last run b) out).map fun r => b :: r :=
  if_neg (Nat.ne_of_lt h)

theorem unstuffFrom_stuffBit (last : Bool) (out : List Bool) :
    unstuffFrom last 8 ((!last) :: out) = unstuffFrom (!last) 1 out := by
  simp [unstuffFrom]

theorem unstuffFrom_stuffFrom {last : Bool} {run : Nat} (h : run < 8) (bits : List Bool) :
    unstuffFrom last run (stuffFrom last run bits) = some bits := by
  induction bits generalizing last run with
  | nil => rfl
  | cons b bits ih =>
    by_cases hfull : nextRun last run b = 8
    · rw [stuffFrom_cons_full hfull, unstuffFrom_cons_short h, hfull, unstuffFrom_stuffBit, ih (by decide)]
      rfl
    · rw [stuffFrom_cons_short hfull, unstuffFrom_cons_short h, ih (nextRun_lt h hfull)]
      rfl

/-! #### The runs that are driven (R135) -/

/-- What is driven from any bit on is again the stuffing of bits. -/
theorem stuffFrom_suffix {last : Bool} {run : Nat} {bits pre rest : List Bool} (h : run < 8)
    (hout : stuffFrom last run bits = pre ++ rest) :
    ∃ last' run' bits', run' < 8 ∧ rest = stuffFrom last' run' bits' := by
  induction bits generalizing last run pre with
  | nil =>
    obtain ⟨-, rfl⟩ := List.append_eq_nil_iff.1 hout.symm
    exact ⟨last, run, [], h, rfl⟩
  | cons b bits ih =>
    cases pre with
    | nil => exact ⟨last, run, b :: bits, h, hout.symm⟩
    | cons p pre =>
      by_cases hfull : nextRun last run b = 8
      · rw [stuffFrom_cons_full hfull, cons_stuffFrom b] at hout
        cases pre with
        | nil => exact ⟨b, 0, (!b) :: bits, by decide, (List.cons.inj hout).2.symm⟩
        | cons q pre =>
          rw [← cons_stuffFrom] at hout
          exact ih (by decide) (List.cons.inj (List.cons.inj hout).2).2
      · rw [stuffFrom_cons_short hfull] at hout
        exact ih (nextRun_lt h hfull) (List.cons.inj hout).2

/-- A run that goes on from the bits before it reaches 8 bits at most, and fewer when the frame ends with it. -/
theorem stuffFrom_run_le {last b : Bool} {run n : Nat} {bits post : List Bool} (h : run < 8)
    (hout : stuffFrom last run bits = List.replicate n b ++ post) :
    n + (if b = last then run else 0) ≤ 8 ∧ (post = [] → n + (if b = last then run else 0) < 8) := by
  induction bits generalizing last run n with
  | nil =>
    obtain ⟨hn, -⟩ := List.append_eq_nil_iff.1 hout.symm
    obtain rfl : n = 0 := by simpa using hn
    split <;> omega
  | cons c bits ih =>
    cases n with
    | zero => split <;> omega
    | succ n =>
      rw [List.replicate_succ, List.cons_append] at hout
      have hrun : (if b = last then run else 0) + 1 = nextRun last run b := by
        unfold nextRun
        split <;> rfl
      by_cases hfull : nextRun last run c = 8
      · rw [stuffFrom_cons_full hfull] at hout
        obtain ⟨rfl, hstuff⟩ := List.cons.inj hout
        cases n with
        | zero =>
          refine ⟨by omega, fun hpost => ?_⟩
          simp [hpost] at hstuff
        | succ n => simp [List.replicate_succ] at hstuff
      · rw [stuffFrom_cons_short hfull] at hout
        obtain ⟨rfl, hrest⟩ := List.cons.inj hout
        obtain ⟨hle, hlt⟩ := ih (nextRun_lt h hfull) hrest
        rw [if_pos rfl] at hle hlt
        exact ⟨by omega, fun hpost => by have := hlt hpost; omega⟩

theorem stuff_run_le {bits pre post : List Bool} {n : Nat} {b : Bool}
    (hout : stuff bits = pre ++ (List.replicate n b ++ post)) : n ≤ 8 ∧ (post = [] → n < 8) := by
  obtain ⟨last, run, bits', hrun, hrest⟩ := stuffFrom_suffix (by decide) hout
  obtain ⟨hle, hlt⟩ := stuffFrom_run_le hrun hrest.symm
  exact ⟨by omega, fun hpost => by have := hlt hpost; omega⟩

/-- The ones that end what is driven are fewer than 8. -/
theorem stuff_final_ones (bits : List Bool) : ((stuff bits).reverse.takeWhile id).length < 8 := by
  have hones : (stuff bits).reverse.takeWhile id
      = List.replicate ((stuff bits).reverse.takeWhile id).length true :=
    List.eq_replicate_of_mem fun x hx => List.mem_takeWhile_imp (p := id) hx
  have hout : stuff bits = ((stuff bits).reverse.dropWhile id).reverse
      ++ (List.replicate ((stuff bits).reverse.takeWhile id).length true ++ []) := by
    rw [List.append_nil, ← List.reverse_replicate, ← hones, ← List.reverse_append, List.takeWhile_append_dropWhile,
      List.reverse_reverse]
  exact (stuff_run_le hout).2 rfl

/-- Settles O16: the receiver follows the sender's run, which a stuff bit ends at 8. -/
theorem stuffingRoundTrip : Obligations.StuffingRoundTrip := by
  refine ⟨fun bits => ⟨unstuffFrom_stuffFrom (by decide) bits, fun pre run post b hout hrun => ?_,
    fun pre b hout => ?_⟩, fun f => ?_⟩
  · rw [List.eq_replicate_of_mem hrun, List.append_assoc] at hout
    exact (stuff_run_le hout).1
  · rw [← List.append_nil (List.replicate 8 b)] at hout
    exact absurd ((stuff_run_le hout).2 rfl) (by decide)
  · exact Nat.le_trans (Nat.min_le_right _ _) (Nat.le_of_lt_succ (stuff_final_ones (frameBits f)))

end Sys2Proof.Machine

/-! ### Received payloads: read back, and bad ones (O15) -/

namespace Sys2Proof.Machine

/-! #### Numbers in bytes -/

theorem toNat_byteOf {n : Nat} (h : n < 256) : (byteOf n).toNat = n := by
  rw [byteOf, BitVec.toNat_ofNat]
  exact Nat.mod_eq_of_lt h

theorem natOf_be32 {n : Nat} (h : n < 4294967296) : natOf (be32 n) = n := by
  simp only [natOf, be32, be16, byteOf, List.cons_append, List.nil_append, List.foldl_cons, List.foldl_nil,
    BitVec.toNat_ofNat]
  omega

/-! #### The layout that each kind's payload is tested by (R147, R148) -/

section Kinds
variable (p : List Byte)

theorem parsePayload_of_setup : parsePayload 0x10#8 p = parseSetup p := by simp [parsePayload]

theorem parsePayload_of_query : parsePayload 0x11#8 p = if p = [] then some (.command .query) else none := by
  simp [parsePayload]

theorem parsePayload_of_clear : parsePayload 0x12#8 p = if p = [] then some (.command .clear) else none := by
  simp [parsePayload]

theorem parsePayload_of_job : parsePayload 0x20#8 p = parseJob p := by simp [parsePayload]

theorem parsePayload_of_cancel :
    parsePayload 0x21#8 p = if p.length = 2 then some (.command (.cancel (natOf p))) else none := by
  simp [parsePayload]

theorem parsePayload_of_storeBegin : parsePayload 0x30#8 p = parseStoreBegin p := by simp [parsePayload]

theorem parsePayload_of_storeData : parsePayload 0x31#8 p = parseStoreData p := by simp [parsePayload]

theorem parsePayload_of_storeEnd :
    parsePayload 0x32#8 p = if p.length = 2 then some (.store (.stop (BitVec.ofNat 16 (natOf p)))) else none := by
  simp [parsePayload]

theorem parsePayload_of_storeDelete :
    parsePayload 0x33#8 p = if p.length = 1 then some (.store (.delete (natOf p))) else none := by
  simp [parsePayload]

theorem parsePayload_of_void :
    parsePayload 0x41#8 p = if p.length = 3 then some (.void (natOf (p.take 2))) else none := by
  simp [parsePayload]

theorem parsePayload_of_unknown {kind : Byte} (h : kind ∉ [0x10#8, 0x11#8, 0x12#8, 0x20#8, 0x21#8, 0x30#8, 0x31#8,
    0x32#8, 0x33#8, 0x40#8, 0x41#8, 0x50#8, 0x51#8]) : parsePayload kind p = none := by
  simp only [List.mem_cons, List.not_mem_nil, or_false, not_or] at h
  simp [parsePayload, h]

end Kinds

/-- A layout of one length alone. -/
theorem ite_some_eq_none_iff {c : Prop} [Decidable c] (x : Payload) : (if c then some x else none) = none ↔ ¬c := by
  split <;> simp [*]

/-! #### The field entries of a JOB (R176) -/

/-- A field entry's bytes: its number, the length of its value, the value (12.1). -/
def entryBytes (e : Byte × List Byte) : List Byte := e.1 :: BitVec.ofNat 8 e.2.length :: e.2

theorem parseFields_entryBytes {es : List (Byte × List Byte)} (h : ∀ e ∈ es, e.2.length ≤ 240) :
    parseFields es.length (es.flatMap entryBytes)
      = some (es.map fun e => { number := lowBits e.1, value := e.2 }) := by
  induction es with
  | nil => rfl
  | cons e es ih =>
    have hle : e.2.length ≤ 240 := h e (by simp)
    have hlen : (BitVec.ofNat 8 e.2.length).toNat = e.2.length := toNat_byteOf (Nat.lt_of_le_of_lt hle (by decide))
    rw [List.flatMap_cons, entryBytes, List.cons_append, List.cons_append, List.length_cons, parseFields, hlen,
      if_pos ⟨hle, by simp⟩, List.drop_left, List.take_left, ih fun x hx => h x (by simp [hx])]
    rfl

theorem entryBytes_of_parseFields {n : Nat} {p : List Byte} {fs : List Field} (h : parseFields n p = some fs) :
    ∃ es : List (Byte × List Byte), p = es.flatMap entryBytes ∧ es.length = n ∧ ∀ e ∈ es, e.2.length ≤ 240 := by
  induction n generalizing p fs with
  | zero =>
    cases p with
    | nil => exact ⟨[], rfl, rfl, by simp⟩
    | cons b p => cases h
  | succ n ih =>
    match p, h with
    | number :: len :: rest, h =>
      rw [parseFields] at h
      split at h
      · rename_i hfit
        obtain ⟨h240, hrest⟩ := hfit
        obtain ⟨fs', hparse, -⟩ := Option.map_eq_some_iff.1 h
        obtain ⟨es, hdrop, hcount, hes⟩ := ih hparse
        have htake : (rest.take len.toNat).length = len.toNat := by simpa using hrest
        refine ⟨(number, rest.take len.toNat) :: es, ?_, by simp [hcount], ?_⟩
        · rw [List.flatMap_cons, ← hdrop, entryBytes, htake, BitVec.ofNat_toNat, BitVec.setWidth_eq, List.cons_append,
            List.cons_append, List.take_append_drop]
        · rintro e (_ | ⟨_, he⟩)
          · exact htake.trans_le h240
          · exact hes e he
      · cases h

theorem parseJob_cons (s1 s0 form dark count : Byte) (rest : List Byte) :
    parseJob (s1 :: s0 :: form :: dark :: count :: rest) = if lowBits count ≤ 16 then
      (parseFields (lowBits count) rest).map fun fs => .command (.job (natOf [s1, s0]) form.toNat dark.toNat fs)
    else none := rfl

theorem parseJob_of_entries {s1 s0 form dark count : Byte} {es : List (Byte × List Byte)}
    (hcount : lowBits count = es.length) (h16 : es.length ≤ 16) (h240 : ∀ e ∈ es, e.2.length ≤ 240) :
    parseJob (s1 :: s0 :: form :: dark :: count :: es.flatMap entryBytes)
      = some (.command (.job (natOf [s1, s0]) form.toNat dark.toNat
          (es.map fun e => { number := lowBits e.1, value := e.2 }))) := by
  rw [parseJob_cons, hcount, if_pos h16, parseFields_entryBytes h240]
  rfl

theorem parseJob_eq_none_iff (p : List Byte) : parseJob p = none ↔
    ¬∃ (s1 s0 form dark count : Byte) (es : List (Byte × List Byte)),
      p = [s1, s0, form, dark, count] ++ es.flatMap entryBytes
      ∧ es.length = count.toNat % 128 ∧ es.length ≤ 16 ∧ ∀ e ∈ es, e.2.length ≤ 240 := by
  refine ⟨?_, fun hno => ?_⟩
  · rintro hbad ⟨s1, s0, form, dark, count, es, rfl, hcount, h16, h240⟩
    cases hbad.symm.trans (parseJob_of_entries hcount.symm h16 h240)
  · by_contra hsome
    obtain ⟨x, hx⟩ := Option.ne_none_iff_exists'.1 hsome
    match p, hx with
    | s1 :: s0 :: form :: dark :: count :: rest, hx =>
      rw [parseJob_cons] at hx
      split at hx
      · rename_i h16
        obtain ⟨fs, hparse, -⟩ := Option.map_eq_some_iff.1 hx
        obtain ⟨es, rfl, hcount, h240⟩ := entryBytes_of_parseFields hparse
        exact hno ⟨s1, s0, form, dark, count, es, rfl, hcount, hcount.trans_le h16, h240⟩
      · cases hx

/-! #### The demands of a DEMAND (R147) -/

theorem parseDemands_of_length {p : List Byte} {c : Nat} (h : p.length = 2 * c) : ∃ ds, parseDemands p = some ds := by
  induction c generalizing p with
  | zero => exact ⟨[], by rw [List.length_eq_zero_iff.1 h]; rfl⟩
  | succ c ih =>
    match p, h with
    | d1 :: d0 :: rest, h =>
      obtain ⟨ds, hds⟩ := ih (p := rest) (by simpa [Nat.mul_succ] using h)
      exact ⟨natOf [d1, d0] :: ds, by rw [parseDemands, hds]; rfl⟩

theorem parseDemand_cons (s1 s0 r1 r0 count : Byte) (rest : List Byte) :
    parseDemand (s1 :: s0 :: r1 :: r0 :: count :: rest) =
      if 1 ≤ lowBits count ∧ lowBits count ≤ 4 ∧ rest.length = 2 * lowBits count then
        (parseDemands rest).map fun ds => .demand (natOf [s1, s0]) (natOf [r1, r0]) ds
      else none := rfl

theorem parseDemand_eq_none_iff (p : List Byte) : parseDemand p = none ↔
    ¬∃ c, 1 ≤ c ∧ c ≤ 4 ∧ p.length = 5 + 2 * c ∧ (p.getD 4 0).toNat % 128 = c := by
  refine ⟨?_, fun hno => ?_⟩
  · rintro hbad ⟨c, h1, h4, hlen, hcount⟩
    have h5 : 5 ≤ p.length := by omega
    match p, h5, hlen with
    | s1 :: s0 :: r1 :: r0 :: count :: rest, _, hlen =>
      have hc : lowBits count = c := hcount
      have hrest : rest.length = 2 * c := by
        simp only [List.length_cons] at hlen
        omega
      obtain ⟨ds, hds⟩ := parseDemands_of_length hrest
      rw [parseDemand_cons, hc, if_pos ⟨h1, h4, hrest⟩, hds] at hbad
      cases hbad
  · by_contra hsome
    obtain ⟨x, hx⟩ := Option.ne_none_iff_exists'.1 hsome
    match p, hx with
    | s1 :: s0 :: r1 :: r0 :: count :: rest, hx =>
      rw [parseDemand_cons] at hx
      split at hx
      · rename_i hfit
        obtain ⟨h1, h4, hrest⟩ := hfit
        exact hno ⟨lowBits count, h1, h4, by simp only [List.length_cons]; omega, rfl⟩
      · cases hx

theorem parseDemand_encodeDemand {seq first : Nat} {ds : List Nat} (hseq : seq < 65536) (hfirst : first < 65536)
    (hds : ∀ d ∈ ds, d < 65536) (hlen : ds.length < 256) : parseDemand (encodeDemand seq first ds)
      = if 1 ≤ ds.length ∧ ds.length ≤ 4 then some (.demand seq first ds) else none := by
  have hs : natOf [byteOf (seq / 256), byteOf seq] = seq := natOf_be16 hseq
  have hf : natOf [byteOf (first / 256), byteOf first] = first := natOf_be16 hfirst
  have hfit : (1 ≤ lowBits (byteOf ds.length) ∧ lowBits (byteOf ds.length) ≤ 4
      ∧ (ds.flatMap be16).length = 2 * lowBits (byteOf ds.length)) ↔ 1 ≤ ds.length ∧ ds.length ≤ 4 := by
    rw [length_flatMap_be16, lowBits, toNat_byteOf hlen]
    omega
  simp only [encodeDemand, be16, List.cons_append, List.nil_append, parseDemand_cons, hs, hf, hfit,
    parseDemands_flatMap_be16 hds]
  rfl

/-! #### Layouts of a fixed length -/

theorem parseSetup_eq_none_iff (p : List Byte) : parseSetup p = none ↔ p.length ≠ 11 := by
  refine ⟨fun hbad hlen => ?_, fun hlen => ?_⟩
  · match p, hlen with
    | [n, p1, p0, b1, b0, ka, kb, kc, ts, tp, mask], _ => cases hbad
  · unfold parseSetup
    split
    · exact absurd rfl hlen
    · rfl

theorem parseStoreBegin_eq_none_iff (p : List Byte) : parseStoreBegin p = none ↔ p.length ≠ 6 := by
  refine ⟨fun hbad hlen => ?_, fun hlen => ?_⟩
  · match p, hlen with
    | [number, kind, l3, l2, l1, l0], _ => cases hbad
  · unfold parseStoreBegin
    split
    · exact absurd rfl hlen
    · rfl

theorem parseStoreData_cons (o3 o2 o1 o0 : Byte) (bytes : List Byte) : parseStoreData (o3 :: o2 :: o1 :: o0 :: bytes) =
    if 1 ≤ bytes.length ∧ bytes.length ≤ 256 then some (.store (.data (natOf [o3, o2, o1, o0]) bytes)) else none := rfl

theorem parseStoreData_eq_none_iff (p : List Byte) :
    parseStoreData p = none ↔ ¬(5 ≤ p.length ∧ p.length ≤ 260) := by
  unfold parseStoreData
  split
  · rw [ite_some_eq_none_iff]
    simp only [List.length_cons]
    omega
  · rename_i hshort
    refine iff_of_true rfl fun ⟨h5, _⟩ => ?_
    match p, h5 with
    | o3 :: o2 :: o1 :: o0 :: bytes, _ => exact hshort o3 o2 o1 o0 bytes rfl

/-! #### The round trips -/

theorem parsePayload_encodeCommand {f : CommandFrame} (h : f.Fits) :
    parsePayload (encodeCommand f).1 (encodeCommand f).2 = some (.command f) := by
  cases f with
  | setup n p bm ka kb kc ts tp mask =>
    obtain ⟨hn, hp, hbm, hka, hkb, hkc, hts, htp, hmask⟩ := h
    have hp' : natOf [byteOf (p / 256), byteOf p] = p := natOf_be16 hp
    have hbm' : natOf [byteOf (bm / 256), byteOf bm] = bm := natOf_be16 hbm
    simp only [encodeCommand, be16, List.cons_append, List.nil_append, parsePayload_of_setup, parseSetup, lowBits_byteOf,
      hn, hka, hkb, hkc, hts, htp, hmask, hp', hbm']
  | query => rfl
  | clear => rfl
  | job seq form dark fs =>
    obtain ⟨hseq, hform, hdark, h16, hfs⟩ := h
    have hseq' : natOf [byteOf (seq / 256), byteOf seq] = seq := natOf_be16 hseq
    have hentries : fs.flatMap encodeField = (fs.map fun f => (byteOf f.number, f.value)).flatMap entryBytes := by
      rw [List.flatMap_map]
      rfl
    have hcount : lowBits (byteOf fs.length) = (fs.map fun f => (byteOf f.number, f.value)).length := by
      rw [lowBits_byteOf (by omega), List.length_map]
    have hback : (fs.map fun f => (byteOf f.number, f.value)).map
        (fun e => ({ number := lowBits e.1, value := e.2 } : Field)) = fs := by
      rw [List.map_map]
      refine (List.map_congr_left fun f hf => ?_).trans (List.map_id fs)
      simp [lowBits_byteOf (hfs f hf).1]
    simp only [encodeCommand, be16, List.cons_append, List.nil_append, parsePayload_of_job, hentries]
    rw [parseJob_of_entries hcount (by simpa using h16) (by simpa using fun f hf => (hfs f hf).2), hback, hseq',
      toNat_byteOf hform, toNat_byteOf hdark]
  | cancel seq =>
    simp only [encodeCommand, parsePayload_of_cancel, natOf_be16 h]
    rfl

theorem parsePayload_encodeStore {f : StoreFrame} (h : f.Fits) :
    parsePayload (encodeStore f).1 (encodeStore f).2 = some (.store f) := by
  cases f with
  | begin number kind len =>
    obtain ⟨hnumber, hkind, hlen⟩ := h
    have hlen' : natOf (be32 len) = len := natOf_be32 hlen
    simp only [encodeStore, be32, be16, List.cons_append, List.nil_append, parsePayload_of_storeBegin, parseStoreBegin,
      toNat_byteOf hnumber, lowBits_byteOf hkind] at hlen' ⊢
    rw [hlen']
  | data offset bytes =>
    obtain ⟨hoffset, h1, h256⟩ := h
    have hoffset' : natOf (be32 offset) = offset := natOf_be32 hoffset
    simp only [encodeStore, be32, be16, List.cons_append, List.nil_append, parsePayload_of_storeData,
      parseStoreData_cons] at hoffset' ⊢
    rw [if_pos ⟨h1, h256⟩, hoffset']
  | stop check =>
    have hcheck : natOf (be16 check.toNat) = check.toNat := natOf_be16 check.isLt
    simp only [encodeStore, parsePayload_of_storeEnd, hcheck, BitVec.ofNat_toNat, BitVec.setWidth_eq]
    rfl
  | delete number =>
    have hnumber : natOf [byteOf number] = number := by simp [natOf, toNat_byteOf h]
    simp only [encodeStore, parsePayload_of_storeDelete, hnumber]
    rfl

/-- Settles O15: the round trip of each frame, and each kind's layout against the length that it asks for. -/
theorem payloadsRoundTrip : Obligations.PayloadsRoundTrip := by
  refine ⟨fun f => parsePayload_encodeCommand, fun f => parsePayload_encodeStore,
    fun seq first ds hseq hfirst hds hlen => ?_, fun seq reason hseq => ?_, fun kind p =>
    ⟨parsePayload_of_unknown p, ?_, ?_, ?_, ?_, ?_, ?_, ?_, ?_, ?_, ?_, ?_, parsePayload_of_record (.inl rfl) p,
      parsePayload_of_record (.inr rfl) p⟩⟩
  · rw [parsePayload_of_demand, parseDemand_encodeDemand hseq hfirst hds hlen]
  · simpa [Nat.mod_eq_of_lt hseq] using parsePayload_void (BitVec.ofNat 16 seq) reason
  · rw [parsePayload_of_setup, parseSetup_eq_none_iff]
  · rw [parsePayload_of_query, ite_some_eq_none_iff]
  · rw [parsePayload_of_clear, ite_some_eq_none_iff]
  · rw [parsePayload_of_job]
    exact parseJob_eq_none_iff p
  · rw [parsePayload_of_cancel, ite_some_eq_none_iff]
  · rw [parsePayload_of_storeBegin, parseStoreBegin_eq_none_iff]
  · rw [parsePayload_of_storeData, parseStoreData_eq_none_iff]
  · rw [parsePayload_of_storeEnd, ite_some_eq_none_iff]
  · rw [parsePayload_of_storeDelete, ite_some_eq_none_iff]
  · rw [parsePayload_of_demand, parseDemand_eq_none_iff]
  · rw [parsePayload_of_void, ite_some_eq_none_iff]

end Sys2Proof.Machine

/-! ### The scan rebuilds the catalog and the sector map (O6) -/

namespace Sys2Proof.Machine

/-! #### Headers and checks (R137, R154) -/

theorem ObjKind.ofCode_eq_some {n : Nat} {kind : ObjKind} : ObjKind.ofCode n = some kind ↔ n = kind.code := by
  unfold ObjKind.ofCode
  cases kind <;> simp only [ObjKind.code] <;> split_ifs <;> simp [*]

theorem natOf_readRange_two (m : Memory) (a : Nat) :
    natOf (m.readRange a 2) = (m.read a).toNat * 256 + (m.read (a + 1)).toNat := by
  simp [natOf, Memory.readRange, List.range_succ]

theorem natOf_readRange_four (m : Memory) (a : Nat) : natOf (m.readRange a 4)
    = (((m.read a).toNat * 256 + (m.read (a + 1)).toNat) * 256 + (m.read (a + 2)).toNat) * 256
      + (m.read (a + 3)).toNat := by
  simp [natOf, Memory.readRange, List.range_succ]

theorem stateMark_iff (mark : Byte) : (mark = markWriting ∨ mark = markValid ∨ mark = markDeleted) ↔
    (mark.toNat = 252 ∨ mark.toNat = 240 ∨ mark.toNat = 0) := by
  simp only [← BitVec.toNat_inj]
  rfl

theorem scanHeader_eq_some {m : Memory} {i : Nat} {e : CatEntry} :
    let byte := fun k => (m.read (16384 * i + k)).toNat
    scanHeader m i = some e ↔
      e.number = byte 0 ∧ 1 ≤ e.number ∧ byte 1 = e.kind.code
      ∧ e.length = ((byte 2 * 256 + byte 3) * 256 + byte 4) * 256 + byte 5 ∧ e.generation = byte 6 * 256 + byte 7
      ∧ (byte 10 = 252 ∨ byte 10 = 240 ∨ byte 10 = 0)
      ∧ e.first = i ∧ e.count = sectorsFor e.length ∧ i + e.count ≤ 64 := by
  intro byte
  have hlen : natOf (m.readRange (16384 * i + 2) 4) = ((byte 2 * 256 + byte 3) * 256 + byte 4) * 256 + byte 5 :=
    natOf_readRange_four m _
  have hgen : natOf (m.readRange (16384 * i + 6) 2) = byte 6 * 256 + byte 7 := natOf_readRange_two m _
  have hmark := stateMark_iff (m.read (16384 * i + 10))
  simp only [scanHeader, sectorAddress, Config.sectorBytes, Config.sectorCount, hlen, hgen, hmark]
  obtain ⟨number, kind, first, count, len, generation⟩ := e
  cases hkind : ObjKind.ofCode (m.read (16384 * i + 1)).toNat with
  | none =>
    refine iff_of_false (by simp) ?_
    rintro ⟨-, -, hcode, -⟩
    cases hkind.symm.trans (ObjKind.ofCode_eq_some.2 hcode)
  | some kind' =>
    have hcode : byte 1 = kind'.code := ObjKind.ofCode_eq_some.1 hkind
    dsimp only
    constructor
    · intro h
      split at h
      · rename_i hform
        obtain ⟨hnumber, hmarked, hfits⟩ := hform
        cases h
        exact ⟨rfl, hnumber, hcode, rfl, rfl, hmarked, rfl, rfl, hfits⟩
      · cases h
    · rintro ⟨rfl, hnumber, hcode', rfl, rfl, hmarked, rfl, rfl, hfits⟩
      have hkinds : kind' = kind := Option.some_inj.1 (hkind.symm.trans (ObjKind.ofCode_eq_some.2 hcode'))
      rw [if_pos ⟨hnumber, hmarked, hfits⟩, hkinds]
      rfl

theorem bodyCheckGood_iff (m : Memory) (e : CatEntry) : bodyCheckGood m e = true ↔
    (checkOf ((List.range e.length).map fun k => m.read (16384 * e.first + 64 + k))).toNat
      = (m.read (16384 * e.first + 8)).toNat * 256 + (m.read (16384 * e.first + 9)).toNat := by
  rw [bodyCheckGood, decide_eq_true_iff, natOf_readRange_two]
  rfl

/-! #### Erased sectors (R154) -/

theorem Memory.read_of_not_listed {m : Memory} {a : Nat} (h : ∀ c ∈ m, c.1 ≠ a) : m.read a = 255 := by
  induction m with
  | nil => rfl
  | cons c m ih =>
    have hne : a ≠ c.1 := (h c (by simp)).symm
    have hrest := ih fun d hd => h d (by simp [hd])
    simp [Memory.read, hne, hrest]

theorem Memory.read_of_mem {m : Memory} (h : m.Pairwise fun c d => c.1 < d.1) {c : Host.Cell} (hc : c ∈ m) :
    m.read c.1 = c.2 := by
  induction m with
  | nil => cases hc
  | cons d m ih =>
    obtain ⟨hfirst, hrest⟩ := List.pairwise_cons.1 h
    rcases List.mem_cons.1 hc with rfl | hc
    · simp [Memory.read]
    · have hlt := hfirst c hc
      simp [Memory.read, Nat.not_lt.2 hlt.le, hlt.ne', ih hrest hc]

/-- A sector is erased when no byte of it reads otherwise than 255. -/
theorem Memory.sectorErased_iff {m : Memory} (h : m.WF) (i : Nat) :
    m.sectorErased i = true ↔ ∀ a, 16384 * i ≤ a → a < 16384 * (i + 1) → m.read a = 255 := by
  obtain ⟨hsorted, hbytes⟩ := h
  simp only [Memory.sectorErased, List.all_eq_true, Bool.not_eq_true', ← Bool.not_eq_true, inSector_iff]
  refine ⟨fun hout a hlo hhi => Memory.read_of_not_listed fun c hc hca => hout c hc ?_, fun hall c hc hin => ?_⟩
  · rw [hca]
    exact ⟨hlo, hhi⟩
  · obtain ⟨hlo, hhi⟩ := hin
    exact (hbytes c hc).2 ((Memory.read_of_mem hsorted hc).symm.trans (hall c.1 hlo hhi))

/-! #### The places of the walk (R154) -/

/-- The walk comes to `i`, a sector or the end of the store. -/
def ScanAt (m : Memory) (i : Nat) : Prop := ∃ k, (scanNext m)^[k] 0 = i

section Walk
variable {m : Memory} {i j : Nat} {e : CatEntry}

theorem ScanReaches.scanAt (h : ScanReaches m i) : ScanAt m i := h.2

theorem ScanReaches.lt (h : ScanReaches m i) : i < 64 := h.1

theorem scanNext_of_header (h : scanHeader m i = some e) : scanNext m i = i + e.count := by rw [scanNext, h]

theorem scanNext_of_no_header (h : scanHeader m i = none) : scanNext m i = i + 1 := by rw [scanNext, h]

theorem scanHeader_first (h : scanHeader m i = some e) : e.first = i := by
  obtain ⟨-, -, -, -, -, -, hfirst, -⟩ := scanHeader_eq_some.1 h
  exact hfirst

theorem lt_scanNext (m : Memory) (i : Nat) : i < scanNext m i := by
  cases h : scanHeader m i with
  | none =>
    rw [scanNext_of_no_header h]
    exact Nat.lt_succ_self i
  | some e =>
    obtain ⟨-, -, -, -, -, -, -, hcount, -⟩ := scanHeader_eq_some.1 h
    rw [scanNext_of_header h, hcount]
    simp only [sectorsFor, Config.headerBytes, Config.sectorBytes]
    omega

theorem scanNext_le_end (h : i < 64) : scanNext m i ≤ 64 := by
  cases hheader : scanHeader m i with
  | none =>
    rw [scanNext_of_no_header hheader]
    exact h
  | some e =>
    obtain ⟨-, -, -, -, -, -, -, -, hfits⟩ := scanHeader_eq_some.1 hheader
    rw [scanNext_of_header hheader]
    exact hfits

theorem ScanAt.next (h : ScanAt m i) : ScanAt m (scanNext m i) := by
  obtain ⟨k, rfl⟩ := h
  exact ⟨k + 1, Function.iterate_succ_apply' _ _ _⟩

/-- Nothing between a place of the walk and the next is a place of it. -/
theorem ScanAt.scanNext_le (hi : ScanAt m i) (hj : ScanAt m j) (h : i < j) : scanNext m i ≤ j := by
  have hmono : StrictMono fun k => (scanNext m)^[k] 0 := strictMono_nat_of_lt_succ fun k => by
    rw [Function.iterate_succ_apply']
    exact lt_scanNext m _
  obtain ⟨k, rfl⟩ := hi
  obtain ⟨l, rfl⟩ := hj
  exact (Function.iterate_succ_apply' _ _ _).symm.trans_le (hmono.monotone (hmono.lt_iff_lt.1 h))

theorem ScanAt.lt_next_iff (hi : ScanAt m i) (hj : ScanAt m j) : j < scanNext m i ↔ j < i ∨ j = i := by
  refine ⟨fun h => ?_, fun h => ?_⟩
  · by_contra hno
    exact Nat.not_le.2 h (hi.scanNext_le hj (by omega))
  · have := lt_scanNext m i
    omega

theorem ScanFinds.reaches (h : ScanFinds m e) : ScanReaches m e.first := h.1

theorem ScanFinds.scanAt (h : ScanFinds m e) : ScanAt m e.first := h.reaches.scanAt

theorem ScanFinds.header (h : ScanFinds m e) : scanHeader m e.first = some e := by
  obtain ⟨-, hheader, -⟩ := h
  exact hheader

/-- One object at the most is found at a place. -/
theorem ScanFinds.eq_of_first {d : CatEntry} (hd : ScanFinds m d) (he : ScanFinds m e) (h : d.first = e.first) :
    d = e := Option.some_inj.1 (by rw [← hd.header, ← he.header, h])

/-- An object found before the next place lies before this one, or is the one found here. -/
theorem ScanFinds.before_or_eq {x : CatEntry} (he : ScanFinds m e) (hfirst : e.first = i) (hx : ScanFinds m x)
    (h : x.first < scanNext m i) : x.first < i ∨ x = e := by
  subst hfirst
  exact ((he.scanAt.lt_next_iff hx.scanAt).1 h).imp_right (hx.eq_of_first he)

theorem scanFinds_iff (hi : ScanReaches m i) (h : scanHeader m i = some e) :
    ScanFinds m e ↔ m.read (sectorAddress i + 10) = markValid ∧ bodyCheckGood m e = true := by
  rw [ScanFinds, scanHeader_first h]
  exact ⟨fun ⟨_, _, hmark, hcheck⟩ => ⟨hmark, hcheck⟩, fun ⟨hmark, hcheck⟩ => ⟨hi, h, hmark, hcheck⟩⟩

end Walk

/-! #### The catalog (R155) -/

/-- The generation of `e` lies 1 to 32767 ahead of that of `d` (R155). -/
abbrev CatEntry.NewerThan (e d : CatEntry) : Prop :=
  1 ≤ seqDistance e.generation d.generation ∧ seqDistance e.generation d.generation ≤ 32767

section SetEntry
variable {cat : List CatEntry} {e x : CatEntry}

theorem mem_setEntry_iff : x ∈ setEntry cat e ↔ x = e ∨ (x ∈ cat ∧ x.number ≠ e.number) := by
  by_cases hx : x.number = e.number
  · have hself : x ∈ setEntry cat e → x = e := by
      unfold setEntry
      split
      · rw [List.mem_map]
        rintro ⟨y, -, rfl⟩
        split at hx
        · rw [if_pos ‹_›]
        · exact absurd hx ‹_›
      · rename_i hnone
        rw [List.mem_append, List.mem_singleton]
        exact fun hmem => hmem.resolve_left fun hcat => hnone (List.any_eq_true.2 ⟨x, hcat, by simpa using hx⟩)
    refine ⟨fun h => .inl (hself h), ?_⟩
    rintro (rfl | ⟨-, hne⟩)
    · exact mem_setEntry_self cat x
    · exact absurd hx hne
  · have hxe : x ≠ e := fun h => hx (h ▸ rfl)
    rw [mem_setEntry_of_ne hx]
    simp [hxe, hx]

/-- An entry that is set leaves one object of each number. -/
theorem setEntry_distinct (h : cat.Pairwise fun d e => d.number ≠ e.number) (e : CatEntry) :
    (setEntry cat e).Pairwise fun d e => d.number ≠ e.number := by
  unfold setEntry
  split
  · have hnumber : ∀ x : CatEntry, (if x.number = e.number then e else x).number = x.number := fun x => by
      split
      · exact Eq.symm ‹_›
      · rfl
    rw [List.pairwise_map]
    simpa only [hnumber] using h
  · rename_i hnone
    refine List.pairwise_append.2 ⟨h, List.pairwise_singleton _ e, fun x hx y hy hxy => hnone ?_⟩
    rw [List.mem_singleton.1 hy] at hxy
    exact List.any_eq_true.2 ⟨x, hx, by simpa using hxy⟩

theorem catFind_eq_some {n : Nat} (h : catFind cat n = some x) : x ∈ cat ∧ x.number = n :=
  ⟨List.mem_of_find?_eq_some h, by simpa using List.find?_some h⟩

theorem eq_of_distinct {d : CatEntry} (h : cat.Pairwise fun d e => d.number ≠ e.number) (hd : d ∈ cat) (hx : x ∈ cat)
    (hnumber : d.number = x.number) : d = x :=
  List.inj_on_of_nodup_map (f := CatEntry.number) (List.pairwise_map.2 h) hd hx hnumber

end SetEntry

/-- What the catalog holds when the walk has come to `i`: of the objects found before `i` one of each number, and of
two of one number the newer (R154, R155). -/
structure CatalogUpTo (m : Memory) (i : Nat) (cat : List CatEntry) : Prop where
  found      : ∀ e ∈ cat, ScanFinds m e ∧ e.first < i
  distinct   : cat.Pairwise fun d e => d.number ≠ e.number
  catalogued : ∀ e, ScanFinds m e → e.first < i → ∃ d ∈ cat, d.number = e.number
  newest     : ∀ d e, ScanFinds m d → ScanFinds m e → d.first < e.first → e.first < i → d.number = e.number →
    (∀ x, ScanFinds m x → x.number = d.number → x = d ∨ x = e) → if e.NewerThan d then e ∈ cat else d ∈ cat

section Catalog
variable {m : Memory} {i : Nat} {cat : List CatEntry} {e : CatEntry}

theorem CatalogUpTo.start (m : Memory) : CatalogUpTo m 0 [] where
  found := by simp
  distinct := .nil
  catalogued _ _ h := absurd h (Nat.not_lt_zero _)
  newest _ _ _ _ _ h := absurd h (Nat.not_lt_zero _)

theorem CatalogUpTo.not_mem (h : CatalogUpTo m i cat) (he : e.first = i) : e ∉ cat := fun hmem => by
  have := (h.found e hmem).2
  omega

theorem CatalogUpTo.found_next (h : CatalogUpTo m i cat) (he : e ∈ cat) : ScanFinds m e ∧ e.first < scanNext m i :=
  (h.found e he).imp_right fun hlt => hlt.trans (lt_scanNext m i)

/-- Of two objects of one number the earlier is the catalogued one when the walk comes to the later. -/
theorem CatalogUpTo.catFind_earlier (h : CatalogUpTo m i cat) {d : CatEntry} (hd : ScanFinds m d) (hlt : d.first < i)
    (he : e.first = i) (hnumber : d.number = e.number)
    (honly : ∀ x, ScanFinds m x → x.number = d.number → x = d ∨ x = e) : catFind cat e.number = some d := by
  cases hfind : catFind cat e.number with
  | none =>
    obtain ⟨c, hc, hcd⟩ := h.catalogued d hd hlt
    exact absurd (hcd.trans hnumber) (catFind_eq_none.1 hfind c hc)
  | some c =>
    obtain ⟨hc, hce⟩ := catFind_eq_some hfind
    obtain ⟨hfound, -⟩ := h.found c hc
    rcases honly c hfound (hce.trans hnumber.symm) with rfl | rfl
    · rfl
    · exact absurd hc (h.not_mem he)

/-- A place at which nothing is found leaves the catalog. -/
theorem CatalogUpTo.skip (h : CatalogUpTo m i cat) (hi : ScanAt m i) (hno : ∀ e, ScanFinds m e → e.first ≠ i) :
    CatalogUpTo m (scanNext m i) cat := by
  have hlt : ∀ e, ScanFinds m e → e.first < scanNext m i → e.first < i := fun e he hnext =>
    ((hi.lt_next_iff he.scanAt).1 hnext).resolve_right (hno e he)
  exact {
    found := fun e he => h.found_next he
    distinct := h.distinct
    catalogued := fun e he hnext => h.catalogued e he (hlt e he hnext)
    newest := fun d e hd he hde hnext => h.newest d e hd he hde (hlt e he hnext) }

/-- An object that is not newer than the catalogued one of its number leaves the catalog. -/
theorem CatalogUpTo.keep (h : CatalogUpTo m i cat) (he : ScanFinds m e) (hfirst : e.first = i) {c : CatEntry}
    (hc : catFind cat e.number = some c) (hold : ¬e.NewerThan c) : CatalogUpTo m (scanNext m i) cat where
  found x hx := h.found_next hx
  distinct := h.distinct
  catalogued x hx hnext := by
    rcases he.before_or_eq hfirst hx hnext with hlt | rfl
    · exact h.catalogued x hx hlt
    · exact ⟨c, catFind_eq_some hc⟩
  newest d x hd hx hdx hnext hnumber honly := by
    rcases he.before_or_eq hfirst hx hnext with hlt | rfl
    · exact h.newest d x hd hx hdx hlt hnumber honly
    · obtain rfl := Option.some_inj.1 (hc.symm.trans (h.catFind_earlier hd (hfirst ▸ hdx) hfirst hnumber honly))
      rw [if_neg hold]
      exact (catFind_eq_some hc).1

/-- An object with no other of its number in the catalog, or newer than that one, is catalogued. -/
theorem CatalogUpTo.enter (h : CatalogUpTo m i cat) (he : ScanFinds m e) (hfirst : e.first = i)
    (hnew : ∀ c, catFind cat e.number = some c → e.NewerThan c) : CatalogUpTo m (scanNext m i) (setEntry cat e) where
  found x hx := by
    rcases mem_setEntry_iff.1 hx with rfl | ⟨hx, -⟩
    · exact ⟨he, hfirst ▸ lt_scanNext m i⟩
    · exact h.found_next hx
  distinct := setEntry_distinct h.distinct e
  catalogued x hx hnext := by
    by_cases hxe : x.number = e.number
    · exact ⟨e, mem_setEntry_self cat e, hxe.symm⟩
    · rcases he.before_or_eq hfirst hx hnext with hlt | rfl
      · obtain ⟨d, hd, hdx⟩ := h.catalogued x hx hlt
        exact ⟨d, mem_setEntry_iff.2 (.inr ⟨hd, hdx ▸ hxe⟩), hdx⟩
      · exact absurd rfl hxe
  newest d x hd hx hdx hnext hnumber honly := by
    rcases he.before_or_eq hfirst hx hnext with hlt | rfl
    · have hother : d.number ≠ e.number := fun hde => by
        rcases honly e he hde.symm with rfl | rfl <;> omega
      have hkept := h.newest d x hd hx hdx hlt hnumber honly
      rw [mem_setEntry_of_ne hother, mem_setEntry_of_ne (hnumber ▸ hother)]
      exact hkept
    · rw [if_pos (hnew d (h.catFind_earlier hd (hfirst ▸ hdx) hfirst hnumber honly))]
      exact mem_setEntry_self cat x

end Catalog

/-! #### The sector map (R153, R154) -/

/-- What the map says of the sectors from place `i` to the next, with the catalog `cat`. -/
def foundState (m : Memory) (cat : List CatEntry) (i : Nat) : SectorState :=
  match scanHeader m i with
  | some e => if e ∈ cat then .used else .dirty
  | none => if m.sectorErased i then .free else .dirty

/-- What the map says when the walk has come to `i`. -/
structure MapUpTo (m : Memory) (i : Nat) (cat : List CatEntry) (map : List SectorState) : Prop where
  length  : map.length = 64
  sectors : ∀ k, ScanReaches m k → k < i → ∀ j, k ≤ j → j < scanNext m k → map.getD j .free = foundState m cat k

theorem setSectors_length (map : List SectorState) (first count : Nat) (st : SectorState) :
    (setSectors map first count st).length = map.length := by
  simp [setSectors]

theorem setSectors_getD {map : List SectorState} {j : Nat} (hj : j < map.length) (first count : Nat)
    (st d : SectorState) : (setSectors map first count st).getD j d
      = if first ≤ j ∧ j < first + count then st else map.getD j d := by
  rw [setSectors, markSectors_getD _ _ _ hj, Nat.zero_add]
  simp only [Bool.and_eq_true, decide_eq_true_iff]

section Map
variable {m : Memory} {i : Nat} {cat : List CatEntry} {map : List SectorState} {e : CatEntry}

theorem foundState_of_header (h : scanHeader m i = some e) : foundState m cat i = if e ∈ cat then .used else .dirty := by
  rw [foundState, h]

theorem foundState_of_no_header (h : scanHeader m i = none) :
    foundState m cat i = if m.sectorErased i then .free else .dirty := by
  rw [foundState, h]

/-- What the map says of a place depends on whether its object is catalogued alone. -/
theorem foundState_congr {cat' : List CatEntry} (h : ∀ e, scanHeader m i = some e → (e ∈ cat' ↔ e ∈ cat)) :
    foundState m cat' i = foundState m cat i := by
  cases hheader : scanHeader m i with
  | none => rw [foundState_of_no_header hheader, foundState_of_no_header hheader]
  | some e =>
    rw [foundState_of_header hheader, foundState_of_header hheader]
    simp only [h e hheader]

theorem MapUpTo.start (m : Memory) : MapUpTo m 0 [] (List.replicate 64 .free) :=
  ⟨by simp, fun _ _ h => absurd h (Nat.not_lt_zero _)⟩

/-- The sectors from a place to the next are put in their state, those before it stay. -/
theorem MapUpTo.set (h : MapUpTo m i cat map) (hi : ScanReaches m i) {n : Nat} (hn : scanNext m i = i + n) :
    MapUpTo m (scanNext m i) cat (setSectors map i n (foundState m cat i)) where
  length := (setSectors_length ..).trans h.length
  sectors k hk hnext j hkj hj := by
    have hlen : j < map.length := by
      have hend : scanNext m k ≤ 64 := scanNext_le_end hk.lt
      have := h.length
      omega
    rw [setSectors_getD hlen, ← hn]
    rcases (hi.scanAt.lt_next_iff hk.scanAt).1 hnext with hlt | rfl
    · have hle := hk.scanAt.scanNext_le hi.scanAt hlt
      rw [if_neg (by omega), h.sectors k hk hlt j hkj hj]
    · rw [if_pos ⟨hkj, hj⟩]

/-- The object whose number the entry `e` takes becomes Dirty, and what the map says of the others stays (R155). -/
theorem MapUpTo.enter (hcat : CatalogUpTo m i cat) (h : MapUpTo m i cat map) (he : e.first = i) :
    MapUpTo m i (setEntry cat e) (dirtyObject map cat e.number) := by
  have hstays : ∀ k, k < i → (∀ c ∈ cat, c.number = e.number → c.first ≠ k) →
      foundState m (setEntry cat e) k = foundState m cat k := fun k hk hother =>
    foundState_congr fun x hx => by
      have hfirst := scanHeader_first hx
      have hxe : x ≠ e := by
        rintro rfl
        omega
      rw [mem_setEntry_iff]
      exact ⟨fun hmem => (hmem.resolve_left hxe).1, fun hmem => .inr ⟨hmem, fun hnum => hother x hmem hnum hfirst⟩⟩
  cases hfind : catFind cat e.number with
  | none =>
    rw [dirtyObject, hfind]
    refine ⟨h.length, fun k hk hlt j hkj hj => ?_⟩
    rw [hstays k hlt fun c hc hnum => absurd hnum (catFind_eq_none.1 hfind c hc)]
    exact h.sectors k hk hlt j hkj hj
  | some c =>
    obtain ⟨hc, hce⟩ := catFind_eq_some hfind
    obtain ⟨hfound, hci⟩ := hcat.found c hc
    have hspan : scanNext m c.first = c.first + c.count := scanNext_of_header hfound.header
    rw [dirtyObject, hfind]
    refine ⟨(setSectors_length ..).trans h.length, fun k hk hlt j hkj hj => ?_⟩
    have hlen : j < map.length := by
      have hend : scanNext m k ≤ 64 := scanNext_le_end hk.lt
      have := h.length
      omega
    rw [setSectors_getD hlen, ← hspan]
    rcases Nat.lt_trichotomy k c.first with hkc | rfl | hck
    · have hle := hk.scanAt.scanNext_le hfound.scanAt hkc
      rw [if_neg (by omega), h.sectors k hk hlt j hkj hj, hstays k hlt fun d hd hnum => ?_]
      rw [eq_of_distinct hcat.distinct hd hc (hnum.trans hce.symm)]
      omega
    · have hgone : c ∉ setEntry cat e := fun hmem => by
        rcases mem_setEntry_iff.1 hmem with rfl | ⟨-, hne⟩
        · omega
        · exact hne hce
      rw [if_pos ⟨hkj, hj⟩, foundState_of_header hfound.header, if_neg hgone]
    · have hle := hfound.scanAt.scanNext_le hk.scanAt hck
      rw [if_neg (by omega), h.sectors k hk hlt j hkj hj, hstays k hlt fun d hd hnum => ?_]
      rw [eq_of_distinct hcat.distinct hd hc (hnum.trans hce.symm)]
      omega

end Map

/-! #### The walk as a whole (R154) -/

/-- The catalog and the map when the walk has come to `i`. -/
def ScannedUpTo (m : Memory) (i : Nat) (acc : List CatEntry × List SectorState) : Prop :=
  CatalogUpTo m i acc.1 ∧ MapUpTo m i acc.1 acc.2

section Scan
variable {m : Memory} {i : Nat} {cat : List CatEntry} {map : List SectorState} {e : CatEntry}

theorem scanObject_of_kept {c : CatEntry} (hc : catFind cat e.number = some c) (h : ¬e.NewerThan c) :
    scanObject cat map e = (cat, setSectors map e.first e.count .dirty) := by
  rw [scanObject, hc]
  exact if_neg h

theorem scanObject_of_entered (h : ∀ c, catFind cat e.number = some c → e.NewerThan c) : scanObject cat map e
    = (setEntry cat e, setSectors (dirtyObject map cat e.number) e.first e.count .used) := by
  cases hc : catFind cat e.number with
  | none =>
    have hno : ¬(cat.any fun x => x.number = e.number) = true := by
      simpa using catFind_eq_none.1 hc
    rw [scanObject, dirtyObject, hc, setEntry, if_neg hno]
  | some c =>
    have hany : (cat.any fun x => x.number = e.number) = true := by
      obtain ⟨hmem, hnumber⟩ := catFind_eq_some hc
      exact List.any_eq_true.2 ⟨c, hmem, by simpa using hnumber⟩
    rw [scanObject, dirtyObject, hc, setEntry, if_pos hany]
    exact if_pos (h c hc)

/-- What the scan makes of one place. -/
def scanStep (m : Memory) (i : Nat) (cat : List CatEntry) (map : List SectorState) : List CatEntry × List SectorState :=
  match scanSector m i with
  | .object e => scanObject cat map e
  | .dirtyRun n => (cat, setSectors map i n .dirty)
  | .freeSector => (cat, setSectors map i 1 .free)
  | .dirtySector => (cat, setSectors map i 1 .dirty)

theorem scanStep_of_object (hi : ScanReaches m i) (h : scanHeader m i = some e) (he : ScanFinds m e) :
    scanStep m i cat map = scanObject cat map e := by
  obtain ⟨hmark, hcheck⟩ := (scanFinds_iff hi h).1 he
  have hsector : scanSector m i = .object e := by
    rw [scanSector, h]
    dsimp only
    rw [if_pos hmark, if_pos hcheck]
  rw [scanStep, hsector]

theorem scanStep_of_dirtyRun (hi : ScanReaches m i) (h : scanHeader m i = some e) (he : ¬ScanFinds m e) :
    scanStep m i cat map = (cat, setSectors map i e.count .dirty) := by
  rw [scanFinds_iff hi h] at he
  have hsector : scanSector m i = .dirtyRun e.count := by
    rw [scanSector, h]
    dsimp only
    split
    · exact if_neg fun hcheck => he ⟨‹_›, hcheck⟩
    · rfl
  rw [scanStep, hsector]

theorem scanStep_of_no_header (h : scanHeader m i = none) :
    scanStep m i cat map = (cat, setSectors map i 1 (foundState m cat i)) := by
  rw [scanStep, scanSector, foundState_of_no_header h, h]
  cases m.sectorErased i <;> rfl

theorem scanFrom_of_lt (h : i < 64) (fuel : Nat) (cat : List CatEntry) (map : List SectorState) :
    scanFrom m (fuel + 1) i (cat, map) = scanFrom m fuel (scanNext m i) (scanStep m i cat map) := by
  rw [scanFrom, if_pos (show i < Config.sectorCount from h), scanStep, scanNext, scanSector]
  cases scanHeader m i with
  | none => cases m.sectorErased i <;> rfl
  | some e =>
    by_cases hmark : m.read (sectorAddress i + 10) = markValid
    · by_cases hcheck : bodyCheckGood m e = true
      · simp only [hmark, hcheck, if_true]
      · simp only [hmark, hcheck, if_true, if_false, Bool.false_eq_true]
    · simp only [hmark, if_false]

theorem markSectors_replicate (p : Nat → Bool) (st : SectorState) (i n : Nat) :
    markSectors p st i (List.replicate n st) = List.replicate n st := by
  induction n generalizing i with
  | zero => rfl
  | succ n ih => rw [List.replicate_succ, markSectors, ih, ite_self]

/-- Every sector of an erased store is Free. -/
theorem scanFrom_nil (fuel i : Nat) (cat : List CatEntry) :
    scanFrom [] fuel i (cat, List.replicate 64 .free) = (cat, List.replicate 64 .free) := by
  induction fuel generalizing i with
  | zero => rfl
  | succ fuel ih =>
    by_cases hlt : i < 64
    · have hheader : scanHeader [] i = none := rfl
      have hfree : foundState [] cat i = .free := rfl
      rw [scanFrom_of_lt hlt, scanStep_of_no_header hheader, hfree, setSectors, markSectors_replicate, ih]
    · exact if_neg hlt

theorem scanStore_nil : scanStore [] = ([], List.replicate 64 .free) := scanFrom_nil _ _ _

/-- One place scanned takes the catalog and the map on to the next. -/
theorem scanStep_scanned (hi : ScanReaches m i) (hcat : CatalogUpTo m i cat) (hmap : MapUpTo m i cat map) :
    ScannedUpTo m (scanNext m i) (scanStep m i cat map) := by
  cases hheader : scanHeader m i with
  | none =>
    rw [scanStep_of_no_header hheader]
    refine ⟨hcat.skip hi.scanAt ?_, hmap.set hi (scanNext_of_no_header hheader)⟩
    rintro e he rfl
    cases hheader.symm.trans he.header
  | some e =>
    have hfirst := scanHeader_first hheader
    have hspan := scanNext_of_header hheader
    have hdirty : foundState m cat i = .dirty := by
      rw [foundState_of_header hheader, if_neg (hcat.not_mem hfirst)]
    by_cases he : ScanFinds m e
    · rw [scanStep_of_object hi hheader he]
      by_cases hnew : ∀ c, catFind cat e.number = some c → e.NewerThan c
      · rw [scanObject_of_entered hnew]
        have hset := (hmap.enter hcat hfirst).set hi hspan
        rw [foundState_of_header hheader, if_pos (mem_setEntry_self cat e)] at hset
        exact ⟨hcat.enter he hfirst hnew, by rwa [hfirst]⟩
      · obtain ⟨c, hc, hold⟩ : ∃ c, catFind cat e.number = some c ∧ ¬e.NewerThan c := by
          simpa only [not_forall, exists_prop] using hnew
        rw [scanObject_of_kept hc hold, hfirst, ← hdirty]
        exact ⟨hcat.keep he hfirst hc hold, hmap.set hi hspan⟩
    · rw [scanStep_of_dirtyRun hi hheader he, ← hdirty]
      refine ⟨hcat.skip hi.scanAt fun d hd hdi => he ?_, hmap.set hi hspan⟩
      have hde : d = e := Option.some_inj.1 (hd.header.symm.trans (hdi ▸ hheader))
      rwa [← hde]

theorem scanFrom_scanned {fuel : Nat} (hi : ScanAt m i) (hend : i ≤ 64) (hfuel : 64 ≤ i + fuel)
    (hcat : CatalogUpTo m i cat) (hmap : MapUpTo m i cat map) : ScannedUpTo m 64 (scanFrom m fuel i (cat, map)) := by
  induction fuel generalizing i cat map with
  | zero =>
    obtain rfl : i = 64 := by omega
    exact ⟨hcat, hmap⟩
  | succ fuel ih =>
    by_cases hlt : i < 64
    · have hnext := lt_scanNext m i
      obtain ⟨hcat', hmap'⟩ := scanStep_scanned ⟨hlt, hi⟩ hcat hmap
      rw [scanFrom_of_lt hlt]
      exact ih hi.next (scanNext_le_end hlt) (by omega) hcat' hmap'
    · obtain rfl : i = 64 := by omega
      exact ⟨hcat, hmap⟩

theorem scanStore_scanned (m : Memory) : ScannedUpTo m 64 (scanStore m) :=
  scanFrom_scanned ⟨0, rfl⟩ (by decide) (by decide) (.start m) (.start m)

end Scan

section Ends
variable {m : Memory} {cat : List CatEntry} {map : List SectorState} {i : Nat}

/-- The sectors of a header that is not catalogued are Dirty, those of a catalogued one Used (R153, R154). -/
theorem MapUpTo.of_header (h : MapUpTo m 64 cat map) (hi : ScanReaches m i) {e : CatEntry}
    (he : scanHeader m i = some e) (j : Nat) (hij : i ≤ j) (hj : j < i + e.count) :
    map.getD j .free = if e ∈ cat then .used else .dirty := by
  rw [← scanNext_of_header he] at hj
  rw [h.sectors i hi hi.lt j hij hj, foundState_of_header he]

/-- A sector without a header is Free when it is erased, and Dirty otherwise (R153, R154). -/
theorem MapUpTo.of_no_header (h : MapUpTo m 64 cat map) (hi : ScanReaches m i) (he : scanHeader m i = none) :
    map.getD i .used = if m.sectorErased i then .free else .dirty := by
  have hlen : i < map.length := h.length ▸ hi.lt
  have hdefault : map.getD i .used = map.getD i .free := by
    rw [List.getD_eq_getElem _ _ hlen, List.getD_eq_getElem _ _ hlen]
  rw [hdefault, h.sectors i hi hi.lt i (Nat.le_refl i) (lt_scanNext m i), foundState_of_no_header he]

end Ends

/-- Settles O6: by what the catalog and the map hold up to each place of the walk. -/
theorem scanRebuildsStore : Obligations.ScanRebuildsStore := by
  refine ⟨fun s => ⟨fun hs => congrArg Host.Outcome.next (if_pos hs), fun hs => congrArg Host.Outcome.next (if_neg hs)⟩,
    scanStore_nil, fun m i e => ?_, rfl, bodyCheckGood_iff, fun m => ?_⟩
  · obtain ⟨number, kind, first, count, len, generation⟩ := e
    cases kind
    · exact scanHeader_eq_some
    · exact scanHeader_eq_some
    · exact scanHeader_eq_some
  · intro cat map
    obtain ⟨hcat, hmap⟩ : CatalogUpTo m 64 cat ∧ MapUpTo m 64 cat map := scanStore_scanned m
    refine ⟨fun e he => (hcat.found e he).1, hcat.distinct, hmap.length, fun e he => ⟨?_, ?_⟩,
      fun d e hd he hde hnumber honly => hcat.newest d e hd he hde he.reaches.lt hnumber honly,
      fun i hi => ⟨fun e hheader he j hij hj => ?_, fun hheader hwf => ⟨fun hall => ?_, ?_⟩⟩⟩
    · exact hcat.catalogued e he he.reaches.lt
    · exact hmap.of_header he.reaches he.header
    · rw [hmap.of_header hi hheader j hij hj, if_neg fun hmem => he (hcat.found e hmem).1]
    · rw [hmap.of_no_header hi hheader, if_pos ((Memory.sectorErased_iff hwf i).2 hall)]
    · rintro ⟨a, hlo, hhi, hread⟩
      rw [hmap.of_no_header hi hheader, if_neg fun herased =>
        hread ((Memory.sectorErased_iff hwf i).1 herased a hlo hhi)]

end Sys2Proof.Machine

/-! ### The store between its commands, and its memory after every step (O8)

Beside the store's own commands an event moves no more of the store than the readers' holds and the memory's phase, and
with the last hold gone it begins an operation that was due (R163 to R165). -/

namespace Sys2Proof.Machine

/-- The operations of the store: the one begun and those still due (R163). -/
def Store.operations (st : Store) : List StoreOp := st.current.toList ++ st.due

/-- From `st` to `st'` no command was taken and none went on: the memory and its directory, the open write and the
command served stay, and no operation comes to those begun or due. -/
structure Store.OnlyResumes (st st' : Store) : Prop where
  memory     : st'.memory = st.memory
  catalog    : st'.catalog = st.catalog
  sectors    : st'.sectors = st.sectors
  write      : st'.write = st.write
  serving    : st'.serving = st.serving
  operations : st'.operations ⊆ st.operations

/-! #### The holds and the waiting reads (R163 to R165) -/

section Resumes
variable {st st' st'' : Store} {s t : State}

theorem Store.OnlyResumes.refl (st : Store) : st.OnlyResumes st := ⟨rfl, rfl, rfl, rfl, rfl, List.Subset.refl _⟩

theorem Store.OnlyResumes.of_eq (h : st' = st) : st.OnlyResumes st' := h ▸ .refl st

theorem Store.OnlyResumes.trans (h : st.OnlyResumes st') (h' : st'.OnlyResumes st'') : st.OnlyResumes st'' where
  memory := h'.memory.trans h.memory
  catalog := h'.catalog.trans h.catalog
  sectors := h'.sectors.trans h.sectors
  write := h'.write.trans h.write
  serving := h'.serving.trans h.serving
  operations := List.Subset.trans h'.operations h.operations

theorem Store.OnlyResumes.ite {p : Prop} [Decidable p] (ht : st.OnlyResumes st') (he : st.OnlyResumes st'') :
    st.OnlyResumes (if p then st' else st'') := by
  split
  · exact ht
  · exact he

/-- A hold, a waiting read and the phase are no part of it. -/
theorem Store.onlyResumes_readers (st : Store) (phase : MemPhase) (holdLoader holdRaster waitLoader waitRaster : Bool) :
    st.OnlyResumes { st with
      phase := phase, holdLoader := holdLoader, holdRaster := holdRaster, waitLoader := waitLoader,
      waitRaster := waitRaster } := ⟨rfl, rfl, rfl, rfl, rfl, List.Subset.refl _⟩

/-- The operation that begins is the first of those due. -/
theorem Store.beginDue_resumes (st : Store) : st.OnlyResumes st.beginDue := by
  unfold Store.beginDue
  split
  · split
    · rename_i op rest hdue
      refine ⟨rfl, rfl, rfl, rfl, rfl, ?_⟩
      simp [Store.operations, hdue]
    · exact .refl st
  · exact .refl st

theorem Store.resume_resumes (st : Store) : st.OnlyResumes st.resume := by
  unfold Store.resume
  split
  · split
    · exact st.onlyResumes_readers ..
    · exact st.beginDue_resumes
    · exact .refl st
    · exact .refl st
  · exact .refl st

theorem Store.releaseLoader_resumes (st : Store) : st.OnlyResumes st.releaseLoader :=
  .ite (.trans (st.onlyResumes_readers ..) (Store.resume_resumes _)) (.refl st)

theorem Store.releaseRaster_resumes (st : Store) : st.OnlyResumes st.releaseRaster :=
  .ite (.trans (st.onlyResumes_readers ..) (Store.resume_resumes _)) (.refl st)

/-! #### The labels and the readers (R13, R15, R24, R26, R52, R53, R64, R73) -/

theorem stopLoad_resumes (s : State) (i : CtxId) : s.store.OnlyResumes (stopLoad s i).store := by
  rcases stopLoad_cases s i with ⟨h, -⟩ | h <;> rw [h]
  · exact .refl _
  · exact s.store.releaseLoader_resumes

theorem afterMark_resumes (s : State) (seq : Nat) : s.store.OnlyResumes (afterMark s seq).store := by
  have hstore : (afterMark s seq).store = (stopLoadOf s seq).store := by simp [afterMark]
  rw [hstore, stopLoadOf]
  split
  · split
    · exact stopLoad_resumes s _
    · exact .refl _
  · exact .refl _

theorem takeCancel_resumes (s : State) (seq : Nat) : s.store.OnlyResumes (takeCancel s seq).store := by
  unfold takeCancel
  split
  · simpa using afterMark_resumes (markCancelled s seq) seq
  · exact .refl _

theorem takeCancelAll_resumes (s : State) : s.store.OnlyResumes (takeCancelAll s).store := by
  unfold takeCancelAll
  dsimp only
  split
  · split
    · simpa using stopLoad_resumes (markAllCancelled s) _
    · exact .of_eq (by simp)
  · exact .refl _

theorem takeVoid_resumes (s : State) (seq : Nat) : s.store.OnlyResumes (takeVoid s seq).store := by
  unfold takeVoid
  split
  · split
    · simpa using afterMark_resumes (markVoided s seq .peerVoid) seq
    · exact .of_eq (by split <;> rfl)
  · exact .refl _

theorem cutReads_resumes (s : State) (i : CtxId) : s.store.OnlyResumes (cutReads s i).store := by
  rcases cutReads_cases s i with h | ⟨r, -, -, -, h⟩ <;> rw [h]
  · exact .refl _
  · exact s.store.onlyResumes_readers ..

theorem startLabel_resumes (s : State) : s.store.OnlyResumes (startLabel s).store := by
  have hloading : ∀ (u : State) i, u.store.OnlyResumes (startLoading u i).store := fun u i => by
    simpa [startLoading] using (stopLoad_resumes u i).trans (cutReads_resumes (stopLoad u i) i)
  rcases startLabel_cases s with ⟨seq, h⟩ | ⟨e, -, i, -, -, h⟩ | ⟨e, -, i, -, -, h⟩ | ⟨e, -, i, -, h⟩ | ⟨i, -, h⟩ <;>
    rw [h]
  case inr.inr.inl => simpa using hloading (s.setSeq (s.seq.consume e.seq)) i
  all_goals exact .of_eq (by simp)

theorem takeTof_resumes (s : State) : s.store.OnlyResumes (takeTof s).store := by
  unfold takeTof
  split
  · split
    · exact .of_eq (by simp)
    · simpa using startLabel_resumes (endRunning s)
  · exact .refl _

theorem endLoad_resumes (s : State) (l : Load) : s.store.OnlyResumes (endLoad s l).store := by
  have hstore : (endLoad s l).store = s.store.releaseLoader := by
    unfold endLoad
    dsimp only
    split <;> simp
  exact hstore ▸ s.store.releaseLoader_resumes

theorem endRender_resumes (s : State) (r : Render) : s.store.OnlyResumes (endRender s r).store := by
  have hstore : (endRender s r).store = s.store.releaseRaster := by
    cases hk : s.keepsRender r with
    | true => rw [endRender_of_kept hk]; rfl
    | false => rw [endRender_of_dropped hk]; rfl
  exact hstore ▸ s.store.releaseRaster_resumes

theorem suspended_resumes (s : State) : s.store.OnlyResumes (suspended s).store := by
  rw [suspended_eq]
  exact s.store.onlyResumes_readers ..

theorem acceptFrame_resumes (s : State) (f : RxFrame) : s.store.OnlyResumes (acceptFrame s f).store := by
  have hroute : ∀ (u : State) source p, u.store.OnlyResumes (route u source p).store := fun u source p => by
    cases p with
    | void seq => exact takeVoid_resumes u seq
    | command f => exact .of_eq (by simp [route])
    | store f => exact .of_eq (by simp [route])
    | demand seq first ds => exact .of_eq (by simp [route])
    | ignored => exact .refl _
  unfold acceptFrame acceptChecked
  dsimp only
  split
  · split
    · split
      · split
        · exact .of_eq (by simp)
        · split
          · exact .refl _
          · exact hroute (setReceiver s .ready (frameEndQuiet f)) _ _
      · exact .refl _
    · exact .of_eq (by simp)
  · exact .refl _

theorem execStoreReadRequest_resumes {reader : Reader} {what : ReadKind}
    (h : execStoreReadRequest reader what s = .next t) : s.store.OnlyResumes t.store := by
  unfold execStoreReadRequest at h
  split at h <;> split at h
  · split at h <;> cases h
    · exact .refl _
    · unfold requestRead
      dsimp only
      split
      · have hstore : (serveLoaderRead (s.setStore s.store.readLoader)).store = s.store.readLoader := by simp
        rw [hstore]
        exact s.store.onlyResumes_readers ..
      · exact s.store.onlyResumes_readers ..
  · cases h
    exact .refl _
  · split at h <;> cases h
    · exact .refl _
    · unfold requestLookup
      split
      · split
        · exact s.store.releaseLoader_resumes
        · exact .of_eq (by simp)
      all_goals exact .refl _
  · cases h
    exact .refl _
  · split at h <;> cases h
    · exact .refl _
    · exact s.store.onlyResumes_readers ..
  · cases h
    exact .refl _

/-! #### The commands beside the store's own -/

/-- The store's own commands: the taking of its queue, the ends of its operations, the scan, and the cold start. -/
def isOfStore : Instr → Bool
  | .coldStart _ _ | .scanComplete | .storeBegin | .storeData | .storeEnd | .storeDelete | .sectorEraseComplete
  | .lineProgramComplete | .markProgramComplete | .operationFailed => true
  | .rowPulse _ | .slwHoldExpiry | .topOfForm | .frameAccepted _ | .frameReceiveError _ | .lineQuiet
  | .demand _ _ _ _ _ | .void _ _ _ _ | .setup | .query | .clear | .job | .cancel | .cancelAll | .minimumRunComplete
  | .suspendComplete | .loadComplete | .renderComplete | .dataLoadComplete | .latchComplete | .mainPulseComplete
  | .boostPulseComplete | .conversionComplete _ | .transmitOpportunity | .collision _ | .jamEnd _ | .backoffEnd
  | .frameSent | .frameBegins | .storeReadRequest _ _ => false

theorem exec_resumes {c : Instr} (hc : isOfStore c = false) (h : exec c s = .next t) :
    s.store.OnlyResumes t.store := by
  cases c <;> cases hc
  case topOfForm => cases h; exact takeTof_resumes s
  case frameAccepted => cases h; exact acceptFrame_resumes s _
  case demand => cases h; exact acceptFrame_resumes s _
  case void => cases h; exact acceptFrame_resumes s _
  case cancel =>
    simp only [exec, execCancel] at h
    split at h <;> cases h
    · split
      · exact .refl _
      · exact takeCancel_resumes (popCommand s) _
    · exact .refl _
  case cancelAll =>
    simp only [exec, execCancelAll] at h
    split at h <;> cases h
    · split
      · exact takeCancelAll_resumes (popCommand s)
      · exact .refl _
    · exact .refl _
  case minimumRunComplete =>
    cases (exec_minimumRunComplete s).symm.trans h
    exact s.store.onlyResumes_readers ..
  case suspendComplete =>
    by_cases hp : s.store.phase = .suspending
    · cases (exec_suspendComplete hp).symm.trans h
      exact suspended_resumes s
    · cases (exec_suspendComplete_of_not_suspending hp).symm.trans h
      exact .refl _
  case loadComplete =>
    simp only [exec, execLoadComplete] at h
    split at h
    · cases h; exact .refl _
    · split at h <;> cases h
      · simpa using endLoad_resumes s _
      · exact .refl _
  case renderComplete =>
    simp only [exec, execRenderComplete] at h
    split at h
    · cases h; exact .refl _
    · split at h <;> cases h
      · simpa using endRender_resumes s _
      · exact .refl _
  case storeReadRequest => exact execStoreReadRequest_resumes h
  -- what is left leaves the store as it is
  all_goals refine .of_eq ?_
  case rowPulse =>
    simp only [exec, execRowPulse] at h
    split at h <;> cases h <;> simp
  case slwHoldExpiry =>
    cases h
    split <;> simp
  case setup | dataLoadComplete | latchComplete | mainPulseComplete | boostPulseComplete =>
    simp only [exec, execSetup, execDataLoadComplete, execLatchComplete, execMainPulseComplete,
      execBoostPulseComplete] at h
    split at h
    · split at h <;> cases h <;> simp
    · cases h; rfl
  case query | clear | job =>
    simp only [exec, execQuery, execClear, execJob] at h
    split at h <;> cases h <;> simp
  all_goals
    cases h
    simp

end Resumes

/-! #### The memory (R151, R163) -/

section StoreMemory
variable {s t u v : State}

theorem TakesEffect.memory_eq (h : TakesEffect u v) : v.store.memory = u.store.memory := by rw [h.store]

/-- The taking of a command makes no operation yet: it begins the first at most. -/
theorem takeStoreFrame_memory (s : State) (f : StoreFrame) : (takeStoreFrame s f).store.memory = s.store.memory := by
  have habandon : (abandonForBegin s).store.memory = s.store.memory := by
    unfold abandonForBegin
    split <;> simp [abandonWrite, Store.abandon]
  cases f with
  | begin number kind len =>
    rw [← habandon, takeStoreFrame, takeStoreBegin]
    repeat' split
    all_goals simp [Store.beginWrite, Store.serve]
  | data offset bytes =>
    rw [takeStoreFrame, takeStoreData]
    repeat' split
    all_goals simp [Store.serve, abandonWrite, Store.abandon]
  | stop check =>
    rw [takeStoreFrame, takeStoreEnd]
    repeat' split
    all_goals simp [Store.serve, abandonWrite, Store.abandon]
  | delete number =>
    rw [takeStoreFrame, takeStoreDelete]
    repeat' split
    all_goals simp [Store.serve]

theorem takeNextStore_memory (s : State) : (takeNextStore s).store.memory = s.store.memory := by
  unfold takeNextStore
  split
  · exact takeStoreFrame_memory (popStore s) _
  · rfl

theorem takeStoreHead_memory (s : State) (cmd : StoreCmd) : (takeStoreHead s cmd).store.memory = s.store.memory := by
  unfold takeStoreHead
  split
  · exact takeNextStore_memory s
  · rfl

theorem endServing_memory (s : State) : (endServing s).store.memory = s.store.memory := by
  rw [endServing, takeNextStore_memory]
  simp

theorem continueServing_memory (s : State) : (continueServing s).store.memory = s.store.memory := by
  unfold continueServing
  split
  · rfl
  · split
    · rw [endServing_memory, (completeServing_takesEffect s _).memory_eq]
    · exact s.store.beginDue_resumes.memory

/-- An operation's completion event finds no such operation and changes nothing, or makes the operation and the command
goes on (R164). -/
theorem completeOp_cases {isKind : StoreOp → Bool} (h : completeOp s isKind = .next t) : t = s
    ∨ ∃ op, s.store.current = some op ∧ op.endAddress ≤ Config.storeBytes
      ∧ t = continueServing (operationEnded s op) := by
  unfold completeOp at h
  split at h
  · rename_i op hop
    split at h
    · split at h
      · exact .inr ⟨op, hop, ‹_›, (Host.Outcome.next.inj h).symm⟩
      · cases h
    · exact .inl (Host.Outcome.next.inj h).symm
  · exact .inl (Host.Outcome.next.inj h).symm

/-- The failure of an operation finds none and changes nothing, or aborts it and ends the command served (R162). -/
theorem execOperationFailed_cases (h : execOperationFailed s = .next t) : t = s
    ∨ ∃ op, s.store.current = some op ∧ (t = operationAborted s op
      ∨ ∃ sv, s.store.serving = some sv ∧ t = endServing (failServing (operationAborted s op) sv op)) := by
  unfold execOperationFailed at h
  dsimp only at h
  split at h
  · rename_i op hop
    split at h
    · refine .inr ⟨op, hop, ?_⟩
      split at h
      · rename_i sv hsv
        exact .inr ⟨sv, by simpa [Store.operationFailed] using hsv, (Host.Outcome.next.inj h).symm⟩
      · exact .inl (Host.Outcome.next.inj h).symm
    · exact .inl (Host.Outcome.next.inj h).symm
  · exact .inl (Host.Outcome.next.inj h).symm

/-- What a command can leave of the memory: it stays, or the operation in progress is made, or interrupted (R151,
R163). -/
def State.MemoryLeft (s : State) (m : Memory) : Prop :=
  m = s.store.memory ∨ ∃ op, s.store.current = some op
    ∧ ((op.endAddress ≤ Config.storeBytes ∧ m = op.apply s.store.memory)
      ∨ m = op.interrupt s.store.memory s.freeCount)

theorem completeOp_memory {isKind : StoreOp → Bool} (h : completeOp s isKind = .next t) :
    s.MemoryLeft t.store.memory := by
  rcases completeOp_cases h with rfl | ⟨op, hop, hend, rfl⟩
  · exact .inl rfl
  · exact .inr ⟨op, hop, .inl ⟨hend, by rw [continueServing_memory, operationEnded_store]⟩⟩

theorem exec_memory {c : Instr} (h : exec c s = .next t) : s.MemoryLeft t.store.memory := by
  by_cases hc : isOfStore c = false
  · exact .inl (exec_resumes hc h).memory
  · cases c <;> try exact absurd rfl hc
    case coldStart =>
      cases h
      cases hop : s.store.current with
      | none => exact .inl (by simp [State.afterColdStart, Store.reset, Store.abandonedMemory, hop])
      | some op =>
        exact .inr ⟨op, hop, .inr (by simp [State.afterColdStart, Store.reset, Store.abandonedMemory, hop])⟩
    case scanComplete =>
      cases h
      split
      · exact .inl rfl
      · exact .inl rfl
    case storeBegin | storeData | storeEnd | storeDelete => cases h; exact .inl (takeStoreHead_memory s _)
    case sectorEraseComplete | lineProgramComplete | markProgramComplete => exact completeOp_memory h
    case operationFailed =>
      rcases execOperationFailed_cases h with rfl | ⟨op, hop, rfl | ⟨sv, -, rfl⟩⟩
      · exact .inl rfl
      · exact .inr ⟨op, hop, .inr (by rw [operationAborted_store])⟩
      · refine .inr ⟨op, hop, .inr ?_⟩
        rw [endServing_memory, (failServing_takesEffect _ sv op).memory_eq, operationAborted_store]

theorem exec_memoryOk {c : Instr} (hs : s.MemoryOk) (h : exec c s = .next t) : t.MemoryOk := by
  unfold State.MemoryOk at hs ⊢
  rcases exec_memory h with hsame | ⟨op, -, ⟨hend, happly⟩ | hinterrupt⟩
  · rwa [hsame]
  · exact happly ▸ StoreOp.apply_wf hs hend
  · exact hinterrupt ▸ StoreOp.interrupt_wf hs _ op

theorem step_memoryOk (hs : s.MemoryOk) (h : step s = .next t) : t.MemoryOk := by
  unfold step at h
  split at h
  · exact exec_memoryOk (s := s.setPending _) (by exact hs) h
  · cases h
    simpa [State.MemoryOk] using hs

end StoreMemory

/-- Settles O8: a step leaves the memory, or makes or interrupts one operation, and each keeps the form. -/
theorem stepKeepsMemory : Obligations.StepKeepsMemory := fun _ _ => step_memoryOk

end Sys2Proof.Machine

/-! ### The run of sectors of a STORE-BEGIN (R158) -/

namespace Sys2Proof.Machine

section Run
variable {m : List SectorState} {count i : Nat}

/-- `count` sectors from `i` on lie within the store, all Free or Dirty. -/
def RunAvailable (m : List SectorState) (count i : Nat) : Prop :=
  i + count ≤ 64 ∧ ∀ j, j < count → m.getD (i + j) .used ≠ .used

theorem sectorsFor_eq (len : Nat) : sectorsFor len = (len + 64 + 16383) / 16384 := rfl

theorem sectorsFor_pos (len : Nat) : 1 ≤ sectorsFor len := by
  rw [sectorsFor_eq]
  omega

/-- A length with its header fits its sectors. -/
theorem length_le_sectors (len : Nat) : len + 64 ≤ 16384 * sectorsFor len := by
  rw [sectorsFor_eq]
  omega

/-- Past the last sector none is available. -/
theorem lt_of_sectorAt_ne_used (hm : m.length = 64) (h : sectorAt m i ≠ .used) : i < 64 := by
  by_contra hi
  exact h (List.getD_eq_default m .used (by omega))

theorem RunAvailable.lt (h : RunAvailable m count i) (hc : 1 ≤ count) : i < Config.sectorCount := by
  obtain ⟨hend, -⟩ := h
  show i < 64
  omega

theorem runFits_iff (hm : m.length = 64) (hc : 1 ≤ count) : runFits m i count = true ↔ RunAvailable m count i := by
  have hfree : runFits m i count = true ↔ ∀ j, j < count → m.getD (i + j) .used ≠ .used := by
    simp [runFits, sectorAt]
  rw [hfree]
  refine ⟨fun h => ⟨?_, h⟩, fun ⟨_, h⟩ => h⟩
  have hlast := lt_of_sectorAt_ne_used hm (h (count - 1) (by omega))
  omega

theorem findRun_eq_some (hm : m.length = 64) (hc : 1 ≤ count) :
    findRun m count = some i ↔ RunAvailable m count i ∧ ∀ j, j < i → ¬RunAvailable m count j := by
  unfold findRun
  split
  · simp only [List.find?_range_eq_some, runFits_iff hm hc, List.mem_range, Bool.not_eq_true', ← Bool.not_eq_true]
    exact ⟨fun ⟨hfits, _, hfirst⟩ => ⟨hfits, hfirst⟩, fun ⟨hfits, hfirst⟩ => ⟨hfits, hfits.lt hc, hfirst⟩⟩
  · rename_i hmany
    have hmany : ¬count ≤ 64 := hmany
    refine iff_of_false (by simp) fun ⟨⟨hend, _⟩, _⟩ => ?_
    omega

theorem findRun_eq_none (hm : m.length = 64) (hc : 1 ≤ count) :
    findRun m count = none ↔ ∀ i, ¬RunAvailable m count i := by
  unfold findRun
  split
  · simp only [List.find?_eq_none, List.mem_range, runFits_iff hm hc]
    exact ⟨fun h i hi => h i (hi.lt hc) hi, fun h i _ => h i⟩
  · rename_i hmany
    have hmany : ¬count ≤ 64 := hmany
    refine iff_of_true rfl fun i ⟨hend, _⟩ => ?_
    omega

theorem dirtyOf_eq (m : List SectorState) (first count : Nat) :
    dirtyOf m first count = (List.range' first count).filter fun i => decide (m.getD i .used = .dirty) := by
  rw [List.range'_eq_map_range]
  rfl

theorem lt_of_mem_dirtyOf {first : Nat} (hm : m.length = 64) (h : i ∈ dirtyOf m first count) : i < 64 := by
  obtain ⟨-, hdirty⟩ := List.mem_filter.1 h
  refine lt_of_sectorAt_ne_used hm ?_
  rw [of_decide_eq_true hdirty]
  simp

end Run

end Sys2Proof.Machine

/-! ### Where a command stops, and the store's operations within the store (O3, O14) -/

namespace Sys2Proof.Machine

/-! #### The fault of log 26 (R151) -/

/-- A completion event goes on, or makes the one fault: the operation in progress runs past the last address. -/
theorem completeOp_stops (s : State) (isKind : StoreOp → Bool) : (∃ t, completeOp s isKind = .next t)
    ∨ (∃ op, s.store.current = some op ∧ Config.storeBytes < op.endAddress)
      ∧ completeOp s isKind = .fault (.noSuchStoreAddress 1048576) := by
  unfold completeOp
  split
  · rename_i op hop
    split
    · split
      · exact .inl ⟨_, rfl⟩
      · exact .inr ⟨⟨op, hop, by omega⟩, rfl⟩
    · exact .inl ⟨_, rfl⟩
  · exact .inl ⟨_, rfl⟩

/-- Every branch of every other command has a next state. -/
theorem exec_next_of_not_completion {c : Instr}
    (hc : ¬(c = .sectorEraseComplete ∨ c = .lineProgramComplete ∨ c = .markProgramComplete)) (s : State) :
    ∃ t, exec c s = .next t := by
  cases c <;> simp only [reduceCtorEq, or_false, or_true, not_true_eq_false, not_false_eq_true] at hc
  case rowPulse | setup | query | clear | job | cancel | cancelAll | operationFailed | minimumRunComplete
      | suspendComplete | loadComplete | renderComplete | dataLoadComplete | latchComplete | mainPulseComplete
      | boostPulseComplete | storeReadRequest =>
    simp only [exec, execRowPulse, execSetup, execQuery, execClear, execJob, execCancel, execCancelAll,
      execOperationFailed, execMinimumRunComplete, execSuspendComplete, execLoadComplete, execRenderComplete,
      execDataLoadComplete, execLatchComplete, execMainPulseComplete, execBoostPulseComplete, execStoreReadRequest]
    (repeat' split) <;> exact ⟨_, rfl⟩
  all_goals exact ⟨_, rfl⟩

/-- Settles O3: the three completion events have the one fault, and the other commands none. -/
theorem execStopsOnlyPastStore : Obligations.ExecStopsOnlyPastStore := by
  intro c s
  by_cases hc : c = .sectorEraseComplete ∨ c = .lineProgramComplete ∨ c = .markProgramComplete
  · rcases hc with rfl | rfl | rfl
    · exact (completeOp_stops s StoreOp.isErase).imp_right fun h => ⟨by simp, h⟩
    · exact (completeOp_stops s StoreOp.isLine).imp_right fun h => ⟨by simp, h⟩
    · exact (completeOp_stops s StoreOp.isMark).imp_right fun h => ⟨by simp, h⟩
  · exact .inl (exec_next_of_not_completion hc s)

/-! #### The store within its bounds (R151, R153, R157) -/

/-- The map covers every sector, and the catalogued objects, the open write and the operations lie within the store,
whatever command is served. -/
structure Store.Sound (st : Store) : Prop where
  sectors    : st.sectors.length = 64
  catalog    : ∀ e ∈ st.catalog, e.first + e.count ≤ 64 ∧ 1 ≤ e.count
  write      : ∀ w ∈ st.write, w.Ok
  operations : ∀ op ∈ st.operations, op.endAddress ≤ Config.storeBytes

/-- And what the end of the command served needs is there. -/
def Store.Ok (st : Store) : Prop := st.Sound ∧ st.ServingOk

theorem State.storeOk_iff (s : State) : s.StoreOk ↔ s.store.Ok := by
  have hops : (∀ op ∈ s.store.operations, op.endAddress ≤ Config.storeBytes)
      ↔ (∀ op ∈ s.store.current, op.endAddress ≤ Config.storeBytes)
        ∧ ∀ op ∈ s.store.due, op.endAddress ≤ Config.storeBytes := by
    simp [Store.operations, or_imp, forall_and]
  constructor
  · rintro ⟨hsectors, hcatalog, hwrite, hserving, hcurrent, hdue⟩
    exact ⟨⟨hsectors, hcatalog, hwrite, hops.2 ⟨hcurrent, hdue⟩⟩, hserving⟩
  · rintro ⟨⟨hsectors, hcatalog, hwrite, hall⟩, hserving⟩
    exact ⟨hsectors, hcatalog, hwrite, hserving, hops.1 hall⟩

section Bounds
variable {st st' : Store} {w : WriteCtx} {e : CatEntry} {op : StoreOp} {sv : Serving}

theorem Store.servingOk_of_none (h : st.serving = none) : st.ServingOk := by simp [Store.ServingOk, h]

theorem Store.servingOk_congr (hserving : st'.serving = st.serving) (hwrite : st'.write = st.write) :
    st'.ServingOk ↔ st.ServingOk := by simp [Store.ServingOk, hserving, hwrite]

theorem Store.OnlyResumes.ok (h : st.OnlyResumes st') (hst : st.Ok) : st'.Ok where
  left := {
    sectors := h.sectors ▸ hst.1.sectors
    catalog := h.catalog ▸ hst.1.catalog
    write := h.write ▸ hst.1.write
    operations := fun op hop => hst.1.operations op (h.operations hop) }
  right := (Store.servingOk_congr h.serving h.write).2 hst.2

/-! #### The operations of the commands (R152, R158 to R161) -/

/-- The body of an open write lies within the store. -/
theorem WriteCtx.Ok.bodyAddress_le (h : w.Ok) {b : Nat} (hb : b ≤ w.length) :
    bodyAddress w.first b ≤ Config.storeBytes := by
  obtain ⟨hcount, hend, -⟩ := h
  have hend : w.first + w.count ≤ 64 := hend
  have hlen := length_le_sectors w.length
  show 16384 * w.first + 64 + b ≤ 1048576
  omega

theorem WriteCtx.Ok.first_lt (h : w.Ok) : w.first < 64 := by
  obtain ⟨hcount, hend, -⟩ := h
  have hend : w.first + w.count ≤ 64 := hend
  have hpos := sectorsFor_pos w.length
  omega

theorem erase_endAddress {i : Nat} (hi : i < 64) : (StoreOp.erase i).endAddress ≤ Config.storeBytes := by
  show 16384 * (i + 1) ≤ 1048576
  omega

theorem header_endAddress {i : Nat} (hi : i < 64) :
    (StoreOp.line (sectorAddress i) (headerBytesOf w)).endAddress ≤ Config.storeBytes := by
  show 16384 * i + 11 ≤ 1048576
  omega

theorem validMark_endAddress {i : Nat} (hi : i < 64) (check : Check) :
    (validMarkOp i check).endAddress ≤ Config.storeBytes := by
  show 16384 * i + 8 + 3 ≤ 1048576
  omega

theorem deletedMark_endAddress {i : Nat} (hi : i < 64) : (deletedMarkOp i).endAddress ≤ Config.storeBytes := by
  show 16384 * i + 10 + 1 ≤ 1048576
  omega

/-- The line programs of a STORE-DATA end where its bytes end. -/
theorem lineOps_endAddress {a : Nat} {bs : List Byte} (h : op ∈ lineOps a bs) : op.endAddress ≤ a + bs.length := by
  unfold lineOps at h
  dsimp only at h
  split at h
  · rw [List.mem_singleton.1 h]
    exact Nat.le_refl _
  · simp only [List.mem_cons, List.not_mem_nil, or_false] at h
    rcases h with rfl | rfl <;> simp only [StoreOp.endAddress, List.length_take, List.length_drop] <;> omega

/-- A catalogued object has its first sector in the store. -/
theorem Store.Sound.first_lt (h : st.Sound) (he : e ∈ st.catalog) : e.first < 64 := by
  obtain ⟨hend, hpos⟩ := h.catalog e he
  omega

theorem Store.Sound.catFind_first_lt (h : st.Sound) {n : Nat} (he : catFind st.catalog n = some e) : e.first < 64 :=
  h.first_lt (catFind_eq_some he).1

/-! #### The taking of the commands (R156 to R161) -/

/-- A command whose operations lie within the store is served with its first begun. -/
theorem Store.Sound.serve (h : st.Sound) {ops : List StoreOp}
    (hserving : Store.ServingOk { st with serving := some sv })
    (hops : ∀ op ∈ ops, op.endAddress ≤ Config.storeBytes) : (st.serve sv ops).Ok := by
  refine (Store.beginDue_resumes _).ok ⟨⟨h.sectors, h.catalog, h.write, fun op hop => ?_⟩, ?_⟩
  · rcases List.mem_append.1 hop with hcurrent | hdue
    · exact h.operations op (List.mem_append_left _ hcurrent)
    · exact hops op hdue
  · exact (Store.servingOk_congr (by rfl) (by rfl)).2 hserving

theorem Store.Sound.abandon (h : st.Sound) (w : WriteCtx) : (st.abandon w).Sound where
  sectors := (setSectors_length ..).trans h.sectors
  catalog := h.catalog
  write := by simp [Store.abandon]
  operations := h.operations

theorem Store.Sound.beginWrite (h : st.Sound) (hw : w.Ok) : (st.beginWrite w).Ok := by
  have hused : Store.Sound { st with sectors := setSectors st.sectors w.first w.count .used } :=
    ⟨(setSectors_length ..).trans h.sectors, h.catalog, h.write, h.operations⟩
  refine hused.serve hw fun op hop => ?_
  rcases List.mem_append.1 hop with hop | hop
  · obtain ⟨i, hi, rfl⟩ := List.mem_map.1 hop
    exact erase_endAddress (lt_of_mem_dirtyOf h.sectors hi)
  · rw [List.mem_singleton.1 hop]
    exact header_endAddress hw.first_lt

theorem Store.Sound.newWrite (h : st.Sound) {len first : Nat} (hrun : findRun st.sectors (sectorsFor len) = some first)
    (number : Nat) (kind : ObjKind) : (st.newWrite number kind len first).Ok := by
  obtain ⟨⟨hend, -⟩, -⟩ := (findRun_eq_some h.sectors (sectorsFor_pos len)).1 hrun
  exact ⟨rfl, hend, Nat.zero_le _⟩

/-- The operations of a STORE-END (R160). -/
theorem Store.Sound.endOps (h : st.Sound) (hw : w.Ok) : ∀ op ∈ st.endOps w, op.endAddress ≤ Config.storeBytes := by
  intro op hop
  unfold Store.endOps at hop
  rcases List.mem_cons.1 hop with rfl | hop
  · exact validMark_endAddress hw.first_lt _
  · split at hop
    · rename_i old hold
      rw [List.mem_singleton.1 hop]
      exact deletedMark_endAddress (h.catFind_first_lt hold)
    · cases hop

end Bounds

section Taken
variable {s t : State} {w : WriteCtx} {e : CatEntry} {op : StoreOp} {sv : Serving}

/-- A refused command leaves the controller waiting. -/
theorem ok_of_waiting (h : s.store.Sound) (hserving : s.store.serving = none) : s.store.Ok :=
  ⟨h, Store.servingOk_of_none hserving⟩

theorem storeRecord_ok (h : s.store.Sound) (hserving : s.store.serving = none) (cmd : StoreCmd) (number : Nat)
    (result : StoreResult) (generation received : Nat) :
    (storeRecord s cmd number result generation received).store.Ok := by
  simpa using ok_of_waiting h hserving

theorem abandonForBegin_sound (h : s.store.Sound) (hserving : s.store.serving = none) :
    (abandonForBegin s).store.Sound ∧ (abandonForBegin s).store.serving = none := by
  unfold abandonForBegin
  split
  · rename_i w _
    have habandon : (abandonWrite s w).store.Sound := h.abandon w
    have hwaiting : (abandonWrite s w).store.serving = none := hserving
    simpa using And.intro habandon hwaiting
  · exact ⟨h, hserving⟩

theorem takeStoreBegin_ok (h : s.store.Sound) (hserving : s.store.serving = none) (number kind len : Nat) :
    (takeStoreBegin s number kind len).store.Ok := by
  obtain ⟨hsound, hwaiting⟩ := abandonForBegin_sound h hserving
  unfold takeStoreBegin
  dsimp only
  split
  · exact storeRecord_ok hsound hwaiting ..
  · split
    · split
      · exact storeRecord_ok hsound hwaiting ..
      · split
        · exact storeRecord_ok hsound hwaiting ..
        · exact hsound.beginWrite (hsound.newWrite ‹_› _ _)
    · exact storeRecord_ok hsound hwaiting ..

theorem takeStoreData_ok (h : s.store.Sound) (hserving : s.store.serving = none) (offset : Nat) (bytes : List Byte) :
    (takeStoreData s offset bytes).store.Ok := by
  unfold takeStoreData
  split
  · exact storeRecord_ok h hserving ..
  · rename_i w hw
    split
    · rename_i horder
      obtain ⟨hoffset, hlength⟩ : offset = w.received ∧ offset + bytes.length ≤ w.length := by
        simpa [WriteCtx.inOrder] using horder
      have hbody := (h.write w hw).bodyAddress_le hlength
      refine h.serve ⟨w, hw, hoffset ▸ hlength⟩ fun op hop => (lineOps_endAddress hop).trans ?_
      rwa [bodyAddress, ← Nat.add_assoc] at hbody
    · exact storeRecord_ok (s := abandonWrite s w) (h.abandon w) hserving ..

theorem takeStoreEnd_ok (h : s.store.Sound) (hserving : s.store.serving = none) (check : Check) :
    (takeStoreEnd s check).store.Ok := by
  unfold takeStoreEnd
  split
  · exact storeRecord_ok h hserving ..
  · rename_i w hw
    split
    · split
      · exact storeRecord_ok h hserving ..
      · exact h.serve ⟨w, hw⟩ (h.endOps (h.write w hw))
    · exact storeRecord_ok (s := abandonWrite s w) (h.abandon w) hserving ..

theorem takeStoreDelete_ok (h : s.store.Sound) (hserving : s.store.serving = none) (number : Nat) :
    (takeStoreDelete s number).store.Ok := by
  unfold takeStoreDelete
  split
  · exact storeRecord_ok h hserving ..
  · split
    · exact storeRecord_ok h hserving ..
    · rename_i e he
      split
      · exact storeRecord_ok h hserving ..
      · refine h.serve trivial fun op hop => ?_
        rw [List.mem_singleton.1 hop]
        exact deletedMark_endAddress (h.catFind_first_lt he)

theorem takeNextStore_ok (h : s.store.Sound) (hserving : s.store.serving = none) : (takeNextStore s).store.Ok := by
  unfold takeNextStore
  split
  · rename_i f _ _
    cases f with
    | begin number kind len => exact takeStoreBegin_ok (s := popStore s) h hserving _ _ _
    | data offset bytes => exact takeStoreData_ok (s := popStore s) h hserving _ _
    | stop check => exact takeStoreEnd_ok (s := popStore s) h hserving _
    | delete number => exact takeStoreDelete_ok (s := popStore s) h hserving _
  · exact ok_of_waiting h hserving

theorem takeStoreHead_ok (h : s.store.Ok) (cmd : StoreCmd) : (takeStoreHead s cmd).store.Ok := by
  unfold takeStoreHead
  split
  · rename_i htake
    obtain ⟨-, hserving⟩ : s.station ≠ .starting ∧ s.store.serving = none := by
      simpa [State.storeWaiting] using htake.1
    exact takeNextStore_ok h.1 hserving
  · exact h

/-! #### The ends of the operations (R160 to R162) -/

theorem dirtyObject_length (sectors : List SectorState) (cat : List CatEntry) (number : Nat) :
    (dirtyObject sectors cat number).length = sectors.length := by
  unfold dirtyObject
  split
  · exact setSectors_length ..
  · rfl

theorem Store.Sound.commit {st : Store} (h : st.Sound) (hw : w.Ok) : (st.commit w).Sound where
  sectors := (dirtyObject_length ..).trans h.sectors
  catalog x hx := by
    rcases mem_setEntry_iff.1 hx with rfl | ⟨hmem, -⟩
    · obtain ⟨hcount, hend, -⟩ := hw
      exact ⟨hend, (sectorsFor_pos w.length).trans_eq hcount.symm⟩
    · exact h.catalog x hmem
  write := by simp [Store.commit]
  operations := h.operations

theorem Store.Sound.remove {st : Store} (h : st.Sound) (number : Nat) : (st.remove number).Sound where
  sectors := (dirtyObject_length ..).trans h.sectors
  catalog x hx := h.catalog x (List.mem_of_mem_filter hx)
  write := h.write
  operations := h.operations

/-- What a command's completion takes effect on lies within the store. -/
theorem completeServing_sound (h : s.store.Ok) (hsv : s.store.serving = some sv) :
    (completeServing s sv).store.Sound := by
  obtain ⟨hsound, hserving⟩ := h
  cases sv with
  | begin w dirty =>
    have hw : w.Ok := by simpa [Store.ServingOk, hsv] using hserving
    have hopened : Store.Sound { s.store with write := some w } :=
      ⟨hsound.sectors, hsound.catalog, by simpa using hw, hsound.operations⟩
    simpa [completeServing_begin] using hopened
  | data bytes =>
    obtain ⟨w, hw, hroom⟩ : ∃ w, s.store.write = some w ∧ w.received + bytes.length ≤ w.length := by
      simpa only [Store.ServingOk, hsv] using hserving
    obtain ⟨hcount, hend, -⟩ := hsound.write w hw
    have htaken : (w.takeBytes bytes).Ok := ⟨hcount, hend, hroom⟩
    have hopened : Store.Sound { s.store with write := some (w.takeBytes bytes) } :=
      ⟨hsound.sectors, hsound.catalog, by simpa using htaken, hsound.operations⟩
    simpa [completeServing_data hw] using hopened
  | stop b =>
    obtain ⟨w, hw⟩ : ∃ w, s.store.write = some w := by simpa only [Store.ServingOk, hsv] using hserving
    simpa [completeServing_stop hw] using hsound.commit (hsound.write w hw)
  | delete number => simpa [completeServing_delete] using hsound.remove number

/-- What a command's failure takes effect on lies within the store. -/
theorem failServing_sound (h : s.store.Ok) (hsv : s.store.serving = some sv) (op : StoreOp) :
    (failServing s sv op).store.Sound := by
  have hsound := h.1
  unfold failServing
  split
  · rename_i w dirty
    have hreleased : (s.store.releaseRun w (if op.isErase then dirty else [w.first])).Sound :=
      ⟨((s.store.releaseRun_sectors w _).1).trans hsound.sectors, hsound.catalog, hsound.write, hsound.operations⟩
    simpa using hreleased
  · rename_i w _
    have habandon : (abandonWrite s w).store.Sound := hsound.abandon w
    simpa using habandon
  · rename_i w _
    have habandon : (abandonWrite s w).store.Sound := hsound.abandon w
    simpa using habandon
  · exact completeServing_sound h hsv
  · simpa using hsound
  · exact hsound
  · exact hsound

theorem endServing_ok (h : s.store.Sound) : (endServing s).store.Ok := by
  have hover : Store.Sound { s.store with serving := none, due := [] } :=
    ⟨h.sectors, h.catalog, h.write, fun op hop =>
      h.operations op (List.mem_append_left _ (by simpa [Store.operations] using hop))⟩
  exact takeNextStore_ok (by simpa using hover) (by simp)

theorem continueServing_ok (h : s.store.Ok) : (continueServing s).store.Ok := by
  unfold continueServing
  split
  · exact h
  · rename_i sv hsv
    split
    · exact endServing_ok (completeServing_sound h hsv)
    · exact s.store.beginDue_resumes.ok h

/-- What a served command notes of an operation leaves it what its end needs. -/
theorem operationEnded_ok (h : s.store.Ok) (op : StoreOp) : (operationEnded s op).store.Ok := by
  obtain ⟨hsound, hserving⟩ := h
  rw [operationEnded_store]
  refine ⟨⟨hsound.sectors, hsound.catalog, hsound.write, fun op hop =>
    hsound.operations op (List.mem_append_right _ hop)⟩, ?_⟩
  unfold Store.ServingOk at hserving ⊢
  cases hsv : s.store.serving with
  | none => trivial
  | some sv =>
    rw [hsv] at hserving
    cases sv <;> cases op <;> exact hserving

theorem operationAborted_ok (h : s.store.Ok) (op : StoreOp) : (operationAborted s op).store.Ok := by
  obtain ⟨hsound, hserving⟩ := h
  rw [operationAborted_store]
  refine ⟨⟨hsound.sectors, hsound.catalog, hsound.write, by simp [Store.operations]⟩, ?_⟩
  exact (Store.servingOk_congr (by rfl) (by rfl)).2 hserving

theorem completeOp_ok {isKind : StoreOp → Bool} (hs : s.store.Ok) (h : completeOp s isKind = .next t) :
    t.store.Ok := by
  rcases completeOp_cases h with rfl | ⟨op, -, -, rfl⟩
  · exact hs
  · exact continueServing_ok (operationEnded_ok hs op)

theorem execOperationFailed_ok (hs : s.store.Ok) (h : execOperationFailed s = .next t) : t.store.Ok := by
  rcases execOperationFailed_cases h with rfl | ⟨op, -, rfl | ⟨sv, hsv, rfl⟩⟩
  · exact hs
  · exact operationAborted_ok hs op
  · exact endServing_ok (failServing_sound (operationAborted_ok hs op) (by rwa [operationAborted_store]) op)

/-! #### Cold start and the scan (R154, R168) -/

theorem afterColdStart_ok {sectors : List SectorState} (hsectors : sectors.length = 64) (number : Nat)
    (memory : Memory) (freeCount : Nat) (pending : List Instr) :
    (State.afterColdStart number memory sectors freeCount pending).store.Ok := by
  refine ⟨⟨hsectors, ?_, ?_, ?_⟩, trivial⟩ <;> simp [State.afterColdStart, Store.reset, Store.operations]

/-- The scan catalogues objects whose headers say that they lie within the store. -/
theorem endScan_ok (h : s.store.Ok) : (endScan s).store.Ok := by
  obtain ⟨hsound, hserving⟩ := h
  obtain ⟨hcat, hmap⟩ := scanStore_scanned s.store.memory
  refine ⟨⟨hmap.length, fun e he => ?_, hsound.write, hsound.operations⟩,
    (Store.servingOk_congr (by rfl) (by rfl)).2 hserving⟩
  obtain ⟨⟨-, hheader, -, -⟩, -⟩ := hcat.found e he
  obtain ⟨-, -, -, -, -, -, -, hcount, hfits⟩ := scanHeader_eq_some.1 hheader
  exact ⟨hfits, (sectorsFor_pos e.length).trans_eq hcount.symm⟩

/-! #### Every command and every step -/

theorem exec_storeOk {c : Instr} (hs : s.store.Ok) (h : exec c s = .next t) : t.store.Ok := by
  by_cases hc : isOfStore c = false
  · exact (exec_resumes hc h).ok hs
  · cases c <;> try exact absurd rfl hc
    case coldStart => cases h; exact afterColdStart_ok hs.1.sectors ..
    case scanComplete =>
      cases h
      split
      · exact endScan_ok hs
      · exact hs
    case storeBegin | storeData | storeEnd | storeDelete => cases h; exact takeStoreHead_ok hs _
    case sectorEraseComplete | lineProgramComplete | markProgramComplete => exact completeOp_ok hs h
    case operationFailed => exact execOperationFailed_ok hs h

/-- With every operation within the store no command faults. -/
theorem exec_next_of_storeOk (hs : s.store.Ok) (c : Instr) : ∃ t, exec c s = .next t := by
  rcases execStopsOnlyPastStore c s with hnext | ⟨-, ⟨op, hop, hpast⟩, -⟩
  · exact hnext
  · have hend := hs.1.operations op (by simp [Store.operations, hop])
    omega

end Taken

/-- Settles O14: the operations that each command makes due lie within the store, so that their ends do not fault. -/
theorem stepNeverFaults : Obligations.StepNeverFaults := by
  intro s hs
  have hok := s.storeOk_iff.1 hs
  unfold step
  split
  · rename_i c rest _
    obtain ⟨t, ht⟩ := exec_next_of_storeOk (s := s.setPending rest) hok c
    exact ⟨t, ht, t.storeOk_iff.2 (exec_storeOk (s := s.setPending rest) hok ht)⟩
  · exact ⟨tick s, rfl, (tick s).storeOk_iff.2 (by simpa using hok)⟩

end Sys2Proof.Machine

/-! ### Cold start (O5) -/

namespace Sys2Proof.Machine

theorem strapNumber_eq (sid1 sid0 : Bool) :
    strapNumber sid1 sid0 = (if sid1 then 2 else 0) + (if sid0 then 1 else 0) := by
  cases sid1 <;> cases sid0 <;> rfl

/-- An interrupted operation leaves the bytes outside it, also one that runs past the store: it touches nothing (R163,
log 7). -/
theorem StoreOp.read_interrupt_outside {m : Memory} {k y : Nat} (h : m.WF) {op : StoreOp} (hy : match op with
      | .erase i => inSector i y = false
      | .line first bs | .mark first bs => y < first ∨ first + bs.length ≤ y) :
    (op.interrupt m k).read y = m.read y := by
  by_cases hend : op.endAddress ≤ Config.storeBytes
  · exact StoreOp.read_interrupt_other h hy hend
  · unfold StoreOp.interrupt
    rw [if_neg hend]

/-- Settles O5: the state is that of a reset, with the straps' number and the store as the operation in progress leaves
it. -/
theorem coldStartResets : Obligations.ColdStartResets := by
  intro sid1 sid0 s
  refine ⟨_, rfl, rfl, strapNumber_eq sid1 sid0, rfl, fun hnone => ?_, fun op hmemory hop a hout => ?_⟩
  · simp [State.afterColdStart, Store.reset, Store.abandonedMemory, hnone]
  · have hleft : s.store.abandonedMemory s.freeCount = op.interrupt s.store.memory s.freeCount := by
      simp [Store.abandonedMemory, hop]
    exact (congrArg (Memory.read · a) hleft).trans
      (StoreOp.read_interrupt_outside hmemory (by cases op <;> exact hout))

end Sys2Proof.Machine

/-! ### The taking of the store commands (O58) -/

namespace Sys2Proof.Machine

/-! #### The In use test (R156) -/

section InUse
variable {number : Nat}

/-- The table entry names the glyph set or graphic of this number. -/
def TableEntry.Names (number : Nat) (e : TableEntry) : Prop :=
  (∃ rot mx my ref gh w h chars, e.part = .text rot mx my ref gh w h chars ∧ ref.number = number)
  ∨ ∃ ref w h, e.part = .graphic ref w h ∧ ref.number = number

theorem TableEntry.names_iff (e : TableEntry) : e.objectNumber = some number ↔ e.Names number := by
  unfold TableEntry.objectNumber TableEntry.Names
  cases e.part <;> simp

theorem tableNames_iff {table : List TableEntry} : tableNames table number = true ↔ ∃ e ∈ table, e.Names number := by
  simp only [tableNames, List.any_eq_true, decide_eq_true_eq, TableEntry.names_iff]

theorem Context.uses_iff {c : Context} :
    c.uses number = true ↔ (c.state ≠ .free ∧ c.form = some number) ∨ ∃ e ∈ c.table, e.Names number := by
  simp [Context.uses, tableNames_iff, Context.isFree]

theorem State.inUse_iff (s : State) : s.inUse number = true ↔
    (∃ i, (s.ctx i).state ≠ .free ∧ (s.ctx i).form = some number)
    ∨ (∃ e ∈ s.seq.queue, e.kind = .job ∧ e.form = some number)
    ∨ (∃ i, ∃ e ∈ (s.ctx i).table, e.Names number) ∨ ∃ l, s.loader = some l ∧ ∃ e ∈ l.table, e.Names number := by
  have hqueue : (s.seq.queue.any fun e => decide (e.kind = .job) && decide (e.form = some number)) = true
      ↔ ∃ e ∈ s.seq.queue, e.kind = .job ∧ e.form = some number := by simp
  rw [State.exists_ctx_iff s fun c => c.state ≠ .free ∧ c.form = some number,
    State.exists_ctx_iff s fun c => ∃ e ∈ c.table, e.Names number]
  cases hl : s.loader with
  | none =>
    simp only [State.inUse, hl, Bool.or_eq_true, Context.uses_iff, hqueue, Bool.false_eq_true, reduceCtorEq,
      false_and, exists_false, or_false]
    exact iff_of_eq (by ac_rfl)
  | some l =>
    simp only [State.inUse, hl, Bool.or_eq_true, Context.uses_iff, hqueue, tableNames_iff, Option.some.injEq,
      exists_eq_left']
    exact iff_of_eq (by ac_rfl)

end InUse

/-! #### The first operation of a command (R163) -/

section Served
variable {st : Store}

/-- A command served begins its first operation; with a hold standing it begins none, and all are due. -/
theorem Store.serve_eq (hidle : st.phase = .idle) (hcurrent : st.current = none) (sv : Serving) (op : StoreOp)
    (due : List StoreOp) : st.serve sv (op :: due) = if st.holdLoader = true ∨ st.holdRaster = true then
      { st with serving := some sv, current := none, due := op :: due, phase := .idle }
      else { st with serving := some sv, current := some op, due := due, phase := .running false } := by
  by_cases h : st.holdLoader = true ∨ st.holdRaster = true
  · have hheld : ¬(st.phase = .idle ∧ st.holdLoader = false ∧ st.holdRaster = false) := by
      rintro ⟨-, hl, hr⟩
      simp [hl, hr] at h
    rw [if_pos h, Store.serve, Store.beginDue, if_neg hheld, ← hidle, ← hcurrent]
  · have hfree : st.phase = .idle ∧ st.holdLoader = false ∧ st.holdRaster = false := by simpa [hidle] using h
    rw [if_neg h, Store.serve, Store.beginDue, if_pos hfree]

/-- The bytes of a STORE-DATA in one line program, or in two at a line's boundary (R159). -/
theorem lineOps_eq (a : Nat) (bs : List Byte) : let room := 256 - a % 256
    lineOps a bs = .line a (bs.take room) :: if bs.length ≤ room then [] else [.line (a + room) (bs.drop room)] := by
  intro room
  show (if bs.length ≤ room then _ else _) = _
  split
  · rw [List.take_of_length_le ‹_›]
  · rfl

end Served

/-! #### The taking of the queue's head (R156) -/

section Taking
variable {s : State} {rest : List StoreFrame}

/-- The waiting controller takes the head with its own event. -/
theorem exec_taking_of_head {f : StoreFrame} (hq : s.link.storeQueue = f :: rest) (hs : s.station ≠ .starting)
    (hserving : s.store.serving = none) :
    exec f.taking s = .next (takeStoreFrame (s.withStoreQueue rest) f) := by
  rw [exec_taking, takeStoreHead_of_head hq hs hserving]
  rfl

/-- The state with its controller begun on the operation `op`, the others due, or held with all of them due. -/
def State.begun (s : State) (st : Store) (op : StoreOp) (due : List StoreOp) : State :=
  if s.store.holdLoader = true ∨ s.store.holdRaster = true then
    { s with store := { st with current := none, due := op :: due, phase := .idle } }
  else { s with store := { st with current := some op, due := due, phase := .running false } }

theorem State.setStore_serve {st : Store} (hidle : st.phase = .idle) (hcurrent : st.current = none)
    (hloader : st.holdLoader = s.store.holdLoader) (hraster : st.holdRaster = s.store.holdRaster) (sv : Serving)
    (op : StoreOp) (due : List StoreOp) :
    s.setStore (st.serve sv (op :: due)) = s.begun { st with serving := some sv } op due := by
  rw [Store.serve_eq hidle hcurrent, hloader, hraster, State.begun]
  exact apply_ite s.setStore _ _ _

/-- The state with its record handed on, the report queue having room for it. -/
def State.told (s : State) (st : Store) (cmd : StoreCmd) (number : Nat) (result : StoreResult)
    (generation received : Nat) : State :=
  { s with store := st, link := { s.link with tx := s.link.tx.wake },
           report := { s.report with queue := s.report.queue
             ++ [.store ⟨cmd, number, result, generation, received⟩] } }

theorem storeRecord_setStore (hroom : s.report.queue.length < 8) (st : Store) (cmd : StoreCmd) (number : Nat)
    (result : StoreResult) (generation received : Nat) :
    storeRecord (s.setStore st) cmd number result generation received
      = s.told st cmd number result generation received :=
  storeRecord_of_room (s := s.setStore st) hroom ..

section Outcome
variable {f : StoreFrame} (hq : s.link.storeQueue = f :: rest) (hs : s.station ≠ .starting)
  (hserving : s.store.serving = none) {st : Store}
include hq hs hserving

/-- A head that only makes a record leaves the controller waiting. -/
theorem exec_taking_of_record (hroom : s.report.queue.length < 8) {cmd : StoreCmd} {number : Nat}
    {result : StoreResult} {generation received : Nat} (h : takeStoreFrame (s.withStoreQueue rest) f
      = storeRecord ((s.withStoreQueue rest).setStore st) cmd number result generation received) :
    exec f.taking s = .next ((s.withStoreQueue rest).told st cmd number result generation received) :=
  (exec_taking_of_head hq hs hserving).trans (congrArg _ (h.trans
    (storeRecord_setStore (s := s.withStoreQueue rest) hroom ..)))

/-- An accepted head begins its first operation, or has all of them due. -/
theorem exec_taking_of_serve (hidle : st.phase = .idle) (hcurrent : st.current = none)
    (hloader : st.holdLoader = s.store.holdLoader) (hraster : st.holdRaster = s.store.holdRaster) {sv : Serving}
    {op : StoreOp} {due : List StoreOp} (h : takeStoreFrame (s.withStoreQueue rest) f
      = (s.withStoreQueue rest).setStore (st.serve sv (op :: due))) :
    exec f.taking s = .next ((s.withStoreQueue rest).begun { st with serving := some sv } op due) :=
  (exec_taking_of_head hq hs hserving).trans (congrArg _ (h.trans
    (State.setStore_serve (s := s.withStoreQueue rest) hidle hcurrent hloader hraster ..)))

end Outcome

/-! #### STORE-BEGIN (R158) -/

section Begin
variable {number kind len : Nat}

theorem ObjKind.ofCode_eq_none : ObjKind.ofCode kind = none ↔ ¬(1 ≤ kind ∧ kind ≤ 3) := by
  unfold ObjKind.ofCode
  split_ifs <;> simp <;> omega

theorem ObjKind.exists_ofCode (h1 : 1 ≤ kind) (h3 : kind ≤ 3) : ∃ k, ObjKind.ofCode kind = some k :=
  Option.ne_none_iff_exists'.1 fun hnone => ObjKind.ofCode_eq_none.1 hnone ⟨h1, h3⟩

/-- Over an open write the write is abandoned with its record, and the command then tested. -/
theorem takeStoreBegin_of_write {w : WriteCtx} (hw : s.store.write = some w) : takeStoreBegin s number kind len
    = takeStoreBegin (storeRecord (abandonWrite s w) .begin w.number .abandoned w.generation w.received)
        number kind len := by
  have hleft : abandonForBegin s
      = storeRecord (abandonWrite s w) .begin w.number .abandoned w.generation w.received := by
    simp [abandonForBegin, hw]
  have hclosed : ∀ u : State, u.store.write = none → abandonForBegin u = u := fun u hu => by
    simp [abandonForBegin, hu]
  unfold takeStoreBegin
  rw [hleft, hclosed _ (by simp [abandonWrite, Store.abandon])]

variable (hw : s.store.write = none)
include hw

theorem takeStoreBegin_bad (h : number = 0 ∨ 255 < number ∨ ¬(1 ≤ kind ∧ kind ≤ 3)) :
    takeStoreBegin s number kind len = storeRecord s .begin number .badRequest 0 0 := by
  have hclosed : abandonForBegin s = s := by simp [abandonForBegin, hw]
  rw [takeStoreBegin, hclosed]
  split
  · rfl
  · rename_i k hk
    have hkind : 1 ≤ kind ∧ kind ≤ 3 := by
      by_contra hno
      cases hk.symm.trans (ObjKind.ofCode_eq_none.2 hno)
    exact if_neg (by omega)

section WellFormed
variable {k : ObjKind} (hk : ObjKind.ofCode kind = some k) (h1 : 1 ≤ number) (h255 : number ≤ 255)
include hk h1 h255

theorem takeStoreBegin_inUse (huse : s.inUse number = true) :
    takeStoreBegin s number kind len = storeRecord s .begin number .inUse 0 0 := by
  simp [takeStoreBegin, abandonForBegin, hw, hk, h1, h255, huse]

theorem takeStoreBegin_noSpace (huse : s.inUse number = false)
    (hrun : findRun s.store.sectors (sectorsFor len) = none) :
    takeStoreBegin s number kind len = storeRecord s .begin number .noSpace 0 0 := by
  simp [takeStoreBegin, abandonForBegin, hw, hk, h1, h255, huse, hrun]

theorem takeStoreBegin_placed {first : Nat} (huse : s.inUse number = false)
    (hrun : findRun s.store.sectors (sectorsFor len) = some first) : takeStoreBegin s number kind len
      = s.setStore (s.store.beginWrite (s.store.newWrite number k len first)) := by
  simp [takeStoreBegin, abandonForBegin, hw, hk, h1, h255, huse, hrun]

end WellFormed

end Begin

/-! #### STORE-DATA, STORE-END and STORE-DELETE (R159 to R161) -/

section Others
variable {w : WriteCtx} {e : CatEntry} {offset number : Nat} {bytes : List Byte} {check : Check}

theorem takeStoreData_noWrite (hw : s.store.write = none) :
    takeStoreData s offset bytes = storeRecord s .data 0 .noWrite 0 0 := by
  simp [takeStoreData, hw]

theorem takeStoreEnd_noWrite (hw : s.store.write = none) :
    takeStoreEnd s check = storeRecord s .stop 0 .noWrite 0 0 := by
  simp [takeStoreEnd, hw]

theorem WriteCtx.inOrder_iff {count : Nat} :
    w.inOrder offset count = true ↔ offset = w.received ∧ offset + count ≤ w.length := by
  simp [WriteCtx.inOrder]

section OpenWrite
variable (hw : s.store.write = some w)
include hw

theorem takeStoreData_outOfOrder (h : offset ≠ w.received ∨ w.length < offset + bytes.length) :
    takeStoreData s offset bytes
      = storeRecord (abandonWrite s w) .data w.number .orderError w.generation w.received := by
  have horder : ¬w.inOrder offset bytes.length = true := fun horder => by
    obtain ⟨hoffset, hlength⟩ := WriteCtx.inOrder_iff.1 horder
    omega
  simp [takeStoreData, hw, horder]

theorem takeStoreData_inOrder (hoffset : offset = w.received) (hlength : offset + bytes.length ≤ w.length) :
    takeStoreData s offset bytes
      = s.setStore (s.store.serve (.data bytes) (lineOps (bodyAddress w.first offset) bytes)) := by
  simp [takeStoreData, hw, WriteCtx.inOrder_iff.2 ⟨hoffset, hlength⟩]

theorem takeStoreEnd_mismatch (h : w.received ≠ w.length ∨ check ≠ w.check) : takeStoreEnd s check
    = storeRecord (abandonWrite s w) .stop w.number .checkMismatch w.generation w.received := by
  have hno : ¬(w.received = w.length ∧ check = w.check) := fun ⟨hlength, hcheck⟩ => h.elim (· hlength) (· hcheck)
  simp [takeStoreEnd, hw, hno]

theorem takeStoreEnd_inUse (hlength : w.received = w.length) (hcheck : check = w.check)
    (huse : s.inUse w.number = true) :
    takeStoreEnd s check = storeRecord s .stop w.number .inUse w.generation w.received := by
  simp [takeStoreEnd, hw, hlength, hcheck, huse]

theorem takeStoreEnd_matched (hlength : w.received = w.length) (hcheck : check = w.check)
    (huse : s.inUse w.number = false) :
    takeStoreEnd s check = s.setStore (s.store.serve (.stop false) (s.store.endOps w)) := by
  simp [takeStoreEnd, hw, hlength, hcheck, huse]

theorem takeStoreDelete_busy (hnumber : w.number = number) :
    takeStoreDelete s number = storeRecord s .delete number .busy w.generation 0 := by
  simp [takeStoreDelete, Store.writeOf, hw, hnumber]

end OpenWrite

section Delete
variable (hw : ∀ w ∈ s.store.write, w.number ≠ number)
include hw

theorem Store.writeOf_eq_none : s.store.writeOf number = none := by
  unfold Store.writeOf
  split
  · rename_i w hwrite
    exact if_neg (hw w hwrite)
  · rfl

theorem takeStoreDelete_notFound (hfind : catFind s.store.catalog number = none) :
    takeStoreDelete s number = storeRecord s .delete number .notFound 0 0 := by
  simp [takeStoreDelete, Store.writeOf_eq_none hw, hfind]

theorem takeStoreDelete_inUse (hfind : catFind s.store.catalog number = some e) (huse : s.inUse number = true) :
    takeStoreDelete s number = storeRecord s .delete number .inUse e.generation 0 := by
  simp [takeStoreDelete, Store.writeOf_eq_none hw, hfind, huse]

theorem takeStoreDelete_found (hfind : catFind s.store.catalog number = some e) (huse : s.inUse number = false) :
    takeStoreDelete s number = s.setStore (s.store.serve (.delete number) [deletedMarkOp e.first]) := by
  simp [takeStoreDelete, Store.writeOf_eq_none hw, hfind, huse]

end Delete

end Others

end Taking

/-- Settles O58: the tests by what they look for, and each command by what its taking records or begins. -/
theorem storeCommandsTaken : Obligations.StoreCommandsTaken := by
  refine ⟨fun s number => s.inUse_iff, sectorsFor_eq, fun m count hm hc => ?_,
    fun s rest hs hserving hidle hcurrent hroom => ?_⟩
  · intro fits
    exact ⟨fun first => findRun_eq_some hm hc, findRun_eq_none hm hc, fun first st => ⟨dirtyOf_eq m first count,
      (setSectors_length ..).trans hm, fun i hi => setSectors_getD (hm ▸ hi) ..⟩⟩
  · intro took told begun closed
    refine ⟨fun number kind len w hq hw => ?_, fun number kind len hq hw => ⟨fun hbad => ?_, fun h1 h255 hk1 hk3 => ?_⟩,
      fun offset bytes hq => ⟨fun hw => ?_, fun w hw => ⟨fun hbad => ?_, fun hoffset hlength => ?_⟩⟩,
      fun check hq => ⟨fun hw => ?_, fun w hw => ⟨fun hbad => ?_, fun hlength hcheck => ⟨fun huse => ?_,
        fun huse => ?_⟩⟩⟩,
      fun number hq => ⟨fun w hw hn => ?_, fun hw => ⟨fun hfind => ?_, fun e hfind => ⟨fun huse => ?_,
        fun huse => ?_⟩⟩⟩⟩
    -- STORE-BEGIN over an open write, malformed, and well-formed
    · have hother := exec_taking_of_head (rest := rest) (f := .begin number kind len) (s := { s with
        store := closed w, link := { s.link with tx := s.link.tx.wake },
        report := { s.report with queue := s.report.queue
          ++ [.store ⟨.begin, w.number, .abandoned, w.generation, w.received⟩] } }) hq hs hserving
      refine (exec_taking_of_head hq hs hserving).trans (.trans (congrArg _ ?_) hother.symm)
      exact (takeStoreBegin_of_write (s := took) hw).trans
        (congrArg (takeStoreBegin · number kind len) (storeRecord_setStore (s := took) hroom (closed w) ..))
    · exact exec_taking_of_record hq hs hserving hroom (takeStoreBegin_bad hw hbad)
    · obtain ⟨k, hk⟩ := ObjKind.exists_ofCode hk1 hk3
      refine ⟨fun huse => exec_taking_of_record hq hs hserving hroom (takeStoreBegin_inUse hw hk h1 h255 huse),
        fun huse hrun => exec_taking_of_record hq hs hserving hroom
          (takeStoreBegin_noSpace hw hk h1 h255 huse hrun),
        fun first k huse hrun hk => ?_⟩
      intro w dirty
      have hcode : kind = k.code := ObjKind.ofCode_eq_some.1 hk
      obtain ⟨op, due, hops⟩ : ∃ op due, op :: due = dirty.map StoreOp.erase
          ++ [StoreOp.line (sectorAddress first) (headerBytesOf w)] := by
        cases dirty with
        | nil => exact ⟨_, _, rfl⟩
        | cons i dirty => exact ⟨_, _, rfl⟩
      refine ⟨op, due, hops.trans (by rw [hcode]; rfl), exec_taking_of_serve hq hs hserving
        (st := { s.store with sectors := setSectors s.store.sectors first w.count .used }) hidle hcurrent rfl rfl ?_⟩
      rw [hops]
      exact takeStoreBegin_placed (s := took) hw hk h1 h255 huse hrun
    -- STORE-DATA with no open write, out of order, and in order
    · exact exec_taking_of_record hq hs hserving hroom (takeStoreData_noWrite hw)
    · exact exec_taking_of_record hq hs hserving hroom (takeStoreData_outOfOrder (s := took) hw hbad)
    · refine exec_taking_of_serve (st := s.store) hq hs hserving hidle hcurrent rfl rfl ?_
      rw [← lineOps_eq]
      exact takeStoreData_inOrder (s := took) hw hoffset hlength
    -- STORE-END with no open write, that does not match, and that matches
    · exact exec_taking_of_record hq hs hserving hroom (takeStoreEnd_noWrite hw)
    · exact exec_taking_of_record hq hs hserving hroom (takeStoreEnd_mismatch (s := took) hw hbad)
    · exact exec_taking_of_record hq hs hserving hroom (takeStoreEnd_inUse hw hlength hcheck huse)
    · refine exec_taking_of_serve (st := s.store) hq hs hserving hidle hcurrent rfl rfl ?_
      rw [hcheck]
      exact takeStoreEnd_matched (s := took) hw hlength rfl huse
    -- STORE-DELETE of the write's number, of no object, and of an object
    · exact exec_taking_of_record hq hs hserving hroom (takeStoreDelete_busy hw hn)
    · exact exec_taking_of_record hq hs hserving hroom (takeStoreDelete_notFound hw hfind)
    · exact exec_taking_of_record hq hs hserving hroom (takeStoreDelete_inUse hw hfind huse)
    · exact exec_taking_of_serve (st := s.store) hq hs hserving hidle hcurrent rfl rfl
        (takeStoreDelete_found (s := took) hw hfind huse)

end Sys2Proof.Machine

/-! ### The queue of waiting commands (O2) -/

namespace Sys2Proof.Machine

/-- The next state of the outcome, where it has one, has the waiting commands of `s`. -/
def LeavesPending (s : State) (o : Host.Outcome State Fault Refusal) : Prop :=
  ∀ t, o = .next t → t.pending = s.pending

section Pending
variable {s t : State}

@[simp] theorem leavesPending_next : LeavesPending s (.next t) ↔ t.pending = s.pending := by
  simp [LeavesPending]

@[simp] theorem leavesPending_fault (f : Fault) : LeavesPending s (.fault f) := by
  simp [LeavesPending]

/-- A frame at the head of the command queue is taken by its block, or stays (R149). -/
theorem takesCommand_leavesPending {c : Instr} (hc : c = .setup ∨ c = .query ∨ c = .clear ∨ c = .job) :
    LeavesPending s (exec c s) := by
  rcases hc with rfl | rfl | rfl | rfl <;> simp only [exec, execSetup, execQuery, execClear, execJob] <;> split
  · split <;> simp
  all_goals simp

/-- The two events of a CANCEL differ in the seq they take (R15, R16). -/
theorem takesCancel_leavesPending {c : Instr} (hc : c = .cancel ∨ c = .cancelAll) : LeavesPending s (exec c s) := by
  rcases hc with rfl | rfl <;> simp only [exec, execCancel, execCancelAll] <;> split
  · rw [leavesPending_next]
    split <;> simp
  · simp
  · rw [leavesPending_next]
    split <;> simp
  · simp

/-- A row pulse: the time that passed, the edge, and in ACTIVE the row (R118). -/
theorem execRowPulse_leavesPending (dt : Nat) : LeavesPending s (execRowPulse dt s) := by
  rw [execRowPulse]
  split <;> simp

/-- The end of an operation of the store (R158 to R160). -/
theorem completeOp_leavesPending (isKind : StoreOp → Bool) : LeavesPending s (completeOp s isKind) := by
  rw [completeOp]
  split
  · split
    · split <;> simp
    · simp
  · simp

/-- The failure of an operation, with a command served or without one (R162). -/
theorem execOperationFailed_leavesPending : LeavesPending s (execOperationFailed s) := by
  rw [execOperationFailed]
  split
  · split
    · dsimp only
      split <;> simp
    · simp
  · simp

/-- The end of a load, and of a render, with or without one (R22, R63). -/
theorem endsReader_leavesPending {c : Instr} (hc : c = .loadComplete ∨ c = .renderComplete) :
    LeavesPending s (exec c s) := by
  rcases hc with rfl | rfl
  · cases hl : s.loader with
    | none => simp [exec, execLoadComplete, hl]
    | some l =>
      rw [exec_loadComplete hl, leavesPending_next]
      split <;> simp
  · cases hr : s.raster.rendering with
    | none => simp [exec, execRenderComplete, hr]
    | some r =>
      rw [exec_renderComplete hr, leavesPending_next]
      split <;> simp

/-- With a plan in flight the stage decides whether its step ends; what follows is its next step, or the row's end
(R125, R126). -/
theorem endsPlanStep_leavesPending {c : Instr} (hc : c = .dataLoadComplete ∨ c = .latchComplete
    ∨ c = .mainPulseComplete ∨ c = .boostPulseComplete) : LeavesPending s (exec c s) := by
  cases hp : s.plan with
  | none =>
    rcases hc with rfl | rfl | rfl | rfl <;>
      simp [exec, execDataLoadComplete, execLatchComplete, execMainPulseComplete, execBoostPulseComplete, hp]
  | some p =>
    rcases hc with rfl | rfl | rfl | rfl <;>
      simp only [exec, execDataLoadComplete, execLatchComplete, execMainPulseComplete, execBoostPulseComplete, hp] <;>
      split <;> simp

/-- A request is taken when its reader is there and waits for nothing else (R164, log 23). -/
theorem execStoreReadRequest_leavesPending (reader : Reader) (what : ReadKind) :
    LeavesPending s (execStoreReadRequest reader what s) := by
  unfold execStoreReadRequest
  split <;> split
  · split <;> simp
  · simp
  · split <;> simp
  · simp
  · split <;> simp
  · simp

/-- Every command leaves the queue: the step alone takes a command from it. -/
theorem exec_leavesPending (c : Instr) (s : State) : LeavesPending s (exec c s) := by
  cases c
  case coldStart => simp [exec, execColdStart, State.afterColdStart]
  case scanComplete | slwHoldExpiry =>
    simp only [exec, execScanComplete, execSlwHoldExpiry, leavesPending_next]
    split <;> simp
  case rowPulse dt => exact execRowPulse_leavesPending dt
  case setup | query | clear | job => exact takesCommand_leavesPending (by simp)
  case cancel | cancelAll => exact takesCancel_leavesPending (by simp)
  case sectorEraseComplete | lineProgramComplete | markProgramComplete => exact completeOp_leavesPending _
  case operationFailed => exact execOperationFailed_leavesPending
  case minimumRunComplete => simp [exec_minimumRunComplete]
  case suspendComplete =>
    by_cases hp : s.store.phase = .suspending
    · simp [exec_suspendComplete hp]
    · simp [exec_suspendComplete_of_not_suspending hp]
  case loadComplete | renderComplete => exact endsReader_leavesPending (by simp)
  case dataLoadComplete | latchComplete | mainPulseComplete | boostPulseComplete =>
    exact endsPlanStep_leavesPending (by simp)
  case storeReadRequest reader what => exact execStoreReadRequest_leavesPending reader what
  -- each of the others is one shared operation in every state
  all_goals exact leavesPending_next.2 (by simp)

end Pending

/-- Settles O2: by the frames of the operations that each command's meaning is made of. -/
theorem execKeepsPending : Obligations.ExecKeepsPending := exec_leavesPending

end Sys2Proof.Machine

/-! ### The values of reset (O4) -/

namespace Sys2Proof.Machine

/-- Settles O4, by the reset of each block. -/
theorem resetValues : Obligations.ResetValues := by
  simp only [Obligations.ResetValues, State.reset, State.afterColdStart, Raster.reset, Ring.empty, HeadLines.idle,
    Link.reset, Counts.zero, Setup.cleared, Store.reset, and_self]

end Sys2Proof.Machine
